-- ==== Sys2Proof/Word.lean ====
section
/-! DEFINITION. The word and byte types of the PRD96 and the plain description of one register field.
A register of BAR0 is 32 bits wide (R34). The model holds a register FIELD BY FIELD: a field is named by its register's offset
(of unit 0), its lowest bit and its width, as the register tables of the spec give them. -/

namespace Sys2Proof

/-- A BAR0 register word (R34). -/
abbrev Word := BitVec 32

/-- A byte of HBM or of the persistent store. -/
abbrev Byte := BitVec 8

/-- The access codes of a register table (00_scope.md, Access codes). -/
inductive Acc where
  | ro | rw | wo | w1c | w1s | rws
deriving DecidableEq, Repr

/-- One field of one register: the BAR0 offset of the register in unit 0, the lowest bit, the width, the value at reset
(a field whose Reset column says fuse, image or strap has 0 here; State.reset and the image load set it), the access code. -/
structure Fld where
  base : Nat
  lo : Nat
  width : Nat
  rst : Nat
  acc : Acc
deriving DecidableEq, Repr

/-- One register of a table: its name, the offset of unit 0, the strides and counts of its repetitions (outermost first)
and its fields. -/
structure RegSpec where
  name : String
  base : Nat
  dims : List (Nat × Nat)
  flds : List Fld
deriving DecidableEq, Repr

end Sys2Proof
end

