-- ==== Sys2Proof/Syntax.lean ====
section
/-! DEFINITION. The commands of the block: one constructor for each row of the opcode table, each docstring naming the rule of the
spec the row rests on. A register write carries the principal `p` the fabric stamps on it; an admin command carries the function
`f` whose queue pair it stands on and the bytes found at its PAYLOAD; an event from the outside carries what the outside supplies;
a cue instruction carries the thread that issues it. -/

namespace Sys2Proof

/-- The readers an uncorrectable HBM error may reach (R55). -/
inductive HbmReader where
  | bar2 (f : Nat) | core (pair : Nat) | layer (pipe layer : Nat) | pipe (n : Nat) | arcade (engine slot : Nat) | audio
deriving DecidableEq, Repr

/-- The two halves of the management port (R635, R638). -/
inductive MgmtPort where
  | mspi | smbus
deriving DecidableEq, Repr

/-- What an ST 352 payload ID says (the bit layout is that of SMPTE ST 352, outside the spec): whether it agrees with the
measured raster and rate, PsF, structure, transfer characteristic and colorimetry (R205, R206). -/
structure Vpid where
  agrees : Bool
  psf : Bool
  struct : Nat
  transfer : Nat
  color : Nat
deriving DecidableEq, Repr

/-- What the measurement of a received frame names (R161, R205): the format code of the measured raster and rate read as carried,
the format code when segmented fields are read as PsF (0 when there is none), and whether rate and raster allow only
structures 1 to 4. -/
structure Meas where
  fmt : Nat
  fmtPsF : Nat
  multi : Bool
deriving DecidableEq, Repr

/-- An ancillary data packet as a framer finds it: stream (1 Y, 2 C), link, line, HANC, word position, and its 10-bit words from the DID to the
checksum (R226). -/
structure AncPkt where
  stream : Nat
  link : Nat
  line : Nat
  hanc : Bool
  hpos : Nat
  words : List Nat
deriving DecidableEq, Repr

/-- One pixel as received or composed: three components. -/
structure Pixel where
  y : Nat
  cb : Nat
  cr : Nat
deriving DecidableEq, Repr, Inhabited

/-- One index of one kind in the object table (R25 to R29, R78 to R91). -/
structure Obj where
  gen : Nat
  live : Bool
  draining : Bool
  owner : Nat
  grants : List Nat
  service : Bool
deriving DecidableEq, Repr

/-- The context of one ring (R93). -/
structure RingCtx where
  base : Nat
  bufLen : Nat
  size : Nat
  esize : Nat
  host : Bool
  hostProduces : Bool
  armed : Bool
  overflow : Bool
  pi : Nat
  ci : Nat
  owner : Nat
  vector : Nat
  occ : Nat
  drops : Nat
  handle : Nat
deriving DecidableEq, Repr

/-- What a stage entry is keyed by (R434): a Plaza destination, a layer, an Undercoat, an output matrix, a Skim rectangle, a field of
a route by its handle (0 map, 1 gain, 2 delay, 3 mute), INP.SYNC_STG of a context, CVA.JOB_STG of a job by its index. -/
inductive StageKey where
  | sel (d : Nat) | layer (n l : Nat) | uc (n : Nat) | om (n : Nat) | skim (n r : Nat) | route (h field : Nat)
  | sync (h t : Nat) | job (h : Nat)
deriving DecidableEq, Repr

/-- An entry of a stage buffer (R434): its key and the words staged, by their place in the target's descriptor. -/
structure StageEnt where
  key : StageKey
  vals : List (Nat × Nat)
deriving DecidableEq, Repr

/-- What a WAITING thread waits for (R417, R429, R433, R436, R442): frame boundaries, a line, an event with its timeout in frames and the island time
at which as many frame periods have passed, an epoch time, the target of a COMMIT, a lifecycle state of a unit, the delivery of its last COMMIT, a determinism record (R444). -/
inductive Wait where
  | none
  | frames (n : Nat)
  | line (l : Nat)
  | event (h code : Nat) (frames : Option Nat) (due : Nat)
  | until' (t : Nat)
  | target (tgt : Nat)
  | unit (h want : Nat)
  | fence
  | record (since : Nat)
deriving DecidableEq, Repr

/-- A cue thread besides its registers (R416, R417, R427, R434): ENTRY, event ring, call stack, stage buffer, what it waits for, and the
status the wait has ended with once what it waits for has come; the number of the first value of its last accepted COMMIT. -/
structure CueX where
  entry : Nat
  ring : Nat
  stack : List Nat
  stage : List StageEnt
  wait : Wait
  woken : Option Nat
  com : Nat
deriving DecidableEq, Repr

/-- One staged value of an accepted COMMIT that is not live yet (R438, R49 to R51): its number, timeline, target FSN, thread, entry, whether it
has arrived at its unit, whether its switch line passed before. -/
structure Staged where
  id : Nat
  tln : Nat
  tgt : Nat
  thread : Nat
  ent : StageEnt
  delivered : Bool
  missed : Bool
deriving DecidableEq, Repr

/-- The body of a determinism record (R582). A SYNC kind is 0 advance, 1 repeat, 2 drop, 3 freeze, 4 loss plane. -/
inductive DetBody where
  | frame (target : Int) (slew cut : Bool)
  | sync (port kind ifc sig : Nat)
  | path (dest path cause : Nat)
  | arc (job ifc sig phi mode : Nat) (cut : Bool) (cadence : Nat)
  | asrc (port group state ratio da npcm : Nat)
  | ins (slot : Nat) (smp : List (List Int))
  | anci (pipe : Nat) (record : List Nat)
  | commit (thread pc status target digest : Nat)
  | param (thread index value : Nat)
  | waite (thread pc status : Nat)
  | post (thread ring status : Nat) (words : List Nat)
  | admin (f : Nat) (cmd arg : List Nat) (status handle result : Nat) (bank : List (Nat × Nat))
  | reg (offset value : Nat)
  | endMark (count : Nat)
deriving DecidableEq, Repr

/-- A PTP message as the timing lane delivers it (R487): kind 0 Sync, 1 Follow_Up, 2 Announce, 3 Delay_Resp, 4 another (it may carry the
synchronisation metadata TLV); whether version and length are right; domain; logMessageInterval; the sender; for Announce its dataset
in the order of the comparison of IEEE 1588 (six numbers) and stepsRemoved; whether a Sync is two-step; the timestamp it carries and
the device-epoch time of its arrival, in ns; the words of the TLV; its sequence number; for Delay_Resp the port identity that it answers;
the VLAN ID of its IEEE 802.1Q tag, if it has one. -/
structure PtpMsg where
  kind : Nat
  ok : Bool
  domain : Nat
  interval : Int
  src : Nat
  data : List Nat
  steps : Nat
  twoStep : Bool
  stamp : Nat
  rx : Nat
  tlv : Option (List Nat)
  seq : Nat
  req : Nat
  vlan : Option Nat
deriving DecidableEq, Repr

/-- A determinism record (R582): its timeline, FSN and body. -/
structure DetRec where
  tln : Nat
  fsn : Nat
  body : DetBody
deriving DecidableEq, Repr

/-- One item of the state copy (R580, R581). Memory is named by the object it belongs to, the place of the allocation among those of the object
and the offset in it, since each card chooses its own places (R671). The numbers of a surface, job or route are those of its structure in
Machine/State.lean, in order. -/
inductive CopyItem where
  | mem (key nth ofs : Nat) (bytes : List Nat)
  | alloc (len key nth : Nat) (hidden readOnly : Bool)
  | obj (kind idx : Nat) (o : Obj) (prin : Nat)
  | prog (idx : Nat) (words : List Nat)
  | thread (t : Nat) (x : CueX)
  | reg (key u k v : Nat)
  | staged (x : Staged)
  | ring (idx : Nat) (r : RingCtx)
  | bind (key ring : Nat)
  | surf (idx : Nat) (nums : List Nat)
  | job (idx : Nat) (nums engs : List Nat) (bank : List (Nat × Nat))
  | route (idx : Nat) (nums : List Nat) (m : Int)
  | charge (c v : Nat)
deriving DecidableEq, Repr

/-- A HELLO (R572): kind, mode code and side of the sender (false A, true B), the first 32 bytes of the digest of its running firmware image as
words, and for each of its running timelines the FSN of a frame and the scheduled start of that frame (R573). -/
structure Hello where
  kind : Nat
  mode : Nat
  side : Bool
  digest : List Nat
  tlns : List (Nat × Nat × Nat)
deriving DecidableEq, Repr


/-- The commands, one for each row of the opcode table. -/
inductive Instr where
  /-- R30. A write to a register that has no row of its own is decoded, checked against presence, principal and RWS state, and applied or refused whole. -/
  | registerWrite (p addr width data mark : Nat)
  /-- R31. A write of ones to a W1C event flag clears those bits, unless the hardware sets them again in the same cycle. -/
  | w1cFlagClear (p addr width data again : Nat)
  /-- R108. A read of the low word of a 64-bit counter returns it and copies the high word into the reader's holding register. -/
  | counterLowRead (p addr width mark : Nat)
  /-- R472. A read of REF.EPOCH_NS copies the epoch seconds into the reader's holding register. -/
  | epochNsRead (p : Nat)
  /-- R44. A timeline generator reaches the scheduled start of a line and delivers the line event, carrying timeline, FSN, line and time, to every island. -/
  | timelineLineEvent (t : Nat)
  /-- R49. A staged value of an accepted COMMIT arrives over the staging path at its unit's staging register. -/
  | stagedValueDelivery (item : Nat)
  /-- R55. An HBM read finds an uncorrectable word; the reader substitutes data or fails, raises ECC_UNCORR and the fault log records the address. -/
  | hbmEccUncorr (reader : HbmReader) (addr : Nat) (hit : List (Nat × Nat))
  /-- R101. Firmware takes the next command from an admin command ring once it has reserved a completion entry for it. -/
  | adminCommandTake (f : Nat) (entry : List Nat)
  /-- R76. Opens a session bound to the calling principal and returns its handle. -/
  | sessionOpen (f : Nat) (payload : List Nat)
  /-- R82. Destroys every object of the session, releases its fixed units and leaves the session DRAINING until its last object is freed. -/
  | sessionClose (f : Nat) (payload : List Nat)
  /-- R79. Gives a second session read use of one surface or ring. -/
  | grant (f : Nat) (payload : List Nat)
  /-- R79. Ends a grant for every new use; live references end at their next switch line. -/
  | revoke (f : Nat) (payload : List Nat)
  /-- R89. Frees an object at once when its use count is 0, otherwise puts its handle into DRAINING. -/
  | destroy (f : Nat) (payload : List Nat)
  /-- R89. The use count of a DRAINING object reaches 0; its memory and index are freed. -/
  | objectFreed (h : Nat)
  /-- R81. Moves a fixed unit to the calling session and returns its handle, incrementing its generation when taken from firmware. -/
  | unitAcquire (f : Nat) (payload : List Nat)
  /-- R105. Passes a fixed unit back to the firmware session. -/
  | unitRelease (f : Nat) (payload : List Nat)
  /-- R95. Creates a ring with its context, allocating HBM for an HBM ring. -/
  | ringCreate (f : Nat) (payload : List Nat)
  /-- R93. Writes the ring's 64-byte context to PAYLOAD. -/
  | ringQuery (f : Nat) (payload : List Nat)
  /-- R105. Clears OVERFLOW and DROPS of a ring and returns the previous DROPS. -/
  | ringClear (f : Nat) (payload : List Nat)
  /-- R106. Binds or unbinds the masked events of a group of a source to a ring. -/
  | eventBind (f : Nat) (payload : List Nat)
  /-- R98. A write of MBX.RING_DB_HI moves PI or CI of the ring named in RING_DB_LO, optionally arming its interrupt. -/
  | ringDoorbell (p f data : Nat)
  /-- R100. A write of MBX.ADMQ_CFG.ENABLE starts or stops firmware service of the function's admin queue pair. -/
  | admqEnable (p f data : Nat)
  /-- R100. After ENABLE is cleared, the last taken command completes and ACTIVE falls. -/
  | admqDrained (f : Nat)
  /-- R83. A Function Level Reset closes every session of the affected function. -/
  | functionLevelReset (f : Nat)
  /-- R129. ENABLE written to 1 starts the lane's receiver in HUNT, or Gistra training. -/
  | laneEnable (p lane data : Nat)
  /-- R129. ENABLE written to 0 stops the CDR, aborts any eye scan and idles the transmitter. -/
  | laneDisable (p lane data : Nat)
  /-- R129. The CDR has held phase and frequency lock for 20 µs; the lane enters LOCKED and raises LOCK. -/
  | laneLock (lane rate freqOfs : Nat)
  /-- R129. SIG_DET low, loss of phase lock or a frequency out of range moves the lane from LOCKED to HUNT and raises LOSS. -/
  | laneLoss (lane : Nat) (amplitude : Bool)
  /-- R130. Under AUTO, 1 ms without lock at one family moves the CDR to the next family. -/
  | autoHuntTimeout (lane : Nat)
  /-- R141. A write of START to LNE.ESCAN_CTL starts an eye-scan point or is refused. -/
  | escanStart (p lane data : Nat)
  /-- R142. A write of ABORT to LNE.ESCAN_CTL stops a running point. -/
  | escanAbort (p lane data : Nat)
  /-- R142. The point has compared 2^DWELL bits; STATE becomes DONE and ESCAN_DONE is raised. -/
  | escanDwellDone (lane errs : Nat)
  /-- R146. The island-served Set lane bypass operation sets or clears the bypass of a target lane. -/
  | mgmtBypass (port : MgmtPort) (target ctl : Nat)
  /-- R164. The SDI framer in SEARCH finds two equally spaced EAVs, fixes level and structure and enters ALIGNED. -/
  | sdiTrsAlign (lane lines words streams level : Nat) (fields : Bool)
  /-- R167. An aligned framer receives a line and checks its EAV, CRC and line number. -/
  | sdiLineReceived (lane line ds : Nat) (skewNs : Int) (words : List Nat)
  /-- R168. An EDH packet at 270 Mbit/s is checked and mismatches are counted and raised as EDH_ERR. -/
  | edhPacketReceived (lane line : Nat) (packet : Option (List Nat))
  /-- R170. An ST 352 packet with a good checksum is captured into LNE.SDI_VPID. -/
  | vpidPacketReceived (lane line : Nat) (words : List Nat)
  /-- R170. No valid payload ID for 2 frames clears VPID_VALID. -/
  | vpidTimeout (lane : Nat)
  /-- R184. A received Gistra-link block is checked and delivered to its stream, or discarded and counted. -/
  | gistraBlockReceived (lane : Nat) (groups : List Nat) (skipDel skipIns : Nat) (xf : Option (Nat × Nat × List (List Pixel)))
  /-- R188. At a block boundary the transmitter sends the next ready block by class and round robin, or a skip set. -/
  | gistraBlockSend (lane : Nat) (ready : List (Nat × List Nat)) (xfeed : List (Nat × Nat × Nat)) (complete : Bool)
  /-- R191. A missing SEQ not arrived 1 µs after a later SEQ is recorded as a gap and skipped. -/
  | seqGapTimeout (lane : Nat)
  /-- R192. Every 1 ms an UP lane sends a quality word and a lane identifier. -/
  | qwSend (lane : Nat)
  /-- R192. A received quality word with a good CHECK is loaded into LNE.GL_QW. -/
  | qwReceived (lane word : Nat)
  /-- R192. No good quality word for 3 ms on an UP lane raises QW_LOSS once. -/
  | qwLoss (lane : Nat)
  /-- R194. A received training sequence drives polarity, reversal, width and ACK handling of link training. -/
  | tsReceived (lane offered width lid : Nat) (ack posDisp commaHeld : Bool)
  /-- R195. 2 ms at one rate without UP steps the rate down, or at 4.0 Gbit/s starts the 100 ms retry. -/
  | trainRateTimeout (lane : Nat)
  /-- R195. The 100 ms retry time passes and the link re-enters TRAIN at RX_RATE. -/
  | trainRetryTimeout (lane : Nat)
  /-- R199. Code errors, comma loss or lane loss move an UP link back to TRAIN and raise LINK_DOWN. -/
  | retrainCondition (lane cause : Nat)
  /-- R201. A write to LNE.CNT_CLR clears the lane's SDI or Gistra error counters. -/
  | cntClr (p lane data : Nat)
  /-- R203. A start request to an input port allocates its store and history, admits its charge and arms it. -/
  | inpStart (p n : Nat)
  /-- R203. A stop request to an input port lets the frame being written complete or be lost. -/
  | inpStop (p n : Nat)
  /-- R219. Line 1 of a new input frame arrives and the port picks the oldest free slot to write it. -/
  | inputFrameStart (n : Nat)
  /-- R207. An input frame's last active line is written and its determination is judged by the detection state machine. -/
  | inputFrameComplete (n : Nat)
  /-- R221. FREEZE_MS elapses during loss; LOSS_FALLBACK is raised and contexts change to the fallback plane at their next decision. -/
  | freezeMsExpiry (n : Nat)
  /-- R225. An uncorrectable FIFO error discards the frame, raises IN_FAULT and stops the port. -/
  | inputFifoEccFault (n addr : Nat)
  /-- R226. An ANC packet is checked, matched against the filters and written to its capture ring. -/
  | ancPacketReceived (n : Nat) (pkt : AncPkt)
  /-- R228. A write of INP.ANCF_RING checks the named ring and binds it to the filter. -/
  | ancfRingWrite (p n filter ring : Nat)
  /-- R253. During a street frame a needed line is missing or the port leaves VALID; LY0 goes transparent to frame end. -/
  | streetLineMiss (dest line cause : Nat)
  /-- R262. A write of PLZ.GANG_CFG gangs or ungangs four pipelines onto a quad-link group. -/
  | gangCfgWrite (p data : Nat)
  /-- R259. Creates a clone group that drives member lanes from a head pipeline. -/
  | cloneCreate (f : Nat) (payload : List Nat)
  /-- R280. Checks, places, allocates and admits an Arcade job and returns its handle. -/
  | jobCreate (f : Nat) (payload : List Nat) (bank : List (Nat × Nat))
  /-- R284. A start request to a job clears its history and arms it. -/
  | jobStart (p engine slot : Nat)
  /-- R284. A stop request lets the job's output frame in progress complete. -/
  | jobStop (p engine slot : Nat)
  /-- R286. An uncorrectable local-store error fails the engine and faults every job on it. -/
  | engineLocalStoreFault (engine addr : Nat)
  /-- R323. Creates a surface of a given format and size and returns its handle and BAR2 offset. -/
  | surfaceCreate (f : Nat) (payload : List Nat)
  /-- R364. A start request to an output pipeline is checked, admitted and arms the pipeline. -/
  | outStart (p n : Nat)
  /-- R362. A stop request lets the pipeline's current frame complete. -/
  | outStop (p n : Nat)
  /-- R359. A pipeline's raster line starts and it sends TRS, picture, audio and ANC for it. -/
  | pipelineLineStart (n fsn line : Nat) (host : List (List Nat))
  /-- R373. A fetch is not complete at a line's first active sample; the rest of the frame carries UC_COLOR. -/
  | lineUnderrun (n mask : Nat) (slate : Bool)
  /-- R362. An uncorrectable line-store error raises PIPE_FAULT and stops the pipeline. -/
  | lineStoreEccFault (n addr : Nat)
  /-- R368. A write of OUT.ANC_RING checks and binds the insert ring. -/
  | ancRingWrite (p n ring : Nat)
  /-- R375. Creates the Skim set of a pipeline. -/
  | skimCreate (f : Nat) (payload : List Nat)
  /-- R394. Creates an audio route with its fade. -/
  | routeCreate (f : Nat) (payload : List Nat)
  /-- R387. An audio data packet of a group is de-embedded, stamped and measured. -/
  | audioPacketReceived (n g time : Nat) (smp : List Int) (wide : Bool) (otherRate : Bool)
  /-- R387. 100 ms of in-range packets move a group from ACQUIRE to LOCKED or from RATE_FAULT to ACQUIRE. -/
  | groupRateWindow (n g : Nat) (ofs : Int)
  /-- R387. No packet of a LOCKED group for 4 ms starts hold-and-decay and raises GRP_LOSS. -/
  | groupPacketTimeout (n g : Nat)
  /-- R389. At each 1 ms block the ASRC recomputes RATIO and moves Da toward its target. -/
  | asrcBlock (n : Nat)
  /-- R398. Each 48 kHz grid sample the routes compute their output samples. -/
  | audioGridSample (host : List (Nat × List Nat))
  /-- R404. ST 337 preambles make a pair non-PCM, or their absence for 100 ms makes it PCM. -/
  | npcmChange (n g pair : Nat) (on' : Bool)
  /-- R407. A write of AUD.INS_RING checks and binds an insert ring. -/
  | insRingWrite (p slot ring : Nat)
  /-- R409. A write of AUD.TAP_RING binds a tap ring and sets TAP_G0. -/
  | tapRingWrite (p slot ring : Nat)
  /-- R410. An uncorrectable shuffle-buffer error zeroes the samples of the word and raises ECC_UNCORR. -/
  | shuffleBufferEcc (addr : Nat) (held : List (Nat × Nat))
  /-- R420. Checks and stores a cue program and returns its handle. -/
  | programLoad (f : Nat) (payload : List Nat)
  /-- R416. Binds a thread to a program, ring, timeline and entry point. -/
  | threadBind (f : Nat) (payload : List Nat)
  /-- R418. Starts a bound thread at its entry point. -/
  | threadStart (f : Nat) (payload : List Nat)
  /-- R418. Stops a thread and discards its stage buffer. -/
  | threadStop (f : Nat) (payload : List Nat)
  /-- R423. A write of CUE.PARAM by the binding session's principal sets a parameter word. -/
  | paramWrite (p t index data : Nat)
  /-- R427. Does nothing. -/
  | nop (t : Nat)
  /-- R427. Branches to the operand. -/
  | br (t : Nat)
  /-- R427. Branches when g(d) is 0. -/
  | brz (t : Nat)
  /-- R427. Branches when g(d) is not 0. -/
  | brnz (t : Nat)
  /-- R427. Pushes the return index and branches. -/
  | call (t : Nat)
  /-- R427. Pops the call stack into PC. -/
  | ret (t : Nat)
  /-- R427. Decrements g(d) and branches when it is not 0. -/
  | loopOp (t : Nat)
  /-- R417. Stops the thread, discards its stage buffer and raises HALTED. -/
  | halt (t : Nat)
  /-- R428. Loads the operand into g(d). -/
  | ldi (t : Nat)
  /-- R428. Adds the operand to g(d). -/
  | add (t : Nat)
  /-- R428. Subtracts the operand from g(d). -/
  | sub (t : Nat)
  /-- R428. ANDs the operand into g(d). -/
  | andOp (t : Nat)
  /-- R428. ORs the operand into g(d). -/
  | orOp (t : Nat)
  /-- R428. XORs the operand into g(d). -/
  | xorOp (t : Nat)
  /-- R428. Shifts g(d) left. -/
  | shl (t : Nat)
  /-- R428. Shifts g(d) right, logical or arithmetic. -/
  | shr (t : Nat)
  /-- R428. Compares g(d) with the operand, unsigned, signed or modulo. -/
  | cmp (t : Nat)
  /-- R428. Loads a parameter word or special value into g(d). -/
  | ldp (t : Nat)
  /-- R428. Stores g(d) into a parameter word. -/
  | stp (t : Nat)
  /-- R429. Waits for a number of frame boundaries. -/
  | waitf (t : Nat)
  /-- R429. Waits for a line, optionally relative to the kerb line. -/
  | waitl (t : Nat)
  /-- R429. Waits for an event of a source, with an optional frame timeout. -/
  | waite (t : Nat)
  /-- R429. Waits for a number of microseconds. -/
  | waitt (t : Nat)
  /-- R429. The awaited event or time arrives and a WAITING thread resumes. -/
  | waitComplete (t : Nat)
  /-- R430. Stages a Plaza select for a destination. -/
  | take (t : Nat)
  /-- R430. Stages SURF, CTL and FILL of a layer, or the Undercoat words. -/
  | layer (t : Nat)
  /-- R430. Stages the source and destination rectangles of a layer. -/
  | laypos (t : Nat)
  /-- R430. Stages a layer matrix or the output matrix. -/
  | matrix (t : Nat)
  /-- R430. Stages a Skim rectangle. -/
  | skimx (t : Nat)
  /-- R431. Replaces the member list of a clone group at once. -/
  | clone (t : Nat)
  /-- R437. Checks, admits and accepts the stage buffer for target FSN, or returns it late, waits or discards. -/
  | commit (t : Nat)
  /-- R436. A COMMIT waiting for a target ahead reissues when N reaches it. -/
  | commitTargetReached (t : Nat)
  /-- R432. Stages SRC and DST of a route. -/
  | amap (t : Nat)
  /-- R432. Stages GAIN of a route. -/
  | again (t : Nat)
  /-- R432. Stages DELAY of a route. -/
  | adelay (t : Nat)
  /-- R432. Stages MUTE of a route. -/
  | amute (t : Nat)
  /-- R433. Sends a stop request to a unit, optionally waiting for STOPPED. -/
  | uhalt (t : Nat)
  /-- R433. Writes or stages a register of a unit. -/
  | uset (t : Nat)
  /-- R433. Sends a start request to a unit, optionally waiting for RUNNING. -/
  | urun (t : Nat)
  /-- R442. Writes an event to the thread's ring. -/
  | emit (t : Nat)
  /-- R442. Writes one entry from parameter words into a ring. -/
  | post (t : Nat)
  /-- R442. Waits until the thread's writes and last COMMIT are delivered. -/
  | fence (t : Nat)
  /-- R452. Configures a reference candidate. -/
  | candConfig (f : Nat) (payload : List Nat)
  /-- R454. A candidate's signal becomes valid or invalid and its state moves. -/
  | candSignalChange (c : Nat) (valid : Bool) (mark : Nat)
  /-- R455. Once each second each valid candidate is measured and its state, flags and selection are updated. -/
  | freqMeasurement (ms : List (Nat × Int × Nat))
  /-- R456. The wait-to-restore timer elapses and the candidate leaves WAIT. -/
  | wtrExpiry (c : Nat)
  /-- R465. The phase error has stayed within ±100 ns for 1 s; the DPLL enters LOCKED. -/
  | dpllLockQualify
  /-- R465. Steering held at the clamp bound for 1 s engages the clamp and disqualifies the selected candidate. -/
  | pullInClamp
  /-- R465. A write of REF.CFG changes DPLL mode, forcing or QL ranking and reruns selection. -/
  | refCfgWrite (p data : Nat)
  /-- R467. A write of REF.MAN_HI sets manual steering. -/
  | manHiWrite (p data : Nat)
  /-- R471. FR_START seconds after first entry to IDLE with no selection the epoch starts free-running. -/
  | frStartExpiry
  /-- R477. A write of REF.TLN_CFG starts, restarts or stops a timeline. -/
  | tlnCfgWrite (p t data : Nat)
  /-- R478. A timeline starts at its first alignment point at or after the start. -/
  | timelineAlignStart (t : Nat)
  /-- R480. A write of REF.TLN_PHASE changes the target phase. -/
  | tlnPhaseWrite (p t data : Nat)
  /-- R481. Each 1 ms of a slew moves the actual phase toward the target. -/
  | slewStep (t : Nat)
  /-- R484. A write of REF.TLN_SLEW.CUT requests a cut. -/
  | tlnCut (p t data : Nat)
  /-- R487. A Sync, Follow_Up, Announce or Delay_Resp message is accepted and processed. -/
  | ptpMessageReceived (m : PtpMsg)
  /-- R487. The port sends a Delay_Req at the interval given. -/
  | ptpDelayReqSend (t3 : Nat)
  /-- R488. No Announce for ANN_TO intervals or no Sync for 1 s returns the port to LISTENING. -/
  | ptpTimeout
  /-- R502. A locked sequence exceeds TIMEOUT cycles and the lock breaks. -/
  | lockTimeout (seg p addr : Nat) (write : Bool)
  /-- R506. A transaction without response 64 µs after grant receives SC_NOT_READY. -/
  | fabricTimeout (seg p master addr : Nat) (write : Bool)
  /-- R512. A write of FAB.FW_BASE_HI changes a firewall region. -/
  | fwRegionWrite (p r word data : Nat)
  /-- R517. A write of MBX.TX_POST builds a notice from the holding words and queues it or fails. -/
  | txPost (p data : Nat)
  /-- R521. A write of MBX.MB_POP removes notices and gives delivered completions. -/
  | mbPop (p m data : Nat)
  /-- R522. Setting ARM on a host mailbox sends MSI-X at once when notices are held. -/
  | mbCfgArm (p m data : Nat)
  /-- R532. A read of MBX.LK acquires a free lock or returns its owner. -/
  | lockAcquireRead (p k : Nat)
  /-- R532. A write of 0 by the owner frees the lock. -/
  | lockRelease (p k data : Nat)
  /-- R532. A write with FORCE by a control core frees the lock. -/
  | lockForce (p k data : Nat)
  /-- R530. Firmware returns the payload of an ECHO message on MB0. -/
  | msgEcho (host : Option (List Nat))
  /-- R530. Firmware writes fault-log records into the message block. -/
  | msgFaultlog (host : Option (List Nat))
  /-- R530. Firmware writes the die temperatures into the message block. -/
  | msgTemp (host : Option (List Nat))
  /-- R530. Firmware retries a refused reply post every 100 µs and drops it after 1 s. -/
  | mbReplyRetry
  /-- R538. A write through the NVS data window is accepted or refused whole. -/
  | nvsDataWrite (p addr data : Nat)
  /-- R537. An access to NVS.PORT_DATA reads or writes the store and advances the address. -/
  | nvsPortDataAccess (p : Nat) (write : Bool) (data : Nat)
  /-- R542. A write of NVS.CFG changes block protect, its lock or page mode. -/
  | nvsCfgWrite (p data : Nat)
  /-- R545. A write of NVS.CTL.STORE copies the SRAM into the older bank. -/
  | nvsStore (p data : Nat)
  /-- R547. A write of NVS.CTL.RECALL copies the newer complete bank into SRAM. -/
  | nvsRecall (p data : Nat)
  /-- R544. A STORE or autostore writes its mark and the controller moves on. -/
  | storeComplete
  /-- R546. A RECALL finishes and the controller becomes READY. -/
  | recallComplete (badNewer badOlder : Option Nat)
  /-- R548. PF_N or the VDD_AON monitor starts an autostore and refuses writes. -/
  | powerFail
  /-- R551. PF_N releases after autostore and the controller returns to READY. -/
  | powerFailRelease
  /-- R553. Every 24 h the controller scans both banks at reduced margin. -/
  | marginScan (refreshed : Nat) (badX badY : Option Nat)
  /-- R573. A write of TWN.CTL.PAIR starts or ends pairing. -/
  | twnPairWrite (p data : Nat)
  /-- R589. A write of TWN.CTL.YIELD hands the outputs to the peer. -/
  | twnYield (p data : Nat)
  /-- R573. A write of TWN.CTL.RESYNC restarts the state copy from DIVERGED. -/
  | twnResync (p data : Nat)
  /-- R575. An IDENT record arrives; a new boot nonce increments the twin epoch. -/
  | identReceived (nonce variant stepping : Nat)
  /-- R572. A peer HELLO is checked and pairing proceeds or fails. -/
  | helloReceived (h : Hello)
  /-- R572. No HELLO within 10 s of PAIR fails pairing. -/
  | helloTimeout
  /-- R580. At the cut the primary captures and sends the state of the device. -/
  | stateCopyCut
  /-- R573. The copy completes and matching outputs bring the pair IN_STEP. -/
  | stateCopyComplete (ok : Bool)
  /-- R584. The secondary applies a determinism record or goes DIVERGED. -/
  | decisionRecordReceived (r : DetRec)
  /-- R584. No END record by DEC_WAIT; the secondary decides the frame itself. -/
  | decWaitExpiry (t : Nat)
  /-- R586. A peer line record is compared with the local CRCs. -/
  | lineRecordReceived (pipe line fsn acrc lcrc : Nat)
  /-- R586. A line record missing for 1 ms counts as a gap. -/
  | cmpGapTimeout
  /-- R587. Peer self-check evidence arrives on the control stream. -/
  | evidenceReceived (bit arg : Nat)
  /-- R587. 8 ms after a mismatch the verdict is set and TWIN_FAULT raised. -/
  | verdictTimer
  /-- R590. Side A receives TAKE and releases ACTIVE_N at the switch line. -/
  | twinTakeReceived (fsn : Nat) (yielded : Bool)
  /-- R591. The bundle down for 10 ms or IDENT lost raises PEER_LOST and may take over. -/
  | peerLossTimeout
  /-- R568. The PEER_ALIVE pin changes and side A re-evaluates ACTIVE_N. -/
  | peerAliveChange (high : Bool)
  /-- R591. ON_AIR changes other than by failover and the standby takes at the next switch line. -/
  | activeNetChange (low : Bool)
  /-- R579. A twin time record is sent and echoed to measure link delay for REFC8. -/
  | timeRecord (peer rtt : Nat) (skew : Int)
  /-- R577. A write of TWN.XF_CFG opens or closes a crossfeed stream. -/
  | xfCfgWrite (p k data peerFmt peerStruct : Nat) (peerGang : Bool)
  /-- R578. A notice in MB12 to MB15 is forwarded to the peer, retried every 10 µs while full. -/
  | twinMbForward (j : Nat) (full : Bool)
  /-- R613. Writes a signed attestation report over the nonce block. -/
  | attest (f : Nat) (payload : List Nat)
  /-- R608. A write of SEC.SVN_COMMIT raises the rollback count by burning fuses. -/
  | svnCommit (p data : Nat)
  /-- R608. One rollback bit finishes burning; the last raises BURN_DONE. -/
  | rollbackBitBurn
  /-- R626. PORST_N rises; the management island starts and samples the straps. -/
  | powerUp (boardId : Nat) (side : Bool)
  /-- R599. The fuse load ends, successfully or into LIMP. -/
  | fuseLoadDone (ok : Bool) (row : Nat) (lost : List Nat)
  /-- R602. The boot ROM finishes checking a slot. -/
  | imageCheckDone (hdrA hdrB : Option (List Nat)) (bodyRead digestOk sigOk : Bool) (ms : Nat)
  /-- R626. HBM training ends, or fails its second try. -/
  | hbmTrainDone (failed : List (Nat × Nat)) (ms : Nat)
  /-- R627. Firmware finishes the lockstep check of both pairs. -/
  | lockstepCheckDone (pair0 pair1 : Bool)
  /-- R68. Firmware has applied the defaults image and the device enters IDLE. -/
  | firmwareReady (ms : Nat)
  /-- R628. PERST_N rises and resets the host interface domain. -/
  | perstRise
  /-- R629. Requests a mode transition. -/
  | modeSet (f : Nat) (payload : List Nat)
  /-- R630. A mode transition completes and PENDING clears. -/
  | modeTransitionDone
  /-- R621. A device reset resets every domain except the management island. -/
  | deviceReset (p data : Nat)
  /-- R618. A reset request holds a domain in reset. -/
  | domainReset (p : Nat)
  /-- R623. The reset ends and the domain loads its reset values. -/
  | domainResetEnd (d : Nat)
  /-- R618. An ON request wakes or powers a domain. -/
  | domainOn (p : Nat)
  /-- R618. A SLEEP request stops the domain's clocks. -/
  | domainSleep (p : Nat)
  /-- R618. An OFF request removes the domain's power. -/
  | domainOff (p : Nat)
  /-- R62. A control core pair splits or meets an uncorrectable error and stops. -/
  | lockstepSplit (pair : Nat) (ecc : Option Nat)
  /-- R631. A write of MGT.SVC.START runs a test in SERVICE. -/
  | svcTestStart (p data : Nat)
  /-- R631. A SERVICE test completes and its domain is reset. -/
  | svcTestDone (passed : Bool) (channels : List (Nat × Nat))
  /-- R633. Every 1 ms the sensors are read and the warning is judged. -/
  | tempSample (sensor tj : Nat)
  /-- R634. The comparator trips; THERMTRIP_N asserts, LIMP is entered and domains switch off. -/
  | thermalTrip (sensor tj : Nat)
  /-- R600. Returns the 32-byte identity block. -/
  | mgmtIdRead (port : MgmtPort)
  /-- R636. Returns a fault-log record. -/
  | flogRead (port : MgmtPort) (index : Nat)
  /-- R637. Returns the port's 8-byte status. -/
  | mgmtStatus (port : MgmtPort)
  /-- R636. Returns the hottest die temperature. -/
  | mgmtTemp (port : MgmtPort)
  /-- R636. Forces the device into LIMP. -/
  | forceLimp (port : MgmtPort) (arg : Nat)
  /-- R636. The island-served operation resets a domain. -/
  | mgmtDomainReset (port : MgmtPort) (d : Nat)
  /-- R590. The island-served yield releases ACTIVE_N or sends YIELD. -/
  | twinYield (port : MgmtPort)
  /-- R545. The island-served operation starts a STORE. -/
  | storeNow (port : MgmtPort)
  /-- R542. The island-served operation sets block protect, its lock and page mode. -/
  | mgmtNvsCfg (port : MgmtPort) (data : Nat)
  /-- R636. Reads store bytes over the management port. -/
  | nvsRead (port : MgmtPort) (addr count : Nat)
  /-- R536. Writes store bytes over the management port. -/
  | nvsWrite (port : MgmtPort) (addr : Nat) (bytes : List Nat)
  /-- R636. Forwards a register read through the fabric. -/
  | mgmtRegRead (port : MgmtPort) (addr : Nat)
  /-- R636. Forwards a register write through the fabric. -/
  | mgmtRegWrite (port : MgmtPort) (addr data : Nat)
  /-- R73. A host read or write over BAR2 reaches HBM, or is refused by ownership, the firewall, the write locks or MIRROR. -/
  | hostBar2Access (f addr : Nat) (write : Bool) (bytes : List Nat) (count fixed : Nat)
  /-- R628. PERST_N goes low and holds the host interface domain in reset, closing its sessions. -/
  | perstFall
  /-- R552. Power is removed, or PORST_N falls, and the device stops; the store falls back to RECALL at the next power-up. -/
  | powerLost
  /-- R644. After PORST_N rose with a rail out of range, every rail has been in range for 1 ms and the power-up sequence continues from step 2. -/
  | railsInRange (inRange vcapOk : Bool)
  /-- R526. A JTAG test-logic reset increments the debug epoch, clears debug's transmit set and frees its locks. -/
  | jtagTestLogicReset
  /-- R575. Every 1 ms while the bundle is UP the twin link controller sends an IDENT record with its boot nonce, variant and stepping. -/
  | identSend
  /-- R572. Every 1 ms while PAIR is 1 and the state is HELLO the card sends a HELLO. -/
  | helloSend
  /-- R587. Every 1 ms each card sends a summary of its self-check evidence on the control stream. -/
  | evidenceSummarySend
  /-- R581. The secondary receives a state-copy or forwarded HBM write record on the MEMORY stream and applies it in order against the determinism records. -/
  | memoryStreamReceived (items : List CopyItem)
  /-- R590. A card receives a YIELD from its peer and takes the outputs as in a failover. -/
  | yieldReceived
  /-- R578. A notice forwarded by the peer arrives and is queued in MB3, MB7, MB10 or MB11 with principal 0x20 and the twin epoch. -/
  | twinNoticeReceived (j len tag ptr : Nat)
  /-- R578. A completion for a forwarded notice returns over the link and counts as DELIVERED or DROPPED for the original sender. -/
  | twinCompletionReceived (j : Nat) (delivered : Bool) (tag : Nat)
  /-- R487. An ARP request or IGMP query for the PTP port's address arrives and the port answers with an ARP reply or membership report. -/
  | arpOrIgmpReceived (kind addr : Nat) (vlan : Option Nat)
  /-- R635. An MSPI or SMBus transaction with an unknown opcode or a wrong argument count is void and loads STATUS with SC_DECODE. -/
  | voidTransaction (port : MgmtPort) (opcode : Nat)
  /-- R528. Firmware takes a notice from its mailbox, pops stale-epoch notices without reply and refuses unknown opcodes. -/
  | firmwareNoticeTake (m : Nat) (host : Option (List Nat))
  /-- R615. The security unit finishes signing a queued report and the ATTEST completion is written. -/
  | attestReportDone
  /-- R623. A reset control core pair finishes copying firmware state from the other pair and rejoins within 50 ms. -/
  | pairRejoin
deriving DecidableEq, Repr

end Sys2Proof
end

