-- ==== Sys2Proof/WellFormed.lean ====
section
/-! DEFINITION. The well-formed commands: each operand in the range its field has on the wire. No meaning rests on it (each meaning is
total); a statement may use it where the spec speaks of what can be sent at all. -/

namespace Sys2Proof

/-- A byte. -/
def okByte (x : Nat) : Bool := decide (x < 256)
/-- A 32-bit word. -/
def ok32 (x : Nat) : Bool := decide (x < 2 ^ 32)
/-- A 40-bit address (R52, R679). -/
def ok40 (x : Nat) : Bool := decide (x < 2 ^ 40)
/-- A 64-bit word. -/
def ok64 (x : Nat) : Bool := decide (x < 2 ^ 64)
/-- A list of bytes. -/
def okBytes (l : List Nat) : Bool := l.all okByte
/-- A principal the hardware stamps (R23): the management port, the control cores, the functions, the twin peer, debug. -/
def okPrincipal (p : Nat) : Bool :=
  p == 1 || (decide (2 ≤ p) && decide (p ≤ 5)) || (decide (0x10 ≤ p) && decide (p ≤ 0x1F)) || p == 0x20 || p == 0x30
/-- A cue thread number (R414). -/
def okThread (t : Nat) : Bool := decide (t < 160)

/-- Whether every operand of a command is one that can be sent. -/
def wellFormed : Instr → Bool
  | .registerWrite p addr _ data mark => okPrincipal p && ok32 addr && ok32 data && decide (mark < 3)
  | .w1cFlagClear p addr _ data again => okPrincipal p && ok32 addr && ok32 data && ok32 again
  | .counterLowRead p addr _ mark => okPrincipal p && ok32 addr && decide (mark < 3)
  | .epochNsRead p => okPrincipal p
  | .timelineLineEvent t => decide (t < 16)
  | .stagedValueDelivery _ => true
  | .hbmEccUncorr _ addr _ => ok40 addr
  | .adminCommandTake f entry => decide (f < 16) && okBytes entry && entry.length == 64
  | .sessionOpen f payload => decide (f < 16) && okBytes payload
  | .sessionClose f payload => decide (f < 16) && okBytes payload
  | .grant f payload => decide (f < 16) && okBytes payload
  | .revoke f payload => decide (f < 16) && okBytes payload
  | .destroy f payload => decide (f < 16) && okBytes payload
  | .objectFreed h => ok32 h
  | .unitAcquire f payload => decide (f < 16) && okBytes payload
  | .unitRelease f payload => decide (f < 16) && okBytes payload
  | .ringCreate f payload => decide (f < 16) && okBytes payload
  | .ringQuery f payload => decide (f < 16) && okBytes payload
  | .ringClear f payload => decide (f < 16) && okBytes payload
  | .eventBind f payload => decide (f < 16) && okBytes payload
  | .ringDoorbell p f data => okPrincipal p && decide (f < 16) && ok32 data
  | .admqEnable p f data => okPrincipal p && decide (f < 16) && ok32 data
  | .admqDrained f => decide (f < 16)
  | .functionLevelReset f => decide (f < 16)
  | .laneEnable p lane data => okPrincipal p && decide (lane < 105) && ok32 data
  | .laneDisable p lane data => okPrincipal p && decide (lane < 105) && ok32 data
  | .laneLock lane rate freqOfs => decide (lane < 105) && decide (rate < 16) && decide (freqOfs < 256)
  | .laneLoss lane _ => decide (lane < 105)
  | .autoHuntTimeout lane => decide (lane < 105)
  | .escanStart p lane data => okPrincipal p && decide (lane < 105) && ok32 data
  | .escanAbort p lane data => okPrincipal p && decide (lane < 105) && ok32 data
  | .escanDwellDone lane _ => decide (lane < 105)
  | .mgmtBypass _ target ctl => okByte target && okByte ctl
  | .sdiTrsAlign lane _ _ _ _ _ => decide (lane < 105)
  | .sdiLineReceived lane _ _ _ _ => decide (lane < 105)
  | .edhPacketReceived lane _ _ => decide (lane < 105)
  | .vpidPacketReceived lane _ _ => decide (lane < 105)
  | .vpidTimeout lane => decide (lane < 105)
  | .gistraBlockReceived lane _ _ _ _ => decide (lane < 105)
  | .gistraBlockSend lane _ _ _ => decide (lane < 105)
  | .seqGapTimeout lane => decide (lane < 105)
  | .qwSend lane => decide (lane < 105)
  | .qwReceived lane word => decide (lane < 105) && ok32 word
  | .qwLoss lane => decide (lane < 105)
  | .tsReceived lane _ _ _ _ _ _ => decide (lane < 105)
  | .trainRateTimeout lane => decide (lane < 105)
  | .trainRetryTimeout lane => decide (lane < 105)
  | .retrainCondition lane cause => decide (lane < 105) && okByte cause
  | .cntClr p lane data => okPrincipal p && decide (lane < 105) && ok32 data
  | .inpStart p n => okPrincipal p && decide (n < 96)
  | .inpStop p n => okPrincipal p && decide (n < 96)
  | .inputFrameStart n => decide (n < 96)
  | .inputFrameComplete n => decide (n < 96)
  | .freezeMsExpiry n => decide (n < 96)
  | .inputFifoEccFault n addr => decide (n < 96) && ok40 addr
  | .ancPacketReceived n _ => decide (n < 96)
  | .ancfRingWrite p n filter ring => okPrincipal p && decide (n < 96) && decide (filter < 16) && ok32 ring
  | .streetLineMiss dest _ _ => decide (dest < 96)
  | .gangCfgWrite p data => okPrincipal p && ok32 data
  | .cloneCreate f payload => decide (f < 16) && okBytes payload
  | .jobCreate f payload _ => decide (f < 16) && okBytes payload
  | .jobStart p engine slot => okPrincipal p && decide (engine < 32) && decide (slot < 8)
  | .jobStop p engine slot => okPrincipal p && decide (engine < 32) && decide (slot < 8)
  | .engineLocalStoreFault engine addr => decide (engine < 32) && ok40 addr
  | .surfaceCreate f payload => decide (f < 16) && okBytes payload
  | .outStart p n => okPrincipal p && decide (n < 96)
  | .outStop p n => okPrincipal p && decide (n < 96)
  | .pipelineLineStart n fsn _ _ => decide (n < 96) && ok32 fsn
  | .lineUnderrun n mask _ => decide (n < 96) && okByte mask
  | .lineStoreEccFault n addr => decide (n < 96) && ok40 addr
  | .ancRingWrite p n ring => okPrincipal p && decide (n < 96) && ok32 ring
  | .skimCreate f payload => decide (f < 16) && okBytes payload
  | .routeCreate f payload => decide (f < 16) && okBytes payload
  | .audioPacketReceived n g _ _ _ _ => decide (n < 96) && decide (g < 8)
  | .groupRateWindow n g _ => decide (n < 96) && decide (g < 8)
  | .groupPacketTimeout n g => decide (n < 96) && decide (g < 8)
  | .asrcBlock n => decide (n < 96)
  | .audioGridSample _ => true
  | .npcmChange n g pair _ => decide (n < 96) && decide (g < 8) && decide (pair < 2)
  | .insRingWrite p slot ring => okPrincipal p && decide (slot < 64) && ok32 ring
  | .tapRingWrite p slot ring => okPrincipal p && decide (slot < 64) && ok32 ring
  | .shuffleBufferEcc addr _ => ok40 addr
  | .programLoad f payload => decide (f < 16) && okBytes payload
  | .threadBind f payload => decide (f < 16) && okBytes payload
  | .threadStart f payload => decide (f < 16) && okBytes payload
  | .threadStop f payload => decide (f < 16) && okBytes payload
  | .paramWrite p t index data => okPrincipal p && okThread t && decide (index < 32) && ok32 data
  | .nop t => okThread t
  | .br t => okThread t
  | .brz t => okThread t
  | .brnz t => okThread t
  | .call t => okThread t
  | .ret t => okThread t
  | .loopOp t => okThread t
  | .halt t => okThread t
  | .ldi t => okThread t
  | .add t => okThread t
  | .sub t => okThread t
  | .andOp t => okThread t
  | .orOp t => okThread t
  | .xorOp t => okThread t
  | .shl t => okThread t
  | .shr t => okThread t
  | .cmp t => okThread t
  | .ldp t => okThread t
  | .stp t => okThread t
  | .waitf t => okThread t
  | .waitl t => okThread t
  | .waite t => okThread t
  | .waitt t => okThread t
  | .waitComplete t => okThread t
  | .take t => okThread t
  | .layer t => okThread t
  | .laypos t => okThread t
  | .matrix t => okThread t
  | .skimx t => okThread t
  | .clone t => okThread t
  | .commit t => okThread t
  | .commitTargetReached t => okThread t
  | .amap t => okThread t
  | .again t => okThread t
  | .adelay t => okThread t
  | .amute t => okThread t
  | .uhalt t => okThread t
  | .uset t => okThread t
  | .urun t => okThread t
  | .emit t => okThread t
  | .post t => okThread t
  | .fence t => okThread t
  | .candConfig f payload => decide (f < 16) && okBytes payload
  | .candSignalChange c _ mark => decide (c < 12) && decide (mark < 3)
  | .freqMeasurement _ => true
  | .wtrExpiry c => decide (c < 12)
  | .dpllLockQualify => true
  | .pullInClamp => true
  | .refCfgWrite p data => okPrincipal p && ok32 data
  | .manHiWrite p data => okPrincipal p && ok32 data
  | .frStartExpiry => true
  | .tlnCfgWrite p t data => okPrincipal p && decide (t < 16) && ok32 data
  | .timelineAlignStart t => decide (t < 16)
  | .tlnPhaseWrite p t data => okPrincipal p && decide (t < 16) && ok32 data
  | .slewStep t => decide (t < 16)
  | .tlnCut p t data => okPrincipal p && decide (t < 16) && ok32 data
  | .ptpMessageReceived _ => true
  | .ptpDelayReqSend _ => true
  | .ptpTimeout => true
  | .lockTimeout seg p addr _ => decide (seg < 3) && okPrincipal p && ok32 addr
  | .fabricTimeout seg p _ addr _ => decide (seg < 4) && okPrincipal p && ok32 addr
  | .fwRegionWrite p r word data => okPrincipal p && decide (r < 512) && decide (word < 4) && ok32 data
  | .txPost p data => okPrincipal p && ok32 data
  | .mbPop p m data => okPrincipal p && decide (m < 16) && ok32 data
  | .mbCfgArm p m data => okPrincipal p && decide (m < 16) && ok32 data
  | .lockAcquireRead p k => okPrincipal p && decide (k < 16)
  | .lockRelease p k data => okPrincipal p && decide (k < 16) && ok32 data
  | .lockForce p k data => okPrincipal p && decide (k < 16) && ok32 data
  | .msgEcho _ => true
  | .msgFaultlog _ => true
  | .msgTemp _ => true
  | .mbReplyRetry => true
  | .nvsDataWrite p addr data => okPrincipal p && decide (addr < 0x80000) && ok32 data
  | .nvsPortDataAccess p _ data => okPrincipal p && ok32 data
  | .nvsCfgWrite p data => okPrincipal p && ok32 data
  | .nvsStore p data => okPrincipal p && ok32 data
  | .nvsRecall p data => okPrincipal p && ok32 data
  | .storeComplete => true
  | .recallComplete _ _ => true
  | .powerFail => true
  | .powerFailRelease => true
  | .marginScan _ _ _ => true
  | .twnPairWrite p data => okPrincipal p && ok32 data
  | .twnYield p data => okPrincipal p && ok32 data
  | .twnResync p data => okPrincipal p && ok32 data
  | .identReceived nonce variant stepping => ok32 nonce && okByte variant && okByte stepping
  | .helloReceived _ => true
  | .helloTimeout => true
  | .stateCopyCut => true
  | .stateCopyComplete _ => true
  | .decisionRecordReceived r => decide (r.tln < 16) && ok32 r.fsn
  | .decWaitExpiry t => decide (t < 16)
  | .lineRecordReceived pipe line fsn acrc lcrc => decide (pipe < 96) && decide (line < 4096) && decide (fsn < 4096) && decide (acrc < 2 ^ 24) && decide (lcrc < 2 ^ 24)
  | .cmpGapTimeout => true
  | .evidenceReceived bit arg => decide (bit < 8) && ok32 arg
  | .verdictTimer => true
  | .twinTakeReceived fsn _ => ok32 fsn
  | .peerLossTimeout => true
  | .peerAliveChange _ => true
  | .activeNetChange _ => true
  | .timeRecord _ _ _ => true
  | .xfCfgWrite p k data peerFmt peerStruct _ => okPrincipal p && decide (k < 8) && ok32 data && okByte peerFmt && decide (peerStruct < 8)
  | .twinMbForward j _ => decide (j < 4)
  | .attest f payload => decide (f < 16) && okBytes payload
  | .svnCommit p data => okPrincipal p && ok32 data
  | .rollbackBitBurn => true
  | .powerUp boardId _ => decide (boardId < 16)
  | .fuseLoadDone _ _ _ => true
  | .imageCheckDone hdrA hdrB _ _ _ _ => hdrA.all okBytes && hdrB.all okBytes
  | .hbmTrainDone _ _ => true
  | .lockstepCheckDone _ _ => true
  | .firmwareReady _ => true
  | .perstRise => true
  | .modeSet f payload => decide (f < 16) && okBytes payload
  | .modeTransitionDone => true
  | .deviceReset p data => okPrincipal p && ok32 data
  | .domainReset p => okPrincipal p
  | .domainResetEnd d => decide (d < 512)
  | .domainOn p => okPrincipal p
  | .domainSleep p => okPrincipal p
  | .domainOff p => okPrincipal p
  | .lockstepSplit pair _ => decide (pair < 2)
  | .svcTestStart p data => okPrincipal p && ok32 data
  | .svcTestDone _ _ => true
  | .tempSample sensor tj => decide (sensor < 16) && decide (tj < 65536)
  | .thermalTrip sensor tj => decide (sensor < 16) && decide (tj < 65536)
  | .mgmtIdRead _ => true
  | .flogRead _ index => ok32 index
  | .mgmtStatus _ => true
  | .mgmtTemp _ => true
  | .forceLimp _ arg => ok32 arg
  | .mgmtDomainReset _ d => decide (d < 512)
  | .twinYield _ => true
  | .storeNow _ => true
  | .mgmtNvsCfg _ data => ok32 data
  | .nvsRead _ addr _ => decide (addr < 2 ^ 24)
  | .nvsWrite _ addr bytes => decide (addr < 2 ^ 24) && okBytes bytes
  | .mgmtRegRead _ addr => ok32 addr
  | .mgmtRegWrite _ addr data => ok32 addr && ok32 data
  | .hostBar2Access f addr _ bytes _ _ => decide (f < 16) && ok40 addr && okBytes bytes
  | .perstFall => true
  | .powerLost => true
  | .railsInRange _ _ => true
  | .jtagTestLogicReset => true
  | .identSend => true
  | .helloSend => true
  | .evidenceSummarySend => true
  | .memoryStreamReceived _ => true
  | .yieldReceived => true
  | .twinNoticeReceived j len tag ptr => decide (j < 4) && decide (len < 65536) && ok32 tag && ok64 ptr
  | .twinCompletionReceived j _ tag => decide (j < 4) && ok32 tag
  | .arpOrIgmpReceived _ addr _ => ok32 addr
  | .voidTransaction _ opcode => okByte opcode
  | .firmwareNoticeTake m _ => decide (m < 16)
  | .attestReportDone => true
  | .pairRejoin => true

end Sys2Proof
end

