-- ==== Sys2Proof/Decode.lean ====
section
/-! DEFINITION. The command that a word of the opcode table spells. Every row of this block's table has an empty field list: the commands are
transactions and events, not words, so no word spells one. -/

namespace Sys2Proof

/-- The command whose bits are `w`, numbered as spec/opcode_table.json numbers them: none, since no row of the table gives bits. -/
def decodeTableWord (_nbits _w : Nat) : Option Instr := none

end Sys2Proof
end

