-- ==== Sys2Proof/Machine/Tab.lean ====
section
/-! DEFINITION. Sparse tables: a table is a list of (key, value) pairs with strictly rising keys. Every numbered collection of
the machine that is mostly at its default is held this way (objects, sessions, rings, per-unit state), and so is the register
file and the HBM. -/

namespace Sys2Proof.Machine

/-- A sparse table keyed by a number. -/
abbrev Tab (α : Type) := List (Nat × α)

/-- The entry of a key, if the table lists one. -/
def tfind {α : Type} : Tab α → Nat → Option α
  | [], _ => none
  | (a, x) :: t, k => if a = k then some x else tfind t k

/-- The entry of a key, or the default. -/
def tget {α : Type} (d : α) (t : Tab α) (k : Nat) : α := (tfind t k).getD d

/-- The table with the entry of `k` set to `v`, in key order. -/
def tput {α : Type} : Tab α → Nat → α → Tab α
  | [], k, v => [(k, v)]
  | (a, x) :: t, k, v =>
    if k < a then (k, v) :: (a, x) :: t
    else if a = k then (k, v) :: t
    else (a, x) :: tput t k v

/-- The table without an entry for `k`. -/
def tdel {α : Type} (t : Tab α) (k : Nat) : Tab α := t.filter (fun e => e.1 ≠ k)

/-- The table with the entry of `k` changed by `f` (from the default when none is listed). -/
def tmod {α : Type} (d : α) (t : Tab α) (k : Nat) (f : α → α) : Tab α := tput t k (f (tget d t k))

/-- Set the entry of `k` to `v`, listing nothing when `v` is what an unlisted key reads as. -/
def tset {α : Type} [DecidableEq α] (d : α) (t : Tab α) (k : Nat) (v : α) : Tab α :=
  if v = d then tdel t k else tput t k v

/-- The canonical form: strictly rising keys. -/
def tsorted {α : Type} : Tab α → Bool
  | [] => true
  | [_] => true
  | (a, _) :: (b, y) :: t => decide (a < b) && tsorted ((b, y) :: t)

/-- The least key, at or above `lo` and below `hi`, for which `free` holds: the lowest free index of a kind (R84). -/
def firstFree (free : Nat → Bool) (lo : Nat) : Nat → Option Nat
  | 0 => none
  | n + 1 => if free lo then some lo else firstFree free (lo + 1) n

end Sys2Proof.Machine
end

