-- ==== Sys2Proof/Machine/Bits.lean ====
section
/-! DEFINITION. Bit fields, two's complement, little-endian bytes, saturation and the CRCs: the arithmetic every family uses. -/

namespace Sys2Proof.Machine

/-- Bits [lo + w - 1 : lo] of `v`. -/
def bitsOf (v lo w : Nat) : Nat := v / 2 ^ lo % 2 ^ w

/-- Bit `i` of `v`. -/
def bitAt (v i : Nat) : Bool := v / 2 ^ i % 2 == 1

/-- `v` with bit `i` set. -/
def setBit (v i : Nat) : Nat := if bitAt v i then v else v + 2 ^ i

/-- `v` with every bit of `m` cleared (bits 0 to 31), as a write of ones to W1C flags does. -/
def clearBits (v m : Nat) : Nat := v - (v &&& m)

/-- The two's complement reading of the low `w` bits of `v`. -/
def sext (w v : Nat) : Int :=
  if v % 2 ^ w < 2 ^ (w - 1) then (v % 2 ^ w : Nat) else ((v % 2 ^ w : Nat) : Int) - (2 ^ w : Nat)

/-- The two's complement encoding of `i` in `w` bits. -/
def twos (w : Nat) (i : Int) : Nat := (i % ((2 ^ w : Nat) : Int)).toNat

/-- `a + b`, saturating at the largest value of `w` bits. -/
def satAdd (w a b : Nat) : Nat := min (a + b) (2 ^ w - 1)

/-- An integer clamped to a range. -/
def clampInt (lo hi x : Int) : Int := if x < lo then lo else if hi < x then hi else x

/-- A natural number clamped to a range. -/
def clampNat (lo hi x : Nat) : Nat := if x < lo then lo else if hi < x then hi else x

/-- The `n` little-endian bytes of `v`. -/
def leBytes : Nat → Nat → List Nat
  | 0, _ => []
  | n + 1, v => v % 256 :: leBytes n (v / 256)

/-- The number a little-endian byte list spells. -/
def leVal : List Nat → Nat
  | [] => 0
  | b :: t => b % 256 + 256 * leVal t

/-- The `n`-byte little-endian field at byte `off` of a byte list. -/
def leField (bs : List Nat) (off n : Nat) : Nat := leVal ((bs.drop off).take n)

/-- Ceiling division. -/
def ceilDiv (a b : Nat) : Nat := (a + b - 1) / b

/-- `a` rounded up to a multiple of `b`. -/
def roundUp (a b : Nat) : Nat := ceilDiv a b * b

/-- Division that rounds to the nearest whole number, halves away from zero. -/
def roundDiv (a : Int) (b : Nat) : Int :=
  if 0 ≤ a then (2 * a + (b : Int)) / (2 * (b : Int)) else -((2 * (-a) + (b : Int)) / (2 * (b : Int)))

/-- One bit step of a reflected CRC register. -/
def crcBit (poly c : Nat) : Nat := if c % 2 = 1 then (c / 2) ^^^ poly else c / 2

/-- One byte of a reflected CRC. -/
def crcByte (poly c b : Nat) : Nat :=
  let c0 := c ^^^ (b % 256)
  crcBit poly (crcBit poly (crcBit poly (crcBit poly (crcBit poly (crcBit poly (crcBit poly (crcBit poly c0)))))))

/-- CRC-32C of a byte list: reflected polynomial 0x82F63B78, start and final inversion of ones (R378, R185, R557). -/
def crc32c (bs : List Nat) : Nat := (bs.foldl (crcByte 0x82F63B78) 0xFFFFFFFF) ^^^ 0xFFFFFFFF

/-- One bit of a most-significant-first 24-bit CRC. -/
def crc24Bit (c : Nat) : Nat := if c / 2 ^ 23 % 2 = 1 then (c * 2 % 2 ^ 24) ^^^ 0x864CFB else c * 2 % 2 ^ 24

/-- One byte of CRC-24 (R585). -/
def crc24Byte (c b : Nat) : Nat :=
  let c0 := c ^^^ ((b % 256) * 2 ^ 16)
  crc24Bit (crc24Bit (crc24Bit (crc24Bit (crc24Bit (crc24Bit (crc24Bit (crc24Bit c0)))))))

/-- CRC-24 of the twin line record: polynomial 0x864CFB, start value 0xB704CE, most significant bit first (R585). -/
def crc24 (bs : List Nat) : Nat := bs.foldl crc24Byte 0xB704CE

/-- Whether every byte of a list is 0. -/
def allZero (bs : List Nat) : Bool := bs.all (· == 0)

/-- `n` consecutive numbers from `lo`. -/
def upFrom (lo : Nat) : Nat → List Nat
  | 0 => []
  | n + 1 => lo :: upFrom (lo + 1) n

/-- The greatest `r` with `r * r ≤ n`, found bit by bit from `2 ^ fuel`. -/
def isqrt (n : Nat) : Nat → Nat → Nat
  | 0, r => r
  | k + 1, r => if (r + 2 ^ k) * (r + 2 ^ k) ≤ n then isqrt n k (r + 2 ^ k) else isqrt n k r

end Sys2Proof.Machine
end

