-- ==== Sys2Proof/Config.lean ====
section
/-! DEFINITION. The free values: what the spec leaves open. Each is a constant without a body, so nothing can be proved of it
beyond its type; a statement that holds, holds whatever the value is. The notes of each name the assumption row. -/

namespace Sys2Proof.Config

/-- The 64 KiB-aligned place the device tries first for its n-th allocation, in units of 64 KiB (R671: the placement is not
specified). Machine/Ops.lean uses it only where it is a free, aligned place. -/
opaque place : Nat → Nat

/-- The disagreements that an aborted eye-scan point had counted (R142), by the number of the free value. -/
opaque escanSoFar : Nat → Nat

/-- The measured voltage step of a lane in µV, counted from 1,500, of a die whose fuses the model does not name (R139). -/
opaque vstep : Nat → Nat

/-- The data of a BAR2 read that fails with another status than SC_PROTECTED (R55, R73 state none), by the number of the free value. -/
opaque badRead : Nat → Nat

/-- The window of a built-in scaler table (R300 names windowed sincs and no window): taps, and the distance from the centre in 1/64 pixel; the
value is taken in 1/65,536, at most 1. -/
opaque sincWindow : Nat → Nat → Nat

/-- The highlight roll-off above SDR 100%, of a linear value in the fixed point of the conversions (R313 names it only). -/
opaque rollOff : Int → Int

/-- A component of a linear BT.709 colour after the soft gamut compression (R313 names it only). -/
opaque gamutSoft : Int × Int × Int → Nat → Int

/-- Which of the five edge directions is the best one for a missing pixel (R301): the luma of the lines above and below, and the column. -/
opaque edgeDir : List Int → List Int → Nat → Nat

/-- A component of a missing line where an adjacent field does not exist (R301): the component and the column. -/
opaque edgeValue : Nat → Nat → Int

/-- How the mean of two values and the blend in proportion round (R301): 1 upward, else downward. -/
opaque deintRound : Int → Int → Nat

/-- The part of a motion vector, in 1/4 pixel of its level, that one level of the estimation adds (R304: how a level searches is not stated): the
samples used (field and picture of each), quality, backward or forward, level (0 quarter, 1 half, 2 full resolution), the block's column and
row at that level, 0 for the horizontal part and 1 for the vertical. -/
opaque motionStep : List (Nat × List (List Pixel)) → Nat → Bool → Nat → Nat → Nat → Nat → Int

/-- In which of the two samples a block is visible when it is covered in one direction (R304): 1 the first, 2 the second, anything else both; the
samples used and the block. -/
opaque motionCovered : List (Nat × List (List Pixel)) → Nat → Nat → Nat

/-- A value between the four pixels around a place that a vector points to (R304 gives the precision, 1/4 pixel, and no interpolation): the four
values and the quarters right and down. -/
opaque subPixel : List Int → Nat → Nat → Int

/-- The credits engine i of a gang of n shows for a job of C credits (R276: the division is not stated). -/
opaque gangCredits : Nat → Nat → Nat → Nat

/-- How many words with one bit in error a unit's reads of HBM meet in a row of a picture, a frame of a job or a block of audio (R55): they are corrected,
and counted; by the number of the free value. -/
opaque hbmFixed : Nat → Nat

/-- What the header of a JPEG XS codestream says (R332; its coding is ISO/IEC 21122's and not in the spec): the profile, 0 Main 422.10, 1 High 444.12,
anything else another. -/
opaque jxsProfile : List Nat → Nat

/-- Whether the level's limits stay within 3,840 × 2,160 at 60 frames per second (R332). -/
opaque jxsLevelFits : List Nat → Bool

/-- The picture size a codestream says. -/
opaque jxsSize : List Nat → Nat × Nat

/-- Whether a codestream of profile High 444.12 carries its chroma at half the width, as every one of Main 422.10 does. -/
opaque jxsHalf : List Nat → Bool

/-- Whether a codestream signals a colour transform, so that its components are R, G, B (R332). -/
opaque jxsRgb : List Nat → Bool

/-- A sample of a decoded codestream, at 10 bits in Main 422.10 and 12 in High 444.12: codestream, whether the colour transform is undone, component,
column and row of that component. -/
opaque jxsSample : List Nat → Bool → Nat → Nat → Nat → Nat

/-- The first row of a codestream that fails to decode because it is malformed; none when it decodes (R333). -/
opaque jxsBadRow : List Nat → Option Nat

/-- The ASRC's interpolated sample (R389): the 32 source samples around A and the phase. The coefficients are in ROM and not given. -/
opaque asrc : List Int → Nat → Int

/-- RATIO of an ASRC block (R389), by the number of the free value: the control law is not given. -/
opaque asrcRatio : Nat → Nat

/-- FSN, LINE or NEXT as LDP reads it before the engine has received an event of the thread's timeline (R424, R435: no value is stated), by
the number of the free value. -/
opaque noEvent : Nat → Nat

/-- The digest of a stage buffer in a COMMIT record (R582: CRC-32C over an encoding that is not stated): the entries as numbers. -/
opaque stageDigest : List (List Nat × List (Nat × Nat)) → Nat

/-- A boot nonce of the twin link controller (R575: a random number), by the number of the free value. -/
opaque nonce : Nat → Nat

/-- A 32-bit word of the device identity key (R610): the Ed25519 public key of the seed derived from the device secret. -/
opaque devKeyWord : List Nat → Nat → Nat

/-- A byte of the Ed25519 signature by the device identity key (R610, R613): device secret, message, byte. -/
opaque signature : List Nat → List Nat → Nat → Nat

/-- Whether the bit being blown when power is lost reads as blown (R609: either way), by the number of the free value: 1 blown. -/
opaque burnt : Nat → Nat

end Sys2Proof.Config
end

