-- ==== Sys2Proof/Machine/Regs.lean ====
section
/-! DEFINITION. The registers of the PRD96, from the register tables of the spec: one constant for each field, named
BLOCK_REGISTER_FIELD as the spec names it, and the register map. An event register whose bits are all W1C flags is one field
FLAGS (bit b is the flag of the b-th event of its table); an occurrence register is two 16-bit fields LO and HI (R32).
A 64-bit register is two words. `dims` gives stride and count of each repetition, the unit first. -/

namespace Sys2Proof.Machine.R

def ID_VENDOR_PART_VENDOR : Fld := ⟨0x00000000, 16, 16, 0xE7A0, .ro⟩
def ID_VENDOR_PART_FAMILY : Fld := ⟨0x00000000, 0, 16, 0x96, .ro⟩
def ID_VARIANT_STEPPING : Fld := ⟨0x00000004, 8, 8, 0x0, .ro⟩
def ID_VARIANT_VARIANT : Fld := ⟨0x00000004, 0, 8, 0x0, .ro⟩
def ID_CAP_UNITS_ARCADE : Fld := ⟨0x00000008, 16, 8, 0x0, .ro⟩
def ID_CAP_UNITS_PIPES : Fld := ⟨0x00000008, 8, 8, 0x0, .ro⟩
def ID_CAP_UNITS_LANES : Fld := ⟨0x00000008, 0, 8, 0x0, .ro⟩
def ID_CAP_FEAT_SCREENED : Fld := ⟨0x0000000C, 5, 1, 0x0, .ro⟩
def ID_CAP_FEAT_STENCIL_SKIM : Fld := ⟨0x0000000C, 4, 1, 0x0, .ro⟩
def ID_CAP_FEAT_TWIN : Fld := ⟨0x0000000C, 3, 1, 0x0, .ro⟩
def ID_CAP_FEAT_AUDIO : Fld := ⟨0x0000000C, 2, 1, 0x0, .ro⟩
def ID_CAP_FEAT_HBM_STACKS : Fld := ⟨0x0000000C, 0, 2, 0x0, .ro⟩
def ID_CAP_POOLS_CREDITS : Fld := ⟨0x00000010, 16, 16, 0x0, .ro⟩
def ID_CAP_POOLS_FETCH_SHARED : Fld := ⟨0x00000010, 0, 9, 0x0, .ro⟩
def ID_CAP_MEM_FW_GIB : Fld := ⟨0x00000014, 8, 8, 0x1, .ro⟩
def ID_CAP_MEM_HBM_GIB : Fld := ⟨0x00000014, 0, 8, 0x0, .ro⟩
def MBX_RING_DB_LO_ARM : Fld := ⟨0x00034000, 31, 1, 0x0, .wo⟩
def MBX_RING_DB_LO_RING : Fld := ⟨0x00034000, 0, 16, 0x0, .wo⟩
def MBX_RING_DB_HI_INDEX : Fld := ⟨0x00034004, 0, 32, 0x0, .wo⟩
def MBX_ADMQ_CMD_BASE_LO_ADDR : Fld := ⟨0x00038000, 6, 26, 0x0, .rws⟩
def MBX_ADMQ_CMD_BASE_HI_ADDR : Fld := ⟨0x00038004, 0, 32, 0x0, .rws⟩
def MBX_ADMQ_CPL_BASE_LO_ADDR : Fld := ⟨0x00038008, 5, 27, 0x0, .rws⟩
def MBX_ADMQ_CPL_BASE_HI_ADDR : Fld := ⟨0x0003800C, 0, 32, 0x0, .rws⟩
def MBX_ADMQ_CFG_ENABLE : Fld := ⟨0x00038010, 31, 1, 0x0, .rw⟩
def MBX_ADMQ_CFG_ACTIVE : Fld := ⟨0x00038010, 30, 1, 0x0, .ro⟩
def MBX_ADMQ_CFG_VECTOR : Fld := ⟨0x00038010, 16, 7, 0x0, .rws⟩
def MBX_ADMQ_CFG_CPL_SIZE : Fld := ⟨0x00038010, 8, 5, 0x0, .rws⟩
def MBX_ADMQ_CFG_CMD_SIZE : Fld := ⟨0x00038010, 0, 5, 0x0, .rws⟩
def FAB_NOCTX_COUNT : Fld := ⟨0x00028000, 0, 32, 0x0, .ro⟩
def LNE_CTL_ENABLE : Fld := ⟨0x00100000, 31, 1, 0x0, .rw⟩
def LNE_CTL_RX_RATE : Fld := ⟨0x00100000, 24, 4, 0x0, .rws⟩
def LNE_CTL_TX_RATE : Fld := ⟨0x00100000, 20, 4, 0x0, .ro⟩
def LNE_CTL_MODE : Fld := ⟨0x00100000, 18, 2, 0x0, .rws⟩
def LNE_CTL_RX_INV : Fld := ⟨0x00100000, 17, 1, 0x0, .rws⟩
def LNE_CTL_TX_INV : Fld := ⟨0x00100000, 16, 1, 0x0, .rws⟩
def LNE_CTL_EQ_OVR : Fld := ⟨0x00100000, 8, 1, 0x0, .rws⟩
def LNE_CTL_TX_IDLE : Fld := ⟨0x00100000, 0, 1, 0x0, .rw⟩
def LNE_STATUS_RX_STATE : Fld := ⟨0x00100004, 29, 3, 0x0, .ro⟩
def LNE_STATUS_TX_STATE : Fld := ⟨0x00100004, 27, 2, 0x0, .ro⟩
def LNE_STATUS_RX_RATE_DET : Fld := ⟨0x00100004, 23, 4, 0x0, .ro⟩
def LNE_STATUS_SIG_DET : Fld := ⟨0x00100004, 22, 1, 0x0, .ro⟩
def LNE_STATUS_LOOP_ACTIVE : Fld := ⟨0x00100004, 21, 1, 0x0, .ro⟩
def LNE_STATUS_BAND : Fld := ⟨0x00100004, 19, 2, 0x0, .ro⟩
def LNE_STATUS_FREQ_OFS : Fld := ⟨0x00100004, 8, 8, 0x0, .ro⟩
def LNE_STATUS_BOARD_ID : Fld := ⟨0x00100004, 4, 4, 0x0, .ro⟩
def LNE_EQ_CTLE : Fld := ⟨0x00100008, 13, 4, 0x0, .rws⟩
def LNE_EQ_POST : Fld := ⟨0x00100008, 8, 5, 0x0, .rws⟩
def LNE_EQ_PRE : Fld := ⟨0x00100008, 4, 4, 0x0, .rws⟩
def LNE_EQ_SWING : Fld := ⟨0x00100008, 0, 4, 0x0, .rws⟩
def LNE_EQ_DFE_TAP5 : Fld := ⟨0x0010000C, 24, 6, 0x0, .rws⟩
def LNE_EQ_DFE_TAP4 : Fld := ⟨0x0010000C, 18, 6, 0x0, .rws⟩
def LNE_EQ_DFE_TAP3 : Fld := ⟨0x0010000C, 12, 6, 0x0, .rws⟩
def LNE_EQ_DFE_TAP2 : Fld := ⟨0x0010000C, 6, 6, 0x0, .rws⟩
def LNE_EQ_DFE_TAP1 : Fld := ⟨0x0010000C, 0, 6, 0x0, .rws⟩
def LNE_EQ_EFF_TX_BAND : Fld := ⟨0x00100010, 19, 2, 0x0, .ro⟩
def LNE_EQ_EFF_BAND : Fld := ⟨0x00100010, 17, 2, 0x0, .ro⟩
def LNE_EQ_EFF_SETTINGS : Fld := ⟨0x00100010, 0, 17, 0x0, .ro⟩
def LNE_LIMP_CFG_BLACK : Fld := ⟨0x00100014, 8, 1, 0x0, .rw⟩
def LNE_LIMP_CFG_FMT : Fld := ⟨0x00100014, 0, 8, 0x0, .rw⟩
def LNE_EVT_FLAGS : Fld := ⟨0x00100020, 0, 5, 0x0, .w1c⟩
def LNE_OCC_A_LO : Fld := ⟨0x00100024, 0, 16, 0x0, .ro⟩
def LNE_OCC_A_HI : Fld := ⟨0x00100024, 16, 16, 0x0, .ro⟩
def LNE_OCC_B_LO : Fld := ⟨0x00100028, 0, 16, 0x0, .ro⟩
def LNE_OCC_B_HI : Fld := ⟨0x00100028, 16, 16, 0x0, .ro⟩
def LNE_OCC_C_LO : Fld := ⟨0x0010002C, 0, 16, 0x0, .ro⟩
def LNE_OCC_C_HI : Fld := ⟨0x0010002C, 16, 16, 0x0, .ro⟩
def LNE_ESCAN_CTL_START : Fld := ⟨0x00100040, 31, 1, 0x0, .wo⟩
def LNE_ESCAN_CTL_ABORT : Fld := ⟨0x00100040, 30, 1, 0x0, .wo⟩
def LNE_ESCAN_CTL_DWELL : Fld := ⟨0x00100040, 24, 6, 0x14, .rw⟩
def LNE_ESCAN_CTL_TIME : Fld := ⟨0x00100040, 16, 6, 0x0, .rw⟩
def LNE_ESCAN_CTL_VSIGN : Fld := ⟨0x00100040, 15, 1, 0x0, .rw⟩
def LNE_ESCAN_CTL_VMAG : Fld := ⟨0x00100040, 8, 7, 0x0, .rw⟩
def LNE_ESCAN_STAT_STATE : Fld := ⟨0x00100044, 30, 2, 0x0, .ro⟩
def LNE_ESCAN_STAT_STATUS : Fld := ⟨0x00100044, 0, 16, 0x0, .ro⟩
def LNE_ESCAN_ERRS_ERRS : Fld := ⟨0x00100048, 0, 32, 0x0, .ro⟩
def LNE_ESCAN_CAL_TSTEPS : Fld := ⟨0x0010004C, 16, 8, 0x40, .ro⟩
def LNE_ESCAN_CAL_VSTEP_UV : Fld := ⟨0x0010004C, 0, 16, 0x0, .ro⟩
def LNE_LOOP_SEL : Fld := ⟨0x00100050, 0, 2, 0x0, .rw⟩
def LNE_BYPASS_STAT_ACTIVE : Fld := ⟨0x00100054, 31, 1, 0x0, .ro⟩
def LNE_BYPASS_STAT_SRC : Fld := ⟨0x00100054, 0, 7, 0x0, .ro⟩
def LNE_SDI_CFG_QUAD : Fld := ⟨0x00100100, 31, 1, 0x0, .rws⟩
def LNE_SDI_CFG_LEVEL_B_TX : Fld := ⟨0x00100100, 30, 1, 0x0, .rws⟩
def LNE_SDI_CFG_VPID_INS : Fld := ⟨0x00100100, 29, 1, 0x1, .rws⟩
def LNE_SDI_CFG_DS_LINK : Fld := ⟨0x00100100, 28, 1, 0x0, .rws⟩
def LNE_SDI_STAT_FR_STATE : Fld := ⟨0x00100104, 30, 2, 0x0, .ro⟩
def LNE_SDI_STAT_LEVEL : Fld := ⟨0x00100104, 28, 2, 0x0, .ro⟩
def LNE_SDI_STAT_QUAD_STATE : Fld := ⟨0x00100104, 26, 2, 0x0, .ro⟩
def LNE_SDI_STAT_QUAD_LINK : Fld := ⟨0x00100104, 24, 2, 0x0, .ro⟩
def LNE_SDI_STAT_VPID_VALID : Fld := ⟨0x00100104, 23, 1, 0x0, .ro⟩
def LNE_SDI_STAT_EDH_SEEN : Fld := ⟨0x00100104, 22, 1, 0x0, .ro⟩
def LNE_SDI_STAT_STRUCT : Fld := ⟨0x00100104, 19, 3, 0x0, .ro⟩
def LNE_SDI_MEAS_LINES : Fld := ⟨0x00100108, 16, 13, 0x0, .ro⟩
def LNE_SDI_MEAS_WORDS : Fld := ⟨0x00100108, 0, 14, 0x0, .ro⟩
def LNE_SDI_VPID_BYTE4 : Fld := ⟨0x0010010C, 24, 8, 0x0, .ro⟩
def LNE_SDI_VPID_BYTE3 : Fld := ⟨0x0010010C, 16, 8, 0x0, .ro⟩
def LNE_SDI_VPID_BYTE2 : Fld := ⟨0x0010010C, 8, 8, 0x0, .ro⟩
def LNE_SDI_VPID_BYTE1 : Fld := ⟨0x0010010C, 0, 8, 0x0, .ro⟩
def LNE_SDI_QSKEW_SKEW : Fld := ⟨0x00100110, 0, 16, 0x0, .ro⟩
def LNE_GL_CFG_WIDTH : Fld := ⟨0x00100140, 28, 4, 0x1, .rws⟩
def LNE_GL_CFG_AUTO_POL : Fld := ⟨0x00100140, 27, 1, 0x1, .rws⟩
def LNE_GL_CFG_AUTO_REV : Fld := ⟨0x00100140, 26, 1, 0x1, .rws⟩
def LNE_GL_STAT_LINK_STATE : Fld := ⟨0x00100144, 30, 2, 0x0, .ro⟩
def LNE_GL_STAT_RATE : Fld := ⟨0x00100144, 26, 4, 0x0, .ro⟩
def LNE_GL_STAT_WIDTH : Fld := ⟨0x00100144, 22, 4, 0x0, .ro⟩
def LNE_GL_STAT_POL_FLIP : Fld := ⟨0x00100144, 21, 1, 0x0, .ro⟩
def LNE_GL_STAT_REVERSED : Fld := ⟨0x00100144, 20, 1, 0x0, .ro⟩
def LNE_GL_STAT_SPARE : Fld := ⟨0x00100144, 19, 1, 0x0, .ro⟩
def LNE_GL_STAT_POS : Fld := ⟨0x00100144, 16, 3, 0x0, .ro⟩
def LNE_GL_STAT_TRAIN_COUNT : Fld := ⟨0x00100144, 8, 8, 0x0, .ro⟩
def LNE_GL_STAT_FAR_LID : Fld := ⟨0x00100144, 0, 8, 0x0, .ro⟩
def LNE_GL_QW_QW : Fld := ⟨0x00100148, 0, 32, 0x0, .ro⟩
def LNE_GL_QW_AGE_AGE_MS : Fld := ⟨0x0010014C, 0, 16, 0xFFFF, .ro⟩
def LNE_SDI_CRC_LINES_COUNT : Fld := ⟨0x00100120, 0, 32, 0x0, .ro⟩
def LNE_SDI_LN_ERR_COUNT : Fld := ⟨0x00100124, 0, 32, 0x0, .ro⟩
def LNE_SDI_TRS_ERR_COUNT : Fld := ⟨0x00100128, 0, 32, 0x0, .ro⟩
def LNE_SDI_EDH_AP_COUNT : Fld := ⟨0x0010012C, 0, 32, 0x0, .ro⟩
def LNE_SDI_EDH_FF_COUNT : Fld := ⟨0x00100130, 0, 32, 0x0, .ro⟩
def LNE_SDI_DS_DROP_COUNT : Fld := ⟨0x00100134, 0, 32, 0x0, .ro⟩
def LNE_GL_CODE_ERR_COUNT : Fld := ⟨0x00100160, 0, 32, 0x0, .ro⟩
def LNE_GL_DISP_ERR_COUNT : Fld := ⟨0x00100164, 0, 32, 0x0, .ro⟩
def LNE_GL_CRC_ERR_COUNT : Fld := ⟨0x00100168, 0, 32, 0x0, .ro⟩
def LNE_GL_SEQ_GAP_COUNT : Fld := ⟨0x0010016C, 0, 32, 0x0, .ro⟩
def LNE_GL_ABORT_COUNT : Fld := ⟨0x00100170, 0, 32, 0x0, .ro⟩
def LNE_GL_SKIP_DEL_COUNT : Fld := ⟨0x00100174, 0, 32, 0x0, .ro⟩
def LNE_GL_SKIP_INS_COUNT : Fld := ⟨0x00100178, 0, 32, 0x0, .ro⟩
def LNE_GL_STREAM_DROP_COUNT : Fld := ⟨0x0010017C, 0, 32, 0x0, .ro⟩
def LNE_FR_EVT_FLAGS : Fld := ⟨0x00100180, 0, 10, 0x0, .w1c⟩
def LNE_FR_OCC_A_LO : Fld := ⟨0x00100184, 0, 16, 0x0, .ro⟩
def LNE_FR_OCC_A_HI : Fld := ⟨0x00100184, 16, 16, 0x0, .ro⟩
def LNE_FR_OCC_B_LO : Fld := ⟨0x00100188, 0, 16, 0x0, .ro⟩
def LNE_FR_OCC_B_HI : Fld := ⟨0x00100188, 16, 16, 0x0, .ro⟩
def LNE_FR_OCC_C_LO : Fld := ⟨0x0010018C, 0, 16, 0x0, .ro⟩
def LNE_FR_OCC_C_HI : Fld := ⟨0x0010018C, 16, 16, 0x0, .ro⟩
def LNE_FR_OCC_D_LO : Fld := ⟨0x00100190, 0, 16, 0x0, .ro⟩
def LNE_FR_OCC_D_HI : Fld := ⟨0x00100190, 16, 16, 0x0, .ro⟩
def LNE_FR_OCC_E_LO : Fld := ⟨0x00100194, 0, 16, 0x0, .ro⟩
def LNE_FR_OCC_E_HI : Fld := ⟨0x00100194, 16, 16, 0x0, .ro⟩
def LNE_CNT_CLR_GL : Fld := ⟨0x001001FC, 1, 1, 0x0, .wo⟩
def LNE_CNT_CLR_SDI : Fld := ⟨0x001001FC, 0, 1, 0x0, .wo⟩
def INP_LC_STOP : Fld := ⟨0x00200000, 1, 1, 0x0, .wo⟩
def INP_LC_START : Fld := ⟨0x00200000, 0, 1, 0x0, .wo⟩
def INP_CFG_REF_TLN : Fld := ⟨0x00200004, 28, 4, 0x0, .rws⟩
def INP_CFG_MAX_CLASS : Fld := ⟨0x00200004, 26, 2, 0x0, .rws⟩
def INP_CFG_MAX_STRUCT : Fld := ⟨0x00200004, 23, 3, 0x0, .rws⟩
def INP_CFG_DEPTH : Fld := ⟨0x00200004, 19, 4, 0x4, .rws⟩
def INP_CFG_DELAY : Fld := ⟨0x00200004, 14, 5, 0x0, .rws⟩
def INP_CFG_LOCK_FRAMES : Fld := ⟨0x00200004, 10, 4, 0x2, .rws⟩
def INP_CFG_EXP_FMT : Fld := ⟨0x00200004, 0, 8, 0x0, .rws⟩
def INP_DEFS_PSF : Fld := ⟨0x00200008, 31, 1, 0x0, .rw⟩
def INP_DEFS_STRUCT : Fld := ⟨0x00200008, 28, 3, 0x0, .rw⟩
def INP_DEFS_TRANSFER : Fld := ⟨0x00200008, 26, 2, 0x0, .rw⟩
def INP_DEFS_COLOR : Fld := ⟨0x00200008, 24, 2, 0x0, .rw⟩
def INP_LOSS_POLICY : Fld := ⟨0x0020000C, 30, 2, 0x0, .rw⟩
def INP_LOSS_FALLBACK : Fld := ⟨0x0020000C, 29, 1, 0x0, .rw⟩
def INP_LOSS_FREEZE_HOLD : Fld := ⟨0x0020000C, 28, 1, 0x0, .rw⟩
def INP_LOSS_FREEZE_MS : Fld := ⟨0x0020000C, 0, 16, 0x0, .rw⟩
def INP_SYNC_HOLD : Fld := ⟨0x00200010, 24, 8, 0x8, .rw⟩
def INP_SYNC_GUARD_US : Fld := ⟨0x00200010, 0, 10, 0x0, .rw⟩
def INP_TCCFG_TC_SRC : Fld := ⟨0x00200014, 0, 2, 0x0, .rw⟩
def INP_STAT_LC_STATE : Fld := ⟨0x00200020, 29, 3, 0x0, .ro⟩
def INP_STAT_IN_STATE : Fld := ⟨0x00200020, 27, 2, 0x0, .ro⟩
def INP_STAT_LOSS_PHASE : Fld := ⟨0x00200020, 25, 2, 0x0, .ro⟩
def INP_STAT_MEMBER : Fld := ⟨0x00200020, 24, 1, 0x0, .ro⟩
def INP_STAT_PHASE_VALID : Fld := ⟨0x00200020, 23, 1, 0x0, .ro⟩
def INP_FMT_DET_FMT : Fld := ⟨0x00200024, 24, 8, 0x0, .ro⟩
def INP_FMT_DET_STRUCT : Fld := ⟨0x00200024, 21, 3, 0x0, .ro⟩
def INP_FMT_DET_TRANSFER : Fld := ⟨0x00200024, 19, 2, 0x0, .ro⟩
def INP_FMT_DET_COLOR : Fld := ⟨0x00200024, 17, 2, 0x0, .ro⟩
def INP_FMT_DET_FROM_VPID : Fld := ⟨0x00200024, 16, 1, 0x0, .ro⟩
def INP_FMT_DET_CONFLICT : Fld := ⟨0x00200024, 15, 1, 0x0, .ro⟩
def INP_PHASE_OFFSET : Fld := ⟨0x00200028, 0, 32, 0x0, .ro⟩
def INP_IFC_COUNT : Fld := ⟨0x0020002C, 0, 32, 0x0, .ro⟩
def INP_STORE_KIB : Fld := ⟨0x00200030, 0, 32, 0x0, .ro⟩
def INP_TC_VALID : Fld := ⟨0x00200040, 31, 1, 0x0, .ro⟩
def INP_TC_DF : Fld := ⟨0x00200040, 30, 1, 0x0, .ro⟩
def INP_TC_HOURS : Fld := ⟨0x00200040, 24, 6, 0x0, .ro⟩
def INP_TC_CF : Fld := ⟨0x00200040, 23, 1, 0x0, .ro⟩
def INP_TC_MINUTES : Fld := ⟨0x00200040, 16, 7, 0x0, .ro⟩
def INP_TC_PAIR : Fld := ⟨0x00200040, 15, 1, 0x0, .ro⟩
def INP_TC_SECONDS : Fld := ⟨0x00200040, 8, 7, 0x0, .ro⟩
def INP_TC_FRAMES : Fld := ⟨0x00200040, 0, 6, 0x0, .ro⟩
def INP_TC_UB_UB : Fld := ⟨0x00200044, 0, 32, 0x0, .ro⟩
def INP_EVT_FLAGS : Fld := ⟨0x00200050, 0, 12, 0x0, .w1c⟩
def INP_OCC_A_LO : Fld := ⟨0x00200054, 0, 16, 0x0, .ro⟩
def INP_OCC_A_HI : Fld := ⟨0x00200054, 16, 16, 0x0, .ro⟩
def INP_OCC_B_LO : Fld := ⟨0x00200058, 0, 16, 0x0, .ro⟩
def INP_OCC_B_HI : Fld := ⟨0x00200058, 16, 16, 0x0, .ro⟩
def INP_OCC_C_LO : Fld := ⟨0x0020005C, 0, 16, 0x0, .ro⟩
def INP_OCC_C_HI : Fld := ⟨0x0020005C, 16, 16, 0x0, .ro⟩
def INP_OCC_D_LO : Fld := ⟨0x00200060, 0, 16, 0x0, .ro⟩
def INP_OCC_D_HI : Fld := ⟨0x00200060, 16, 16, 0x0, .ro⟩
def INP_OCC_E_LO : Fld := ⟨0x00200064, 0, 16, 0x0, .ro⟩
def INP_OCC_E_HI : Fld := ⟨0x00200064, 16, 16, 0x0, .ro⟩
def INP_OCC_F_LO : Fld := ⟨0x00200068, 0, 16, 0x0, .ro⟩
def INP_OCC_F_HI : Fld := ⟨0x00200068, 16, 16, 0x0, .ro⟩
def INP_SYNC_STAT_ACTIVE : Fld := ⟨0x00200100, 31, 1, 0x0, .ro⟩
def INP_SYNC_PICK_IFC : Fld := ⟨0x00200104, 0, 32, 0x0, .ro⟩
def INP_SYNC_SLIPS_REPEATS : Fld := ⟨0x00200108, 16, 16, 0x0, .ro⟩
def INP_SYNC_SLIPS_DROPS : Fld := ⟨0x00200108, 0, 16, 0x0, .ro⟩
def INP_SYNC_STG_FREEZE_LIVE : Fld := ⟨0x0020010C, 1, 1, 0x0, .ro⟩
def INP_SYNC_STG_FREEZE : Fld := ⟨0x0020010C, 0, 1, 0x0, .rw⟩
def INP_ANCF_MATCH_ENABLE : Fld := ⟨0x00200200, 31, 1, 0x0, .rw⟩
def INP_ANCF_MATCH_SDID_ANY : Fld := ⟨0x00200200, 30, 1, 0x0, .rw⟩
def INP_ANCF_MATCH_STREAM : Fld := ⟨0x00200200, 28, 2, 0x0, .rw⟩
def INP_ANCF_MATCH_LINE_ALL : Fld := ⟨0x00200200, 27, 1, 0x1, .rw⟩
def INP_ANCF_MATCH_CAP_BAD : Fld := ⟨0x00200200, 26, 1, 0x0, .rw⟩
def INP_ANCF_MATCH_DID : Fld := ⟨0x00200200, 8, 8, 0x0, .rw⟩
def INP_ANCF_MATCH_SDID : Fld := ⟨0x00200200, 0, 8, 0x0, .rw⟩
def INP_ANCF_LINES_LINE_FIRST : Fld := ⟨0x00200204, 16, 13, 0x1, .rw⟩
def INP_ANCF_LINES_LINE_LAST : Fld := ⟨0x00200204, 0, 13, 0x1, .rw⟩
def INP_ANCF_RING_RING : Fld := ⟨0x00200208, 0, 32, 0x0, .rw⟩
def INP_CNT_ANC_CAPT_COUNT : Fld := ⟨0x00200300, 0, 32, 0x0, .ro⟩
def INP_CNT_ANC_CSUM_COUNT : Fld := ⟨0x00200304, 0, 32, 0x0, .ro⟩
def INP_CNT_ANC_HDR_COUNT : Fld := ⟨0x00200308, 0, 32, 0x0, .ro⟩
def INP_CNT_ANC_OVF_COUNT : Fld := ⟨0x0020030C, 0, 32, 0x0, .ro⟩
def INP_CNT_WR_SKIP_COUNT : Fld := ⟨0x00200310, 0, 32, 0x0, .ro⟩
def PLZ_ISO_BUDGET_MBPS : Fld := ⟨0x00300000, 0, 32, 0x0, .ro⟩
def PLZ_ISO_CHARGED_MBPS : Fld := ⟨0x00300004, 0, 32, 0x0, .ro⟩
def PLZ_ISO_PEAK_MBPS : Fld := ⟨0x00300008, 0, 32, 0x0, .ro⟩
def PLZ_ISO_REFUSED_COUNT : Fld := ⟨0x0030000C, 0, 32, 0x0, .ro⟩
def PLZ_GANG_CFG_GANG : Fld := ⟨0x00300010, 0, 24, 0x0, .rws⟩
def PLZ_SEL_STG_KIND : Fld := ⟨0x00301000, 28, 4, 0x0, .rw⟩
def PLZ_SEL_STG_NUM : Fld := ⟨0x00301000, 0, 8, 0x0, .rw⟩
def PLZ_SEL_STG_H_HANDLE : Fld := ⟨0x00301004, 0, 32, 0x0, .rw⟩
def PLZ_SEL_LIVE_SEL : Fld := ⟨0x00301008, 0, 32, 0x0, .ro⟩
def PLZ_SEL_LIVE_H_HANDLE : Fld := ⟨0x0030100C, 0, 32, 0x0, .ro⟩
def PLZ_DST_CFG_AUTO_RETURN : Fld := ⟨0x00301010, 0, 1, 0x0, .rw⟩
def PLZ_DST_STAT_PATH : Fld := ⟨0x00301014, 30, 2, 0x0, .ro⟩
def PLZ_DST_STAT_ELIGIBLE : Fld := ⟨0x00301014, 29, 1, 0x0, .ro⟩
def PLZ_DST_STAT_QUAL : Fld := ⟨0x00301014, 25, 4, 0x0, .ro⟩
def PLZ_DST_STAT_CAUSE : Fld := ⟨0x00301014, 21, 4, 0x0, .ro⟩
def PLZ_DST_LEAD_NS : Fld := ⟨0x00301018, 0, 32, 0x80000000, .ro⟩
def PLZ_DST_CHARGE_MBPS : Fld := ⟨0x0030101C, 0, 32, 0x0, .ro⟩
def PLZ_CLONE_A_MEMBERS : Fld := ⟨0x00301020, 0, 32, 0x0, .ro⟩
def PLZ_CLONE_B_MEMBERS : Fld := ⟨0x00301024, 0, 24, 0x0, .ro⟩
def PLZ_DST_EVT_FLAGS : Fld := ⟨0x00301028, 0, 3, 0x0, .w1c⟩
def PLZ_DST_OCC_A_LO : Fld := ⟨0x0030102C, 0, 16, 0x0, .ro⟩
def PLZ_DST_OCC_A_HI : Fld := ⟨0x0030102C, 16, 16, 0x0, .ro⟩
def PLZ_DST_OCC_B_LO : Fld := ⟨0x00301030, 0, 16, 0x0, .ro⟩
def PLZ_DST_OCC_B_HI : Fld := ⟨0x00301030, 16, 16, 0x0, .ro⟩
def CVA_ENG_STAT_FAILED : Fld := ⟨0x00400000, 31, 1, 0x0, .ro⟩
def CVA_ENG_STAT_GANGED : Fld := ⟨0x00400000, 30, 1, 0x0, .ro⟩
def CVA_ENG_STAT_HEAD : Fld := ⟨0x00400000, 25, 5, 0x0, .ro⟩
def CVA_ENG_STAT_JOBS : Fld := ⟨0x00400000, 21, 4, 0x0, .ro⟩
def CVA_ENG_STAT_CREDITS : Fld := ⟨0x00400000, 0, 11, 0x0, .ro⟩
def CVA_ENG_LS_KIB : Fld := ⟨0x00400004, 0, 11, 0x0, .ro⟩
def CVA_ENG_EVT_FLAGS : Fld := ⟨0x00400008, 0, 1, 0x0, .w1c⟩
def CVA_ENG_OCC_LO : Fld := ⟨0x0040000C, 0, 16, 0x0, .ro⟩
def CVA_ENG_OCC_HI : Fld := ⟨0x0040000C, 16, 16, 0x0, .ro⟩
def CVA_POOL_FREE_CREDITS : Fld := ⟨0x00400010, 0, 16, 0x0, .ro⟩
def CVA_JOB_HANDLE_HANDLE : Fld := ⟨0x00402000, 0, 32, 0x0, .ro⟩
def CVA_JOB_LC_STOP : Fld := ⟨0x00402004, 1, 1, 0x0, .wo⟩
def CVA_JOB_LC_START : Fld := ⟨0x00402004, 0, 1, 0x0, .wo⟩
def CVA_JOB_STAT_LC_STATE : Fld := ⟨0x00402008, 29, 3, 0x0, .ro⟩
def CVA_JOB_STAT_PRIMING : Fld := ⟨0x00402008, 28, 1, 0x0, .ro⟩
def CVA_JOB_STAT_MODE_USED : Fld := ⟨0x00402008, 26, 2, 0x0, .ro⟩
def CVA_JOB_STAT_CADENCE : Fld := ⟨0x00402008, 24, 2, 0x0, .ro⟩
def CVA_JOB_STAT_FALLBACK : Fld := ⟨0x00402008, 23, 1, 0x0, .ro⟩
def CVA_JOB_STAT_BANK_LIVE : Fld := ⟨0x00402008, 22, 1, 0x0, .ro⟩
def CVA_JOB_STAT_FORCE_LIVE : Fld := ⟨0x00402008, 20, 2, 0x0, .ro⟩
def CVA_JOB_STAT_ENGINES : Fld := ⟨0x00402008, 17, 3, 0x0, .ro⟩
def CVA_JOB_CREDITS_C : Fld := ⟨0x0040200C, 0, 13, 0x0, .ro⟩
def CVA_JOB_STG_BANK : Fld := ⟨0x00402010, 2, 1, 0x0, .rw⟩
def CVA_JOB_STG_FORCE : Fld := ⟨0x00402010, 0, 2, 0x0, .rw⟩
def CVA_JOB_CFG_FB_HOLD : Fld := ⟨0x00402014, 24, 8, 0x8, .rw⟩
def CVA_JOB_CFG_CUT_TH : Fld := ⟨0x00402014, 16, 8, 0xC0, .rw⟩
def CVA_JOB_CFG_FRAME_TH : Fld := ⟨0x00402014, 8, 8, 0x40, .rw⟩
def CVA_JOB_CFG_BLK_TH : Fld := ⟨0x00402014, 0, 8, 0x18, .rw⟩
def CVA_JOB_CFG2_MOT_HI : Fld := ⟨0x00402018, 24, 8, 0x14, .rw⟩
def CVA_JOB_CFG2_MOT_LO : Fld := ⟨0x00402018, 16, 8, 0x4, .rw⟩
def CVA_JOB_CFG2_REP_TH : Fld := ⟨0x00402018, 8, 8, 0x8, .rw⟩
def CVA_JOB_CFG2_FB_MODE : Fld := ⟨0x00402018, 0, 1, 0x0, .rw⟩
def CVA_JOB_PICK_IFC : Fld := ⟨0x0040201C, 0, 32, 0x0, .ro⟩
def CVA_JOB_PHASE_FLOW : Fld := ⟨0x00402020, 16, 8, 0x0, .ro⟩
def CVA_JOB_PHASE_PHI : Fld := ⟨0x00402020, 0, 8, 0x0, .ro⟩
def CVA_JOB_OFSN_FSN : Fld := ⟨0x00402024, 0, 32, 0x0, .ro⟩
def CVA_JOB_EVT_FLAGS : Fld := ⟨0x00402030, 0, 9, 0x0, .w1c⟩
def CVA_JOB_OCC_A_LO : Fld := ⟨0x00402034, 0, 16, 0x0, .ro⟩
def CVA_JOB_OCC_A_HI : Fld := ⟨0x00402034, 16, 16, 0x0, .ro⟩
def CVA_JOB_OCC_B_LO : Fld := ⟨0x00402038, 0, 16, 0x0, .ro⟩
def CVA_JOB_OCC_B_HI : Fld := ⟨0x00402038, 16, 16, 0x0, .ro⟩
def CVA_JOB_OCC_C_LO : Fld := ⟨0x0040203C, 0, 16, 0x0, .ro⟩
def CVA_JOB_OCC_C_HI : Fld := ⟨0x0040203C, 16, 16, 0x0, .ro⟩
def CVA_JOB_OCC_D_LO : Fld := ⟨0x00402040, 0, 16, 0x0, .ro⟩
def CVA_JOB_OCC_D_HI : Fld := ⟨0x00402040, 16, 16, 0x0, .ro⟩
def CVA_JOB_OCC_E_LO : Fld := ⟨0x00402044, 0, 16, 0x0, .ro⟩
def CVA_JOB_OCC_E_HI : Fld := ⟨0x00402044, 16, 16, 0x0, .ro⟩
def CVA_CNT_FALLBACK_COUNT : Fld := ⟨0x00402050, 0, 32, 0x0, .ro⟩
def CVA_CNT_LATE_IN_COUNT : Fld := ⟨0x00402054, 0, 32, 0x0, .ro⟩
def OUT_LYR_SURF_HANDLE : Fld := ⟨0x00501000, 0, 32, 0x0, .rw⟩
def OUT_LYR_SURF_LIVE_HANDLE : Fld := ⟨0x00501080, 0, 32, 0x0, .ro⟩
def OUT_LYR_CTL_ALPHA : Fld := ⟨0x00501004, 30, 2, 0x0, .rw⟩
def OUT_LYR_CTL_MSEL : Fld := ⟨0x00501004, 28, 2, 0x0, .rw⟩
def OUT_LYR_CTL_GA : Fld := ⟨0x00501004, 16, 11, 0x400, .rw⟩
def OUT_LYR_CTL_LIVE_ALPHA : Fld := ⟨0x00501084, 30, 2, 0x0, .ro⟩
def OUT_LYR_CTL_LIVE_MSEL : Fld := ⟨0x00501084, 28, 2, 0x0, .ro⟩
def OUT_LYR_CTL_LIVE_GA : Fld := ⟨0x00501084, 16, 11, 0x400, .ro⟩
def OUT_LYR_FILL_YCBCR : Fld := ⟨0x00501008, 0, 30, 0x0, .rw⟩
def OUT_LYR_FILL_LIVE_YCBCR : Fld := ⟨0x00501088, 0, 30, 0x0, .ro⟩
def OUT_LYR_SRC_XY_XY : Fld := ⟨0x0050100C, 0, 32, 0x0, .rw⟩
def OUT_LYR_SRC_XY_LIVE_XY : Fld := ⟨0x0050108C, 0, 32, 0x0, .ro⟩
def OUT_LYR_SRC_WH_WH : Fld := ⟨0x00501010, 0, 32, 0x0, .rw⟩
def OUT_LYR_SRC_WH_LIVE_WH : Fld := ⟨0x00501090, 0, 32, 0x0, .ro⟩
def OUT_LYR_DST_XY_XY : Fld := ⟨0x00501014, 0, 32, 0x0, .rw⟩
def OUT_LYR_DST_XY_LIVE_XY : Fld := ⟨0x00501094, 0, 32, 0x0, .ro⟩
def OUT_LYR_DST_WH_WH : Fld := ⟨0x00501018, 0, 32, 0x0, .rw⟩
def OUT_LYR_DST_WH_LIVE_WH : Fld := ⟨0x00501098, 0, 32, 0x0, .ro⟩
def OUT_LYR_MAT_WORD : Fld := ⟨0x00501020, 0, 32, 0x0, .rw⟩
def OUT_LYR_MAT_LIVE_WORD : Fld := ⟨0x005010A0, 0, 32, 0x0, .ro⟩
def OUT_LYR_STAT_FETCH : Fld := ⟨0x005010F0, 31, 1, 0x0, .ro⟩
def OUT_LYR_STAT_JXS : Fld := ⟨0x005010F0, 30, 1, 0x0, .ro⟩
def OUT_LYR_STAT_COMMITTED : Fld := ⟨0x005010F0, 29, 1, 0x0, .ro⟩
def OUT_STN_OWNER_SESSION : Fld := ⟨0x005017D0, 0, 32, 0x0, .rws⟩
def OUT_STN_CFG_SLATE_MSEL : Fld := ⟨0x005017D4, 8, 2, 0x0, .rws⟩
def OUT_STN_CFG_STALE_LIMIT : Fld := ⟨0x005017D4, 0, 8, 0x3, .rws⟩
def OUT_STN_SLATE_HANDLE : Fld := ⟨0x005017D8, 0, 32, 0x0, .rws⟩
def OUT_STN_STAT_SLATE : Fld := ⟨0x005017DC, 31, 1, 0x0, .ro⟩
def OUT_STN_STAT_STALE_CNT : Fld := ⟨0x005017DC, 0, 8, 0x0, .ro⟩
def OUT_STN_LAST_FSN : Fld := ⟨0x005017E0, 0, 32, 0x0, .ro⟩
def OUT_CMP_CFG_TRANSFER : Fld := ⟨0x00501800, 1, 2, 0x0, .rws⟩
def OUT_CMP_CFG_COLOR : Fld := ⟨0x00501800, 0, 1, 0x0, .rws⟩
def OUT_UC_PAT_PAT : Fld := ⟨0x00501804, 0, 3, 0x0, .rw⟩
def OUT_UC_COLOR_YCBCR : Fld := ⟨0x00501808, 0, 30, 0x4080200, .rw⟩
def OUT_UC_PAT_LIVE_PAT : Fld := ⟨0x0050180C, 0, 3, 0x0, .ro⟩
def OUT_UC_COLOR_LIVE_YCBCR : Fld := ⟨0x00501810, 0, 30, 0x0, .ro⟩
def OUT_OM_CTL_OM_SEL : Fld := ⟨0x00501820, 0, 2, 0x0, .rw⟩
def OUT_OM_CTL_LIVE_OM_SEL : Fld := ⟨0x00501860, 0, 2, 0x0, .ro⟩
def OUT_OM_MAT_WORD : Fld := ⟨0x00501824, 0, 32, 0x0, .rw⟩
def OUT_OM_MAT_LIVE_WORD : Fld := ⟨0x00501864, 0, 32, 0x0, .ro⟩
def OUT_WB_CFG_ENABLE : Fld := ⟨0x005018A0, 0, 1, 0x0, .rws⟩
def OUT_WB_SURF_HANDLE : Fld := ⟨0x005018A4, 0, 32, 0x0, .rws⟩
def OUT_LYR_EVT_FLAGS : Fld := ⟨0x005018C0, 0, 5, 0x0, .w1c⟩
def OUT_LYR_OCC_A_LO : Fld := ⟨0x005018C4, 0, 16, 0x0, .ro⟩
def OUT_LYR_OCC_A_HI : Fld := ⟨0x005018C4, 16, 16, 0x0, .ro⟩
def OUT_LYR_OCC_B_LO : Fld := ⟨0x005018C8, 0, 16, 0x0, .ro⟩
def OUT_LYR_OCC_B_HI : Fld := ⟨0x005018C8, 16, 16, 0x0, .ro⟩
def OUT_LYR_OCC_C_LO : Fld := ⟨0x005018CC, 0, 16, 0x0, .ro⟩
def OUT_LYR_OCC_C_HI : Fld := ⟨0x005018CC, 16, 16, 0x0, .ro⟩
def OUT_POOL_FREE_JXS : Fld := ⟨0x005018F0, 16, 5, 0x10, .ro⟩
def OUT_POOL_FREE_FETCH : Fld := ⟨0x005018F0, 0, 9, 0x0, .ro⟩
def OUT_LC_STOP : Fld := ⟨0x00500000, 1, 1, 0x0, .wo⟩
def OUT_LC_START : Fld := ⟨0x00500000, 0, 1, 0x0, .wo⟩
def OUT_TMG_FMT_TLN : Fld := ⟨0x00500004, 28, 4, 0x0, .rws⟩
def OUT_TMG_FMT_STRUCT : Fld := ⟨0x00500004, 24, 3, 0x0, .rws⟩
def OUT_TMG_FMT_FMT : Fld := ⟨0x00500004, 0, 8, 0x0, .rws⟩
def OUT_TMG_OFS_NS : Fld := ⟨0x00500008, 0, 32, 0x0, .rws⟩
def OUT_TMG_CTL_RUN : Fld := ⟨0x0050000C, 31, 1, 0x0, .ro⟩
def OUT_TMG_CTL_LMATCH_EN : Fld := ⟨0x0050000C, 16, 1, 0x0, .rw⟩
def OUT_TMG_CTL_LMATCH : Fld := ⟨0x0050000C, 0, 13, 0x1, .rw⟩
def OUT_STAT_LC_STATE : Fld := ⟨0x00500010, 29, 3, 0x0, .ro⟩
def OUT_STAT_ABORTED : Fld := ⟨0x00500010, 28, 1, 0x0, .ro⟩
def OUT_STAT_LINE : Fld := ⟨0x00500010, 0, 13, 0x0, .ro⟩
def OUT_FSN_FSN : Fld := ⟨0x00500014, 0, 32, 0x0, .ro⟩
def OUT_UR_LAST_SLATE : Fld := ⟨0x00500018, 24, 1, 0x0, .ro⟩
def OUT_UR_LAST_MASK : Fld := ⟨0x00500018, 16, 8, 0x0, .ro⟩
def OUT_UR_LAST_LINE : Fld := ⟨0x00500018, 0, 13, 0x0, .ro⟩
def OUT_UR_FSN_FSN : Fld := ⟨0x0050001C, 0, 32, 0x0, .ro⟩
def OUT_ANC_CFG_TC_INS : Fld := ⟨0x00500020, 31, 1, 0x0, .rw⟩
def OUT_ANC_CFG_TC_LINE : Fld := ⟨0x00500020, 0, 13, 0x0, .rws⟩
def OUT_ANC_RING_RING : Fld := ⟨0x00500024, 0, 32, 0x0, .rw⟩
def OUT_EVT_FLAGS : Fld := ⟨0x00500030, 0, 8, 0x0, .w1c⟩
def OUT_OCC_A_LO : Fld := ⟨0x00500034, 0, 16, 0x0, .ro⟩
def OUT_OCC_A_HI : Fld := ⟨0x00500034, 16, 16, 0x0, .ro⟩
def OUT_OCC_B_LO : Fld := ⟨0x00500038, 0, 16, 0x0, .ro⟩
def OUT_OCC_B_HI : Fld := ⟨0x00500038, 16, 16, 0x0, .ro⟩
def OUT_OCC_C_LO : Fld := ⟨0x0050003C, 0, 16, 0x0, .ro⟩
def OUT_OCC_C_HI : Fld := ⟨0x0050003C, 16, 16, 0x0, .ro⟩
def OUT_OCC_D_LO : Fld := ⟨0x00500040, 0, 16, 0x0, .ro⟩
def OUT_OCC_D_HI : Fld := ⟨0x00500040, 16, 16, 0x0, .ro⟩
def OUT_CNT_UNDERRUN_COUNT : Fld := ⟨0x00500050, 0, 32, 0x0, .ro⟩
def OUT_CNT_ANC_INS_COUNT : Fld := ⟨0x00500054, 0, 32, 0x0, .ro⟩
def OUT_CNT_ANC_DROP_COUNT : Fld := ⟨0x00500058, 0, 32, 0x0, .ro⟩
def OUT_SKIM_XY_XY : Fld := ⟨0x00502000, 0, 32, 0x0, .rw⟩
def OUT_SKIM_XY_LIVE_XY : Fld := ⟨0x00502010, 0, 32, 0x0, .ro⟩
def OUT_SKIM_WH_WH : Fld := ⟨0x00502004, 0, 32, 0x0, .rw⟩
def OUT_SKIM_WH_LIVE_WH : Fld := ⟨0x00502014, 0, 32, 0x0, .ro⟩
def OUT_SKIM_EXP_CRC : Fld := ⟨0x00502008, 0, 32, 0x0, .rw⟩
def OUT_SKIM_EXP_LIVE_CRC : Fld := ⟨0x00502018, 0, 32, 0x0, .ro⟩
def OUT_SKIM_RCTL_MODE : Fld := ⟨0x0050200C, 0, 2, 0x0, .rw⟩
def OUT_SKIM_RCTL_LIVE_MODE : Fld := ⟨0x0050201C, 0, 2, 0x0, .ro⟩
def OUT_SKIM_CRC_CRC : Fld := ⟨0x00502020, 0, 32, 0x0, .ro⟩
def OUT_SKIM_CRC_FSN_FSN : Fld := ⟨0x00502024, 0, 32, 0x0, .ro⟩
def OUT_SKIM_FAILS_COUNT : Fld := ⟨0x00502028, 0, 32, 0x0, .ro⟩
def OUT_SKIM_STATE_FAILING : Fld := ⟨0x0050202C, 0, 1, 0x0, .ro⟩
def OUT_SKIM_SET_HANDLE : Fld := ⟨0x00502200, 0, 32, 0x0, .ro⟩
def AUD_GRID_LO_G : Fld := ⟨0x00700000, 0, 32, 0x0, .ro⟩
def AUD_GRID_HI_G : Fld := ⟨0x00700004, 0, 32, 0x0, .ro⟩
def AUD_INFO_ROUTES : Fld := ⟨0x00700008, 0, 13, 0x0, .ro⟩
def AUD_UNIT_EVT_FLAGS : Fld := ⟨0x0070000C, 0, 1, 0x0, .w1c⟩
def AUD_UNIT_OCC_LO : Fld := ⟨0x00700010, 0, 16, 0x0, .ro⟩
def AUD_UNIT_OCC_HI : Fld := ⟨0x00700010, 16, 16, 0x0, .ro⟩
def AUD_GRID_OFS_LO_GO : Fld := ⟨0x00700014, 0, 32, 0x0, .ro⟩
def AUD_GRID_OFS_HI_GO : Fld := ⟨0x00700018, 0, 32, 0x0, .ro⟩
def AUD_IN_CFG_GRP_EN : Fld := ⟨0x00701000, 24, 8, 0x0, .rws⟩
def AUD_IN_CFG_LS_MODE : Fld := ⟨0x00701000, 23, 1, 0x0, .rw⟩
def AUD_IN_CFG_LS_TLN : Fld := ⟨0x00701000, 19, 4, 0x0, .rw⟩
def AUD_IN_CFG_LS_SLEW_PPM : Fld := ⟨0x00701000, 0, 10, 0xC8, .rw⟩
def AUD_IN_FIXED_LS_FIXED_US : Fld := ⟨0x00701004, 0, 20, 0x3E8, .rw⟩
def AUD_IN_DA_NS : Fld := ⟨0x00701008, 0, 32, 0xF4240, .ro⟩
def AUD_IN_DV_NS : Fld := ⟨0x0070100C, 0, 32, 0xFFFFFFFF, .ro⟩
def AUD_GRP_STAT_STATE : Fld := ⟨0x00701010, 30, 2, 0x0, .ro⟩
def AUD_GRP_STAT_NPCM : Fld := ⟨0x00701010, 16, 2, 0x0, .ro⟩
def AUD_GRP_STAT_RATE_OFS : Fld := ⟨0x00701010, 0, 16, 0x0, .ro⟩
def AUD_GRP_RATIO_RATIO : Fld := ⟨0x00701030, 0, 32, 0x0, .ro⟩
def AUD_IN_EVT_FLAGS : Fld := ⟨0x00701050, 0, 5, 0x0, .w1c⟩
def AUD_IN_OCC_A_LO : Fld := ⟨0x00701054, 0, 16, 0x0, .ro⟩
def AUD_IN_OCC_A_HI : Fld := ⟨0x00701054, 16, 16, 0x0, .ro⟩
def AUD_IN_OCC_B_LO : Fld := ⟨0x00701058, 0, 16, 0x0, .ro⟩
def AUD_IN_OCC_B_HI : Fld := ⟨0x00701058, 16, 16, 0x0, .ro⟩
def AUD_IN_OCC_C_LO : Fld := ⟨0x0070105C, 0, 16, 0x0, .ro⟩
def AUD_IN_OCC_C_HI : Fld := ⟨0x0070105C, 16, 16, 0x0, .ro⟩
def AUD_IN_HIST_KIB : Fld := ⟨0x00701060, 0, 32, 0x0, .ro⟩
def AUD_OUT_CFG_GRP_EN : Fld := ⟨0x00704000, 24, 8, 0x0, .rws⟩
def AUD_OUT_CFG_SD_EXT : Fld := ⟨0x00704000, 23, 1, 0x0, .rws⟩
def AUD_OUT_CFG_ACP_EN : Fld := ⟨0x00704000, 22, 1, 0x0, .rws⟩
def AUD_OUT_STAT_CAPACITY : Fld := ⟨0x00704004, 16, 6, 0x0, .ro⟩
def AUD_OUT_STAT_SEQ_POS : Fld := ⟨0x00704004, 13, 3, 0x0, .ro⟩
def AUD_OUT_STAT_COUNT : Fld := ⟨0x00704004, 0, 13, 0x0, .ro⟩
def AUD_INS_RING_RING : Fld := ⟨0x00706000, 0, 32, 0x0, .rw⟩
def AUD_INS_STAT_STATE : Fld := ⟨0x00706004, 30, 2, 0x0, .ro⟩
def AUD_INS_UNDER_COUNT : Fld := ⟨0x00706008, 0, 32, 0x0, .ro⟩
def AUD_INS_EVT_FLAGS : Fld := ⟨0x0070600C, 0, 1, 0x0, .w1c⟩
def AUD_INS_OCC_LO : Fld := ⟨0x00706010, 0, 16, 0x0, .ro⟩
def AUD_INS_OCC_HI : Fld := ⟨0x00706010, 16, 16, 0x0, .ro⟩
def AUD_TAP_RING_RING : Fld := ⟨0x00706800, 0, 32, 0x0, .rw⟩
def AUD_TAP_CFG_TLN : Fld := ⟨0x00706804, 0, 4, 0x0, .rw⟩
def AUD_TAP_G0_LO_G : Fld := ⟨0x00706808, 0, 32, 0x0, .ro⟩
def AUD_TAP_G0_HI_G : Fld := ⟨0x0070680C, 0, 32, 0x0, .ro⟩
def AUD_RT_MAP_DST : Fld := ⟨0x00710000, 16, 12, 0xFFF, .rw⟩
def AUD_RT_MAP_SRC : Fld := ⟨0x00710000, 0, 12, 0x0, .rw⟩
def AUD_RT_MAP_LIVE_DST : Fld := ⟨0x00710010, 16, 12, 0xFFF, .ro⟩
def AUD_RT_MAP_LIVE_SRC : Fld := ⟨0x00710010, 0, 12, 0x0, .ro⟩
def AUD_RT_GAIN_MUTE : Fld := ⟨0x00710004, 16, 1, 0x0, .rw⟩
def AUD_RT_GAIN_GAIN : Fld := ⟨0x00710004, 0, 16, 0x0, .rw⟩
def AUD_RT_GAIN_LIVE_MUTE : Fld := ⟨0x00710014, 16, 1, 0x0, .ro⟩
def AUD_RT_GAIN_LIVE_GAIN : Fld := ⟨0x00710014, 0, 16, 0x0, .ro⟩
def AUD_RT_DELAY_DELAY : Fld := ⟨0x00710008, 0, 17, 0x0, .rw⟩
def AUD_RT_DELAY_LIVE_DELAY : Fld := ⟨0x00710018, 0, 17, 0x0, .ro⟩
def AUD_RT_STAT_NPCM : Fld := ⟨0x00710030, 31, 1, 0x0, .ro⟩
def AUD_RT_STAT_FADING : Fld := ⟨0x00710030, 30, 1, 0x0, .ro⟩
def AUD_RT_STAT_FADE : Fld := ⟨0x00710030, 0, 2, 0x0, .ro⟩
def AUD_RT_EVT_FLAGS : Fld := ⟨0x00710034, 0, 3, 0x0, .w1c⟩
def AUD_RT_OCC_A_LO : Fld := ⟨0x00710038, 0, 16, 0x0, .ro⟩
def AUD_RT_OCC_A_HI : Fld := ⟨0x00710038, 16, 16, 0x0, .ro⟩
def AUD_RT_OCC_B_LO : Fld := ⟨0x0071003C, 0, 16, 0x0, .ro⟩
def AUD_RT_OCC_B_HI : Fld := ⟨0x0071003C, 16, 16, 0x0, .ro⟩
def CUE_STAT_STATE : Fld := ⟨0x00800000, 29, 3, 0x0, .ro⟩
def CUE_STAT_CPEND : Fld := ⟨0x00800000, 28, 1, 0x0, .ro⟩
def CUE_STAT_TLN : Fld := ⟨0x00800000, 24, 4, 0x0, .ro⟩
def CUE_STAT_STAGED : Fld := ⟨0x00800000, 16, 8, 0x0, .ro⟩
def CUE_STAT_PC : Fld := ⟨0x00800000, 0, 16, 0x0, .ro⟩
def CUE_PROG_HANDLE : Fld := ⟨0x00800004, 0, 32, 0x0, .ro⟩
def CUE_SESS_HANDLE : Fld := ⟨0x00800008, 0, 32, 0x0, .ro⟩
def CUE_FAULT_STATUS : Fld := ⟨0x0080000C, 16, 16, 0x0, .ro⟩
def CUE_FAULT_PC : Fld := ⟨0x0080000C, 0, 16, 0x0, .ro⟩
def CUE_FAULT_ENT_ENTRY : Fld := ⟨0x00800010, 0, 8, 0xFF, .ro⟩
def CUE_S_S : Fld := ⟨0x00800014, 0, 16, 0x0, .ro⟩
def CUE_LAST_TGT_FSN : Fld := ⟨0x00800018, 0, 32, 0x0, .ro⟩
def CUE_CNT_COMMIT_COUNT : Fld := ⟨0x0080001C, 0, 32, 0x0, .ro⟩
def CUE_CNT_LATE_COUNT : Fld := ⟨0x00800020, 0, 32, 0x0, .ro⟩
def CUE_EVT_FLAGS : Fld := ⟨0x00800024, 0, 3, 0x0, .w1c⟩
def CUE_OCC_A_LO : Fld := ⟨0x00800028, 0, 16, 0x0, .ro⟩
def CUE_OCC_A_HI : Fld := ⟨0x00800028, 16, 16, 0x0, .ro⟩
def CUE_OCC_B_LO : Fld := ⟨0x0080002C, 0, 16, 0x0, .ro⟩
def CUE_OCC_B_HI : Fld := ⟨0x0080002C, 16, 16, 0x0, .ro⟩
def CUE_G_VALUE : Fld := ⟨0x00800040, 0, 32, 0x0, .ro⟩
def CUE_PARAM_VALUE : Fld := ⟨0x00800080, 0, 32, 0x0, .rw⟩
def REF_CFG_QL_EN : Fld := ⟨0x00050000, 31, 1, 0x0, .rw⟩
def REF_CFG_FORCE_EN : Fld := ⟨0x00050000, 30, 1, 0x0, .rw⟩
def REF_CFG_FORCE_CAND : Fld := ⟨0x00050000, 26, 4, 0x0, .rw⟩
def REF_CFG_DPLL_MODE : Fld := ⟨0x00050000, 24, 2, 0x0, .rw⟩
def REF_CFG_FR_START : Fld := ⟨0x00050000, 16, 8, 0x0, .rw⟩
def REF_CFG_ACQ_BW : Fld := ⟨0x00050000, 12, 4, 0x4, .rw⟩
def REF_CFG_HO_QL : Fld := ⟨0x00050000, 9, 3, 0x5, .rw⟩
def REF_LIMITS_HARD_PPB : Fld := ⟨0x00050004, 16, 16, 0x2710, .rw⟩
def REF_LIMITS_SOFT_PPB : Fld := ⟨0x00050004, 0, 16, 0x3E8, .rw⟩
def REF_LIMITS2_DIS_PPB : Fld := ⟨0x00050008, 16, 16, 0x1F4, .rw⟩
def REF_LIMITS2_PULL_PPM : Fld := ⟨0x00050008, 8, 8, 0xC, .rw⟩
def REF_HO_CFG_WINDOW_S : Fld := ⟨0x0005000C, 16, 16, 0x3E8, .rw⟩
def REF_HO_CFG_RECENT_S : Fld := ⟨0x0005000C, 0, 16, 0xE10, .rw⟩
def REF_STAT_DPLL : Fld := ⟨0x00050010, 29, 3, 0x0, .ro⟩
def REF_STAT_SEL_VALID : Fld := ⟨0x00050010, 28, 1, 0x0, .ro⟩
def REF_STAT_SEL : Fld := ⟨0x00050010, 24, 4, 0x0, .ro⟩
def REF_STAT_OUT_QL : Fld := ⟨0x00050010, 21, 3, 0x6, .ro⟩
def REF_STAT_EPOCH_RUN : Fld := ⟨0x00050010, 20, 1, 0x0, .ro⟩
def REF_STAT_HO_VALID : Fld := ⟨0x00050010, 19, 1, 0x0, .ro⟩
def REF_STAT_CLAMP : Fld := ⟨0x00050010, 18, 1, 0x0, .ro⟩
def REF_DCO_LO_S : Fld := ⟨0x00050014, 0, 32, 0x0, .ro⟩
def REF_DCO_HI_S : Fld := ⟨0x00050018, 0, 32, 0x0, .ro⟩
def REF_MAN_LO_S : Fld := ⟨0x0005001C, 0, 32, 0x0, .rw⟩
def REF_MAN_HI_S : Fld := ⟨0x00050020, 0, 8, 0x0, .rw⟩
def REF_HO_LO_S : Fld := ⟨0x00050024, 0, 32, 0x0, .ro⟩
def REF_HO_HI_S : Fld := ⟨0x00050028, 0, 32, 0x0, .ro⟩
def REF_GOOD_GOOD_S : Fld := ⟨0x0005002C, 16, 16, 0x0, .ro⟩
def REF_GOOD_MARK_AGE : Fld := ⟨0x0005002C, 0, 16, 0xFFFF, .ro⟩
def REF_PHASE_ERR_NS : Fld := ⟨0x00050030, 0, 32, 0x0, .ro⟩
def REF_EPOCH_NS_NS : Fld := ⟨0x00050034, 0, 32, 0x0, .ro⟩
def REF_EPOCH_S_LO_S : Fld := ⟨0x00050038, 0, 32, 0x0, .ro⟩
def REF_EPOCH_S_HI_S : Fld := ⟨0x0005003C, 0, 16, 0x0, .ro⟩
def REF_EVT_FLAGS : Fld := ⟨0x00050040, 0, 3, 0x0, .w1c⟩
def REF_OCC_A_LO : Fld := ⟨0x00050044, 0, 16, 0x0, .ro⟩
def REF_OCC_A_HI : Fld := ⟨0x00050044, 16, 16, 0x0, .ro⟩
def REF_OCC_B_LO : Fld := ⟨0x00050048, 0, 16, 0x0, .ro⟩
def REF_OCC_B_HI : Fld := ⟨0x00050048, 16, 16, 0x0, .ro⟩
def REF_CAND_CFG_ENABLE : Fld := ⟨0x00050400, 31, 1, 0x0, .ro⟩
def REF_CAND_CFG_PPS_REQ : Fld := ⟨0x00050400, 30, 1, 0x0, .ro⟩
def REF_CAND_CFG_PRIO : Fld := ⟨0x00050400, 26, 4, 0x0, .ro⟩
def REF_CAND_CFG_QL : Fld := ⟨0x00050400, 23, 3, 0x0, .ro⟩
def REF_CAND_CFG_BW : Fld := ⟨0x00050400, 20, 3, 0x0, .ro⟩
def REF_CAND_CFG_WTR_S : Fld := ⟨0x00050400, 8, 12, 0x0, .ro⟩
def REF_CAND_CFG_SRC : Fld := ⟨0x00050400, 0, 8, 0x0, .ro⟩
def REF_CAND_OFS_PHASE_OFS : Fld := ⟨0x00050404, 0, 32, 0x0, .ro⟩
def REF_CAND_STAT_STATE : Fld := ⟨0x00050408, 29, 3, 0x0, .ro⟩
def REF_CAND_STAT_SELECTED : Fld := ⟨0x00050408, 28, 1, 0x0, .ro⟩
def REF_CAND_STAT_DISAGREE : Fld := ⟨0x00050408, 27, 1, 0x0, .ro⟩
def REF_CAND_STAT_SUSPECT : Fld := ⟨0x00050408, 26, 1, 0x0, .ro⟩
def REF_CAND_STAT_EFF_QL : Fld := ⟨0x00050408, 23, 3, 0x7, .ro⟩
def REF_CAND_STAT_MSG_QL : Fld := ⟨0x00050408, 20, 3, 0x7, .ro⟩
def REF_CAND_STAT_WTR_LEFT : Fld := ⟨0x00050408, 0, 12, 0x0, .ro⟩
def REF_CAND_FREQ_PPT : Fld := ⟨0x0005040C, 0, 32, 0x80000000, .ro⟩
def REF_CAND_PHASE_NS : Fld := ⟨0x00050410, 0, 32, 0x80000000, .ro⟩
def REF_CAND_EVT_FLAGS : Fld := ⟨0x00050414, 0, 3, 0x0, .w1c⟩
def REF_CAND_OCC_A_LO : Fld := ⟨0x00050418, 0, 16, 0x0, .ro⟩
def REF_CAND_OCC_A_HI : Fld := ⟨0x00050418, 16, 16, 0x0, .ro⟩
def REF_CAND_OCC_B_LO : Fld := ⟨0x0005041C, 0, 16, 0x0, .ro⟩
def REF_CAND_OCC_B_HI : Fld := ⟨0x0005041C, 16, 16, 0x0, .ro⟩
def REF_TLN_CFG_KERB : Fld := ⟨0x00051000, 16, 7, 0x0, .rws⟩
def REF_TLN_CFG_FMT : Fld := ⟨0x00051000, 0, 8, 0x0, .rws⟩
def REF_TLN_PHASE_NS : Fld := ⟨0x00051004, 0, 32, 0x0, .rw⟩
def REF_TLN_SLEW_CUT : Fld := ⟨0x00051008, 31, 1, 0x0, .wo⟩
def REF_TLN_SLEW_SLEW_PPM : Fld := ⟨0x00051008, 0, 8, 0x5, .rw⟩
def REF_TLN_STAT_STATE : Fld := ⟨0x0005100C, 30, 2, 0x0, .ro⟩
def REF_TLN_STAT_SLEWING : Fld := ⟨0x0005100C, 29, 1, 0x0, .ro⟩
def REF_TLN_STAT_CUT_PEND : Fld := ⟨0x0005100C, 28, 1, 0x0, .ro⟩
def REF_TLN_STAT_LINE : Fld := ⟨0x0005100C, 0, 13, 0x0, .ro⟩
def REF_TLN_FSN_FSN : Fld := ⟨0x00051010, 0, 32, 0x0, .ro⟩
def REF_TLN_ERR_NS : Fld := ⟨0x00051014, 0, 32, 0x0, .ro⟩
def REF_TLN_EVT_FLAGS : Fld := ⟨0x00051018, 0, 4, 0x0, .w1c⟩
def REF_TLN_OCC_A_LO : Fld := ⟨0x0005101C, 0, 16, 0x0, .ro⟩
def REF_TLN_OCC_A_HI : Fld := ⟨0x0005101C, 16, 16, 0x0, .ro⟩
def REF_TLN_OCC_B_LO : Fld := ⟨0x00051020, 0, 16, 0x0, .ro⟩
def REF_TLN_OCC_B_HI : Fld := ⟨0x00051020, 16, 16, 0x0, .ro⟩
def REF_PTP_CFG_ENABLE : Fld := ⟨0x00050800, 31, 1, 0x0, .rw⟩
def REF_PTP_CFG_UNICAST_DREQ : Fld := ⟨0x00050800, 30, 1, 0x0, .rws⟩
def REF_PTP_CFG_VLAN_EN : Fld := ⟨0x00050800, 29, 1, 0x0, .rws⟩
def REF_PTP_CFG_VLAN_ID : Fld := ⟨0x00050800, 16, 13, 0x0, .rws⟩
def REF_PTP_CFG_DOMAIN : Fld := ⟨0x00050800, 8, 8, 0x7F, .rws⟩
def REF_PTP_CFG_ANN_TO : Fld := ⟨0x00050800, 0, 8, 0x3, .rws⟩
def REF_PTP_IP_ADDR : Fld := ⟨0x00050804, 0, 32, 0x0, .rws⟩
def REF_PTP_NET_PREFIX : Fld := ⟨0x00050808, 0, 6, 0x0, .rws⟩
def REF_PTP_GW_ADDR : Fld := ⟨0x0005080C, 0, 32, 0x0, .rws⟩
def REF_PTP_MAC_LO_MAC : Fld := ⟨0x00050810, 0, 32, 0x0, .rws⟩
def REF_PTP_MAC_HI_MAC : Fld := ⟨0x00050814, 0, 16, 0x0, .rws⟩
def REF_PTP_ASYM_NS : Fld := ⟨0x00050818, 0, 32, 0x0, .rws⟩
def REF_PTP_STAT_PORT : Fld := ⟨0x00050820, 29, 3, 0x0, .ro⟩
def REF_PTP_STAT_LINK : Fld := ⟨0x00050820, 28, 1, 0x0, .ro⟩
def REF_PTP_STAT_GM_CLASS : Fld := ⟨0x00050820, 16, 8, 0xFF, .ro⟩
def REF_PTP_STAT_STEPS : Fld := ⟨0x00050820, 0, 16, 0x0, .ro⟩
def REF_PTP_GM_LO_ID : Fld := ⟨0x00050824, 0, 32, 0x0, .ro⟩
def REF_PTP_GM_HI_ID : Fld := ⟨0x00050828, 0, 32, 0x0, .ro⟩
def REF_PTP_OFS_NS : Fld := ⟨0x0005082C, 0, 32, 0x0, .ro⟩
def REF_PTP_MPD_NS : Fld := ⟨0x00050830, 0, 32, 0x0, .ro⟩
def REF_PTP_CNT_SYNC_COUNT : Fld := ⟨0x00050840, 0, 32, 0x0, .ro⟩
def REF_PTP_CNT_ANN_COUNT : Fld := ⟨0x00050844, 0, 32, 0x0, .ro⟩
def REF_PTP_CNT_DRESP_COUNT : Fld := ⟨0x00050848, 0, 32, 0x0, .ro⟩
def REF_PTP_CNT_BAD_COUNT : Fld := ⟨0x0005084C, 0, 32, 0x0, .ro⟩
def REF_PTP_SMTLV_WORD : Fld := ⟨0x00050880, 0, 32, 0x0, .ro⟩
def FAB_STAT_SEG_FAIL : Fld := ⟨0x00020000, 28, 4, 0x0, .ro⟩
def FAB_QOS_FN_A_QOS : Fld := ⟨0x00020004, 0, 32, 0x44444444, .rw⟩
def FAB_QOS_FN_B_QOS : Fld := ⟨0x00020008, 0, 32, 0x44444444, .rw⟩
def FAB_QOS_MISC_CUE : Fld := ⟨0x0002000C, 12, 4, 0xC, .rw⟩
def FAB_QOS_MISC_DEBUG : Fld := ⟨0x0002000C, 8, 4, 0x8, .rw⟩
def FAB_QOS_MISC_TWIN : Fld := ⟨0x0002000C, 4, 4, 0x8, .rw⟩
def FAB_QOS_MISC_MGT : Fld := ⟨0x0002000C, 0, 4, 0xE, .rw⟩
def FAB_PARK_PORT : Fld := ⟨0x00020010, 0, 32, 0x30101010, .rw⟩
def FAB_LOCK_CFG_TIMEOUT : Fld := ⟨0x00020014, 0, 12, 0x400, .rw⟩
def FAB_ERR_WR_INDEX : Fld := ⟨0x00020020, 0, 32, 0x0, .ro⟩
def FAB_ERR_CNT_COUNT : Fld := ⟨0x00020024, 0, 32, 0x0, .ro⟩
def FAB_FW_DENY_COUNT : Fld := ⟨0x00020028, 0, 32, 0x0, .ro⟩
def FAB_EVT_FLAGS : Fld := ⟨0x00020030, 0, 3, 0x0, .w1c⟩
def FAB_OCC_A_LO : Fld := ⟨0x00020034, 0, 16, 0x0, .ro⟩
def FAB_OCC_A_HI : Fld := ⟨0x00020034, 16, 16, 0x0, .ro⟩
def FAB_OCC_B_LO : Fld := ⟨0x00020038, 0, 16, 0x0, .ro⟩
def FAB_OCC_B_HI : Fld := ⟨0x00020038, 16, 16, 0x0, .ro⟩
def FAB_ERR_INFO_INFO : Fld := ⟨0x00020400, 0, 32, 0x0, .ro⟩
def FAB_ERR_ADDR_ADDR_LO : Fld := ⟨0x00020404, 0, 32, 0x0, .ro⟩
def FAB_ERR_XINFO_XINFO : Fld := ⟨0x00020408, 0, 32, 0x0, .ro⟩
def FAB_ERR_TIME_NS : Fld := ⟨0x0002040C, 0, 32, 0x0, .ro⟩
def FAB_FW_BASE_LO_BASE : Fld := ⟨0x00024000, 0, 32, 0x0, .rw⟩
def FAB_FW_BASE_HI_ENABLE : Fld := ⟨0x00024004, 31, 1, 0x0, .rw⟩
def FAB_FW_BASE_HI_SPACE : Fld := ⟨0x00024004, 30, 1, 0x0, .rw⟩
def FAB_FW_BASE_HI_RD_LOCK : Fld := ⟨0x00024004, 29, 1, 0x0, .rw⟩
def FAB_FW_BASE_HI_OWNER : Fld := ⟨0x00024004, 8, 8, 0x0, .rw⟩
def FAB_FW_BASE_HI_BASE : Fld := ⟨0x00024004, 0, 8, 0x0, .rw⟩
def FAB_FW_LIM_LO_LIMIT : Fld := ⟨0x00024008, 0, 32, 0x0, .rw⟩
def FAB_FW_LIM_HI_LIMIT : Fld := ⟨0x0002400C, 0, 8, 0x0, .rw⟩
def MBX_MB_CFG_ARM : Fld := ⟨0x00030000, 31, 1, 0x0, .rw⟩
def MBX_MB_CFG_VECTOR : Fld := ⟨0x00030000, 16, 7, 0x0, .rw⟩
def MBX_MB_CFG_RECV : Fld := ⟨0x00030000, 0, 8, 0x0, .ro⟩
def MBX_MB_STAT_DOM : Fld := ⟨0x00030004, 30, 2, 0x0, .ro⟩
def MBX_MB_STAT_COUNT : Fld := ⟨0x00030004, 0, 6, 0x0, .ro⟩
def MBX_MB_RX0_PTR_LO : Fld := ⟨0x00030010, 0, 32, 0x0, .ro⟩
def MBX_MB_RX1_PTR_HI : Fld := ⟨0x00030014, 0, 32, 0x0, .ro⟩
def MBX_MB_RX2_TAG : Fld := ⟨0x00030018, 0, 32, 0x0, .ro⟩
def MBX_MB_RX3_HDR : Fld := ⟨0x0003001C, 0, 32, 0x0, .ro⟩
def MBX_MB_POP_ARM : Fld := ⟨0x00030020, 31, 1, 0x0, .wo⟩
def MBX_MB_POP_COUNT : Fld := ⟨0x00030020, 0, 6, 0x0, .wo⟩
def MBX_MB_EVT_FLAGS : Fld := ⟨0x00030028, 0, 2, 0x0, .w1c⟩
def MBX_MB_OCC_LO : Fld := ⟨0x0003002C, 0, 16, 0x0, .ro⟩
def MBX_MB_OCC_HI : Fld := ⟨0x0003002C, 16, 16, 0x0, .ro⟩
def MBX_MB_CNT_POST_COUNT : Fld := ⟨0x00030030, 0, 32, 0x0, .ro⟩
def MBX_MB_CNT_BUSY_COUNT : Fld := ⟨0x00030034, 0, 32, 0x0, .ro⟩
def MBX_MB_CNT_DROP_COUNT : Fld := ⟨0x00030038, 0, 32, 0x0, .ro⟩
def MBX_TX_PTR_LO_PTR : Fld := ⟨0x00031000, 0, 32, 0x0, .rw⟩
def MBX_TX_PTR_HI_PTR : Fld := ⟨0x00031004, 0, 32, 0x0, .rw⟩
def MBX_TX_TAG_TAG : Fld := ⟨0x00031008, 0, 32, 0x0, .rw⟩
def MBX_TX_LEN_LEN_HINT : Fld := ⟨0x0003100C, 0, 16, 0x0, .rw⟩
def MBX_TX_POST_MB : Fld := ⟨0x00031010, 0, 4, 0x0, .wo⟩
def MBX_TX_RESULT_STATUS : Fld := ⟨0x00031014, 16, 16, 0x0, .ro⟩
def MBX_TX_RESULT_SEQ : Fld := ⟨0x00031014, 0, 16, 0x0, .ro⟩
def MBX_TX_DELIV_COUNT : Fld := ⟨0x00031018, 0, 32, 0x0, .ro⟩
def MBX_TX_DROP_COUNT : Fld := ⟨0x0003101C, 0, 32, 0x0, .ro⟩
def MBX_TX_DROP_TAG_TAG : Fld := ⟨0x00031020, 0, 32, 0x0, .ro⟩
def MBX_TX_DROP_MB_MB : Fld := ⟨0x00031024, 0, 4, 0x0, .ro⟩
def MBX_TX_EVT_FLAGS : Fld := ⟨0x00031028, 0, 1, 0x0, .w1c⟩
def MBX_TX_OCC_LO : Fld := ⟨0x0003102C, 0, 16, 0x0, .ro⟩
def MBX_TX_OCC_HI : Fld := ⟨0x0003102C, 16, 16, 0x0, .ro⟩
def MBX_LK_FORCE : Fld := ⟨0x00032000, 31, 1, 0x0, .wo⟩
def MBX_LK_OWNER : Fld := ⟨0x00032000, 0, 8, 0x0, .rw⟩
def MBX_LK_PEEK_OWNER : Fld := ⟨0x00032004, 0, 8, 0x0, .ro⟩
def MBX_LK_STAT_FREED : Fld := ⟨0x00032008, 16, 16, 0x0, .ro⟩
def MBX_LK_STAT_WINS : Fld := ⟨0x00032008, 0, 16, 0x0, .ro⟩
def MBX_EPOCH_A_PF : Fld := ⟨0x00033000, 24, 8, 0x0, .ro⟩
def MBX_EPOCH_A_PAIR1 : Fld := ⟨0x00033000, 16, 8, 0x0, .ro⟩
def MBX_EPOCH_A_PAIR0 : Fld := ⟨0x00033000, 8, 8, 0x0, .ro⟩
def MBX_EPOCH_A_MGT : Fld := ⟨0x00033000, 0, 8, 0x0, .ro⟩
def MBX_EPOCH_B_DEBUG : Fld := ⟨0x00033004, 8, 8, 0x0, .ro⟩
def MBX_EPOCH_B_TWIN : Fld := ⟨0x00033004, 0, 8, 0x0, .ro⟩
def NVS_CFG_BP_LOCK : Fld := ⟨0x00040000, 31, 1, 0x0, .w1s⟩
def NVS_CFG_BP : Fld := ⟨0x00040000, 4, 2, 0x0, .rw⟩
def NVS_CFG_PAGE_MODE : Fld := ⟨0x00040000, 0, 1, 0x0, .rw⟩
def NVS_CTL_RECALL : Fld := ⟨0x00040004, 1, 1, 0x0, .wo⟩
def NVS_CTL_STORE : Fld := ⟨0x00040004, 0, 1, 0x0, .wo⟩
def NVS_STAT_STATE : Fld := ⟨0x00040008, 29, 3, 0x0, .ro⟩
def NVS_STAT_BANK : Fld := ⟨0x00040008, 28, 1, 0x0, .ro⟩
def NVS_STAT_VCAP_OK : Fld := ⟨0x00040008, 27, 1, 0x0, .ro⟩
def NVS_STAT_PF : Fld := ⟨0x00040008, 26, 1, 0x0, .ro⟩
def NVS_STAT_RECALLED_OLD : Fld := ⟨0x00040008, 25, 1, 0x0, .ro⟩
def NVS_STAT_BLANK : Fld := ⟨0x00040008, 24, 1, 0x0, .ro⟩
def NVS_STORE_SEQ_SEQ : Fld := ⟨0x0004000C, 0, 32, 0x0, .ro⟩
def NVS_PORT_ADDR_ADDR : Fld := ⟨0x00040010, 2, 17, 0x0, .rw⟩
def NVS_PORT_DATA_DATA : Fld := ⟨0x00040014, 0, 32, 0x0, .rw⟩
def NVS_SCAN_AGE_H : Fld := ⟨0x00040018, 16, 16, 0xFFFF, .ro⟩
def NVS_SCAN_REFRESHED : Fld := ⟨0x00040018, 0, 16, 0x0, .ro⟩
def NVS_CNT_STORE_COUNT : Fld := ⟨0x0004001C, 0, 32, 0x0, .ro⟩
def NVS_CNT_AUTO_COUNT : Fld := ⟨0x00040020, 0, 32, 0x0, .ro⟩
def NVS_EVT_FLAGS : Fld := ⟨0x00040030, 0, 4, 0x0, .w1c⟩
def NVS_OCC_A_LO : Fld := ⟨0x00040034, 0, 16, 0x0, .ro⟩
def NVS_OCC_A_HI : Fld := ⟨0x00040034, 16, 16, 0x0, .ro⟩
def NVS_OCC_B_LO : Fld := ⟨0x00040038, 0, 16, 0x0, .ro⟩
def NVS_OCC_B_HI : Fld := ⟨0x00040038, 16, 16, 0x0, .ro⟩
def TWN_CTL_PAIR : Fld := ⟨0x00060000, 31, 1, 0x0, .rw⟩
def TWN_CTL_KIND : Fld := ⟨0x00060000, 30, 1, 0x0, .rw⟩
def TWN_CTL_TAKE_INH : Fld := ⟨0x00060000, 29, 1, 0x0, .rw⟩
def TWN_CTL_YIELD : Fld := ⟨0x00060000, 28, 1, 0x0, .wo⟩
def TWN_CTL_RESYNC : Fld := ⟨0x00060000, 27, 1, 0x0, .wo⟩
def TWN_CFG_CO_TLN : Fld := ⟨0x00060004, 28, 4, 0x0, .rw⟩
def TWN_CFG_AUTO_RESYNC : Fld := ⟨0x00060004, 27, 1, 0x0, .rw⟩
def TWN_CFG_UNRES : Fld := ⟨0x00060004, 26, 1, 0x0, .rw⟩
def TWN_CFG_IRQ_EN : Fld := ⟨0x00060004, 25, 1, 0x0, .rw⟩
def TWN_CFG_VECTOR : Fld := ⟨0x00060004, 16, 7, 0x0, .rw⟩
def TWN_STAT_PAIR_STATE : Fld := ⟨0x00060008, 28, 4, 0x0, .ro⟩
def TWN_STAT_ROLE : Fld := ⟨0x00060008, 27, 1, 0x0, .ro⟩
def TWN_STAT_SIDE : Fld := ⟨0x00060008, 26, 1, 0x0, .ro⟩
def TWN_STAT_NET_LOW : Fld := ⟨0x00060008, 25, 1, 0x0, .ro⟩
def TWN_STAT_ON_AIR : Fld := ⟨0x00060008, 24, 1, 0x0, .ro⟩
def TWN_STAT_PEER_ALIVE : Fld := ⟨0x00060008, 23, 1, 0x0, .ro⟩
def TWN_STAT_IDENT : Fld := ⟨0x00060008, 22, 1, 0x0, .ro⟩
def TWN_STAT_LAST_CAUSE : Fld := ⟨0x00060008, 8, 8, 0x0, .ro⟩
def TWN_PEER_VARIANT : Fld := ⟨0x0006000C, 24, 8, 0x0, .ro⟩
def TWN_PEER_STEPPING : Fld := ⟨0x0006000C, 16, 8, 0x0, .ro⟩
def TWN_PEER_NONCE_NONCE : Fld := ⟨0x00060010, 0, 32, 0x0, .ro⟩
def TWN_SKEW_NS : Fld := ⟨0x00060014, 0, 32, 0x80000000, .ro⟩
def TWN_CMP_EN_PIPES : Fld := ⟨0x00060020, 0, 32, 0xFFFFFFFF, .rw⟩
def TWN_VERDICT_VERDICT : Fld := ⟨0x00060030, 28, 4, 0x0, .ro⟩
def TWN_VERDICT_PIPE : Fld := ⟨0x00060030, 21, 7, 0x0, .ro⟩
def TWN_VERDICT_LINE : Fld := ⟨0x00060030, 8, 13, 0x0, .ro⟩
def TWN_VERDICT_AUDIO : Fld := ⟨0x00060030, 0, 1, 0x0, .ro⟩
def TWN_VERDICT_FSN_FSN : Fld := ⟨0x00060034, 0, 32, 0x0, .ro⟩
def TWN_EVIDENCE_PEER : Fld := ⟨0x00060038, 8, 8, 0x0, .ro⟩
def TWN_EVIDENCE_OWN : Fld := ⟨0x00060038, 0, 8, 0x0, .ro⟩
def TWN_XF_CFG_EN : Fld := ⟨0x00060100, 31, 1, 0x0, .rw⟩
def TWN_XF_CFG_STATE : Fld := ⟨0x00060100, 29, 2, 0x0, .ro⟩
def TWN_XF_CFG_PEER_PIPE : Fld := ⟨0x00060100, 0, 7, 0x0, .rw⟩
def TWN_XF_BUDGET_MBITS : Fld := ⟨0x00060140, 0, 32, 0x0, .ro⟩
def TWN_EVT_FLAGS : Fld := ⟨0x00060040, 0, 10, 0x0, .w1c⟩
def TWN_OCC_A_LO : Fld := ⟨0x00060044, 0, 16, 0x0, .ro⟩
def TWN_OCC_A_HI : Fld := ⟨0x00060044, 16, 16, 0x0, .ro⟩
def TWN_OCC_B_LO : Fld := ⟨0x00060048, 0, 16, 0x0, .ro⟩
def TWN_OCC_B_HI : Fld := ⟨0x00060048, 16, 16, 0x0, .ro⟩
def TWN_OCC_C_LO : Fld := ⟨0x0006004C, 0, 16, 0x0, .ro⟩
def TWN_OCC_C_HI : Fld := ⟨0x0006004C, 16, 16, 0x0, .ro⟩
def TWN_OCC_D_LO : Fld := ⟨0x00060050, 0, 16, 0x0, .ro⟩
def TWN_OCC_D_HI : Fld := ⟨0x00060050, 16, 16, 0x0, .ro⟩
def TWN_OCC_E_LO : Fld := ⟨0x00060054, 0, 16, 0x0, .ro⟩
def TWN_OCC_E_HI : Fld := ⟨0x00060054, 16, 16, 0x0, .ro⟩
def TWN_CNT_MISMATCH_COUNT : Fld := ⟨0x00060200, 0, 32, 0x0, .ro⟩
def TWN_CNT_CMP_GAP_COUNT : Fld := ⟨0x00060204, 0, 32, 0x0, .ro⟩
def TWN_CNT_SIG_DIFF_COUNT : Fld := ⟨0x00060208, 0, 32, 0x0, .ro⟩
def TWN_CNT_DEC_MISS_COUNT : Fld := ⟨0x0006020C, 0, 32, 0x0, .ro⟩
def TWN_CNT_DEC_LATE_COUNT : Fld := ⟨0x00060210, 0, 32, 0x0, .ro⟩
def TWN_CNT_FAILOVER_COUNT : Fld := ⟨0x00060214, 0, 32, 0x0, .ro⟩
def TWN_CNT_DIVERGED_COUNT : Fld := ⟨0x00060218, 0, 32, 0x0, .ro⟩
def SEC_BOOT_STAT_FUSE_OK : Fld := ⟨0x00070000, 31, 1, 0x0, .ro⟩
def SEC_BOOT_STAT_SLOT : Fld := ⟨0x00070000, 30, 1, 0x0, .ro⟩
def SEC_BOOT_STAT_NEXT_USED : Fld := ⟨0x00070000, 29, 1, 0x0, .ro⟩
def SEC_BOOT_STAT_STAT_B : Fld := ⟨0x00070000, 20, 4, 0x0, .ro⟩
def SEC_BOOT_STAT_STAT_A : Fld := ⟨0x00070000, 16, 4, 0x0, .ro⟩
def SEC_BOOT_STAT_KEY_INDEX : Fld := ⟨0x00070000, 8, 2, 0x0, .ro⟩
def SEC_FW_VERSION_VERSION : Fld := ⟨0x00070004, 0, 32, 0x0, .ro⟩
def SEC_FW_SVN_SVN : Fld := ⟨0x00070008, 0, 32, 0x0, .ro⟩
def SEC_ROLLBACK_BURN : Fld := ⟨0x0007000C, 31, 1, 0x0, .ro⟩
def SEC_ROLLBACK_COUNT : Fld := ⟨0x0007000C, 0, 7, 0x0, .ro⟩
def SEC_SVN_COMMIT_SVN : Fld := ⟨0x00070010, 0, 7, 0x0, .wo⟩
def SEC_BOOT_NEXT_VALID : Fld := ⟨0x00070014, 1, 1, 0x0, .rw⟩
def SEC_BOOT_NEXT_SLOT : Fld := ⟨0x00070014, 0, 1, 0x0, .rw⟩
def SEC_KEYS_REVOKED : Fld := ⟨0x00070018, 4, 4, 0x0, .ro⟩
def SEC_KEYS_PRESENT : Fld := ⟨0x00070018, 0, 4, 0x0, .ro⟩
def SEC_DEVKEY_WORD : Fld := ⟨0x00070040, 0, 32, 0x0, .ro⟩
def SEC_FW_DIGEST_WORD : Fld := ⟨0x00070080, 0, 32, 0x0, .ro⟩
def SEC_DEF_DIGEST_WORD : Fld := ⟨0x000700C0, 0, 32, 0x0, .ro⟩
def SEC_FUSE_DIGEST_WORD : Fld := ⟨0x00070100, 0, 32, 0x0, .ro⟩
def SEC_EVT_FLAGS : Fld := ⟨0x00070140, 0, 1, 0x0, .w1c⟩
def SEC_OCC_LO : Fld := ⟨0x00070144, 0, 16, 0x0, .ro⟩
def SEC_OCC_HI : Fld := ⟨0x00070144, 16, 16, 0x0, .ro⟩
def ID_LOT_LO_LOT : Fld := ⟨0x00000020, 0, 32, 0x0, .ro⟩
def ID_LOT_HI_LOT : Fld := ⟨0x00000024, 0, 16, 0x0, .ro⟩
def ID_DIE_WAFER : Fld := ⟨0x00000028, 24, 5, 0x0, .ro⟩
def ID_DIE_X : Fld := ⟨0x00000028, 8, 8, 0x0, .ro⟩
def ID_DIE_Y : Fld := ⟨0x00000028, 0, 8, 0x0, .ro⟩
def MGT_MODE_MODE : Fld := ⟨0x00010000, 29, 3, 0x0, .ro⟩
def MGT_MODE_TARGET : Fld := ⟨0x00010000, 26, 3, 0x0, .ro⟩
def MGT_MODE_PENDING : Fld := ⟨0x00010000, 25, 1, 0x0, .ro⟩
def MGT_MODE_RUN_SEEN : Fld := ⟨0x00010000, 24, 1, 0x0, .ro⟩
def MGT_MODE_LIMP_CAUSE : Fld := ⟨0x00010000, 16, 8, 0x0, .ro⟩
def MGT_RST_CAUSE_COUNT : Fld := ⟨0x00010004, 8, 8, 0x0, .ro⟩
def MGT_RST_CAUSE_CAUSE : Fld := ⟨0x00010004, 0, 4, 0x1, .ro⟩
def MGT_BOOT_TIME_TOTAL_MS : Fld := ⟨0x00010008, 22, 10, 0x0, .ro⟩
def MGT_BOOT_TIME_IMAGE_MS : Fld := ⟨0x00010008, 12, 10, 0x0, .ro⟩
def MGT_BOOT_TIME_TRAIN_MS : Fld := ⟨0x00010008, 6, 6, 0x0, .ro⟩
def MGT_DOM_SEL_DOMAIN : Fld := ⟨0x00010010, 0, 9, 0x0, .rw⟩
def MGT_DOM_CTL_RESET : Fld := ⟨0x00010014, 31, 1, 0x0, .wo⟩
def MGT_DOM_CTL_DEVICE : Fld := ⟨0x00010014, 30, 1, 0x0, .wo⟩
def MGT_DOM_CTL_CONFIRM : Fld := ⟨0x00010014, 16, 8, 0x0, .wo⟩
def MGT_DOM_CTL_REQ : Fld := ⟨0x00010014, 0, 2, 0x0, .wo⟩
def MGT_DOM_STAT_STATE : Fld := ⟨0x00010018, 30, 2, 0x0, .ro⟩
def MGT_DOM_STAT_PRESENT : Fld := ⟨0x00010018, 29, 1, 0x0, .ro⟩
def MGT_DOM_STAT_RESETS : Fld := ⟨0x00010018, 0, 8, 0x0, .ro⟩
def MGT_THERM_WARN_C : Fld := ⟨0x00010020, 24, 8, 0x64, .rw⟩
def MGT_THERM_TRIP_C : Fld := ⟨0x00010020, 16, 8, 0x0, .ro⟩
def MGT_TEMP_SENSOR : Fld := ⟨0x00010024, 16, 4, 0x0, .ro⟩
def MGT_TEMP_TJ : Fld := ⟨0x00010024, 0, 16, 0x0, .ro⟩
def MGT_SVC_START : Fld := ⟨0x00010030, 31, 1, 0x0, .wo⟩
def MGT_SVC_TX_EN : Fld := ⟨0x00010030, 30, 1, 0x0, .rw⟩
def MGT_SVC_STATE : Fld := ⟨0x00010030, 28, 2, 0x0, .ro⟩
def MGT_SVC_TEST : Fld := ⟨0x00010030, 24, 4, 0x0, .rw⟩
def MGT_FLOG_WR_INDEX : Fld := ⟨0x00010040, 0, 32, 0x0, .ro⟩
def MGT_EVT_FLAGS : Fld := ⟨0x00010050, 0, 4, 0x0, .w1c⟩
def MGT_OCC_A_LO : Fld := ⟨0x00010054, 0, 16, 0x0, .ro⟩
def MGT_OCC_A_HI : Fld := ⟨0x00010054, 16, 16, 0x0, .ro⟩
def MGT_OCC_B_LO : Fld := ⟨0x00010058, 0, 16, 0x0, .ro⟩
def MGT_OCC_B_HI : Fld := ⟨0x00010058, 16, 16, 0x0, .ro⟩
def MGT_FLOG_W_WORD : Fld := ⟨0x00018000, 0, 32, 0x0, .ro⟩

/-- Part 0 of the register map. -/
def regMap0 : List RegSpec := [
  ⟨"ID.VENDOR_PART", 0x00000000, [], [ID_VENDOR_PART_VENDOR, ID_VENDOR_PART_FAMILY]⟩,
  ⟨"ID.VARIANT", 0x00000004, [], [ID_VARIANT_STEPPING, ID_VARIANT_VARIANT]⟩,
  ⟨"ID.CAP_UNITS", 0x00000008, [], [ID_CAP_UNITS_ARCADE, ID_CAP_UNITS_PIPES, ID_CAP_UNITS_LANES]⟩,
  ⟨"ID.CAP_FEAT", 0x0000000C, [], [ID_CAP_FEAT_SCREENED, ID_CAP_FEAT_STENCIL_SKIM, ID_CAP_FEAT_TWIN, ID_CAP_FEAT_AUDIO, ID_CAP_FEAT_HBM_STACKS]⟩,
  ⟨"ID.CAP_POOLS", 0x00000010, [], [ID_CAP_POOLS_CREDITS, ID_CAP_POOLS_FETCH_SHARED]⟩,
  ⟨"ID.CAP_MEM", 0x00000014, [], [ID_CAP_MEM_FW_GIB, ID_CAP_MEM_HBM_GIB]⟩,
  ⟨"MBX.RING_DB_LO", 0x00034000, [(0x8, 16)], [MBX_RING_DB_LO_ARM, MBX_RING_DB_LO_RING]⟩,
  ⟨"MBX.RING_DB_HI", 0x00034004, [(0x8, 16)], [MBX_RING_DB_HI_INDEX]⟩,
  ⟨"MBX.ADMQ_CMD_BASE_LO", 0x00038000, [(0x40, 16)], [MBX_ADMQ_CMD_BASE_LO_ADDR]⟩,
  ⟨"MBX.ADMQ_CMD_BASE_HI", 0x00038004, [(0x40, 16)], [MBX_ADMQ_CMD_BASE_HI_ADDR]⟩,
  ⟨"MBX.ADMQ_CPL_BASE_LO", 0x00038008, [(0x40, 16)], [MBX_ADMQ_CPL_BASE_LO_ADDR]⟩,
  ⟨"MBX.ADMQ_CPL_BASE_HI", 0x0003800C, [(0x40, 16)], [MBX_ADMQ_CPL_BASE_HI_ADDR]⟩,
  ⟨"MBX.ADMQ_CFG", 0x00038010, [(0x40, 16)], [MBX_ADMQ_CFG_ENABLE, MBX_ADMQ_CFG_ACTIVE, MBX_ADMQ_CFG_VECTOR, MBX_ADMQ_CFG_CPL_SIZE, MBX_ADMQ_CFG_CMD_SIZE]⟩,
  ⟨"FAB.NOCTX", 0x00028000, [(0x4, 11)], [FAB_NOCTX_COUNT]⟩,
  ⟨"LNE.CTL", 0x00100000, [(0x1000, 105)], [LNE_CTL_ENABLE, LNE_CTL_RX_RATE, LNE_CTL_TX_RATE, LNE_CTL_MODE, LNE_CTL_RX_INV, LNE_CTL_TX_INV, LNE_CTL_EQ_OVR, LNE_CTL_TX_IDLE]⟩,
  ⟨"LNE.STATUS", 0x00100004, [(0x1000, 105)], [LNE_STATUS_RX_STATE, LNE_STATUS_TX_STATE, LNE_STATUS_RX_RATE_DET, LNE_STATUS_SIG_DET, LNE_STATUS_LOOP_ACTIVE, LNE_STATUS_BAND, LNE_STATUS_FREQ_OFS, LNE_STATUS_BOARD_ID]⟩,
  ⟨"LNE.EQ", 0x00100008, [(0x1000, 105)], [LNE_EQ_CTLE, LNE_EQ_POST, LNE_EQ_PRE, LNE_EQ_SWING]⟩,
  ⟨"LNE.EQ_DFE", 0x0010000C, [(0x1000, 105)], [LNE_EQ_DFE_TAP5, LNE_EQ_DFE_TAP4, LNE_EQ_DFE_TAP3, LNE_EQ_DFE_TAP2, LNE_EQ_DFE_TAP1]⟩,
  ⟨"LNE.EQ_EFF", 0x00100010, [(0x1000, 105)], [LNE_EQ_EFF_TX_BAND, LNE_EQ_EFF_BAND, LNE_EQ_EFF_SETTINGS]⟩,
  ⟨"LNE.LIMP_CFG", 0x00100014, [(0x1000, 105)], [LNE_LIMP_CFG_BLACK, LNE_LIMP_CFG_FMT]⟩,
  ⟨"LNE.EVT", 0x00100020, [(0x1000, 105)], [LNE_EVT_FLAGS]⟩,
  ⟨"LNE.OCC_A", 0x00100024, [(0x1000, 105)], [LNE_OCC_A_LO, LNE_OCC_A_HI]⟩,
  ⟨"LNE.OCC_B", 0x00100028, [(0x1000, 105)], [LNE_OCC_B_LO, LNE_OCC_B_HI]⟩,
  ⟨"LNE.OCC_C", 0x0010002C, [(0x1000, 105)], [LNE_OCC_C_LO, LNE_OCC_C_HI]⟩,
  ⟨"LNE.ESCAN_CTL", 0x00100040, [(0x1000, 105)], [LNE_ESCAN_CTL_START, LNE_ESCAN_CTL_ABORT, LNE_ESCAN_CTL_DWELL, LNE_ESCAN_CTL_TIME, LNE_ESCAN_CTL_VSIGN, LNE_ESCAN_CTL_VMAG]⟩,
  ⟨"LNE.ESCAN_STAT", 0x00100044, [(0x1000, 105)], [LNE_ESCAN_STAT_STATE, LNE_ESCAN_STAT_STATUS]⟩,
  ⟨"LNE.ESCAN_ERRS", 0x00100048, [(0x1000, 105)], [LNE_ESCAN_ERRS_ERRS]⟩,
  ⟨"LNE.ESCAN_CAL", 0x0010004C, [(0x1000, 105)], [LNE_ESCAN_CAL_TSTEPS, LNE_ESCAN_CAL_VSTEP_UV]⟩,
  ⟨"LNE.LOOP", 0x00100050, [(0x1000, 105)], [LNE_LOOP_SEL]⟩,
  ⟨"LNE.BYPASS_STAT", 0x00100054, [(0x1000, 105)], [LNE_BYPASS_STAT_ACTIVE, LNE_BYPASS_STAT_SRC]⟩,
  ⟨"LNE.SDI_CFG", 0x00100100, [(0x1000, 105)], [LNE_SDI_CFG_QUAD, LNE_SDI_CFG_LEVEL_B_TX, LNE_SDI_CFG_VPID_INS, LNE_SDI_CFG_DS_LINK]⟩,
  ⟨"LNE.SDI_STAT", 0x00100104, [(0x1000, 105)], [LNE_SDI_STAT_FR_STATE, LNE_SDI_STAT_LEVEL, LNE_SDI_STAT_QUAD_STATE, LNE_SDI_STAT_QUAD_LINK, LNE_SDI_STAT_VPID_VALID, LNE_SDI_STAT_EDH_SEEN, LNE_SDI_STAT_STRUCT]⟩,
  ⟨"LNE.SDI_MEAS", 0x00100108, [(0x1000, 105)], [LNE_SDI_MEAS_LINES, LNE_SDI_MEAS_WORDS]⟩,
  ⟨"LNE.SDI_VPID", 0x0010010C, [(0x1000, 105)], [LNE_SDI_VPID_BYTE4, LNE_SDI_VPID_BYTE3, LNE_SDI_VPID_BYTE2, LNE_SDI_VPID_BYTE1]⟩,
  ⟨"LNE.SDI_QSKEW", 0x00100110, [(0x1000, 105)], [LNE_SDI_QSKEW_SKEW]⟩,
  ⟨"LNE.GL_CFG", 0x00100140, [(0x1000, 105)], [LNE_GL_CFG_WIDTH, LNE_GL_CFG_AUTO_POL, LNE_GL_CFG_AUTO_REV]⟩,
  ⟨"LNE.GL_STAT", 0x00100144, [(0x1000, 105)], [LNE_GL_STAT_LINK_STATE, LNE_GL_STAT_RATE, LNE_GL_STAT_WIDTH, LNE_GL_STAT_POL_FLIP, LNE_GL_STAT_REVERSED, LNE_GL_STAT_SPARE, LNE_GL_STAT_POS, LNE_GL_STAT_TRAIN_COUNT, LNE_GL_STAT_FAR_LID]⟩,
  ⟨"LNE.GL_QW", 0x00100148, [(0x1000, 105)], [LNE_GL_QW_QW]⟩,
  ⟨"LNE.GL_QW_AGE", 0x0010014C, [(0x1000, 105)], [LNE_GL_QW_AGE_AGE_MS]⟩,
  ⟨"LNE.SDI_CRC_LINES", 0x00100120, [(0x1000, 105)], [LNE_SDI_CRC_LINES_COUNT]⟩,
  ⟨"LNE.SDI_LN_ERR", 0x00100124, [(0x1000, 105)], [LNE_SDI_LN_ERR_COUNT]⟩,
  ⟨"LNE.SDI_TRS_ERR", 0x00100128, [(0x1000, 105)], [LNE_SDI_TRS_ERR_COUNT]⟩,
  ⟨"LNE.SDI_EDH_AP", 0x0010012C, [(0x1000, 105)], [LNE_SDI_EDH_AP_COUNT]⟩,
  ⟨"LNE.SDI_EDH_FF", 0x00100130, [(0x1000, 105)], [LNE_SDI_EDH_FF_COUNT]⟩,
  ⟨"LNE.SDI_DS_DROP", 0x00100134, [(0x1000, 105)], [LNE_SDI_DS_DROP_COUNT]⟩,
  ⟨"LNE.GL_CODE_ERR", 0x00100160, [(0x1000, 105)], [LNE_GL_CODE_ERR_COUNT]⟩,
  ⟨"LNE.GL_DISP_ERR", 0x00100164, [(0x1000, 105)], [LNE_GL_DISP_ERR_COUNT]⟩,
  ⟨"LNE.GL_CRC_ERR", 0x00100168, [(0x1000, 105)], [LNE_GL_CRC_ERR_COUNT]⟩,
  ⟨"LNE.GL_SEQ_GAP", 0x0010016C, [(0x1000, 105)], [LNE_GL_SEQ_GAP_COUNT]⟩,
  ⟨"LNE.GL_ABORT", 0x00100170, [(0x1000, 105)], [LNE_GL_ABORT_COUNT]⟩]

/-- Part 1 of the register map. -/
def regMap1 : List RegSpec := [
  ⟨"LNE.GL_SKIP_DEL", 0x00100174, [(0x1000, 105)], [LNE_GL_SKIP_DEL_COUNT]⟩,
  ⟨"LNE.GL_SKIP_INS", 0x00100178, [(0x1000, 105)], [LNE_GL_SKIP_INS_COUNT]⟩,
  ⟨"LNE.GL_STREAM_DROP", 0x0010017C, [(0x1000, 105)], [LNE_GL_STREAM_DROP_COUNT]⟩,
  ⟨"LNE.FR_EVT", 0x00100180, [(0x1000, 105)], [LNE_FR_EVT_FLAGS]⟩,
  ⟨"LNE.FR_OCC_A", 0x00100184, [(0x1000, 105)], [LNE_FR_OCC_A_LO, LNE_FR_OCC_A_HI]⟩,
  ⟨"LNE.FR_OCC_B", 0x00100188, [(0x1000, 105)], [LNE_FR_OCC_B_LO, LNE_FR_OCC_B_HI]⟩,
  ⟨"LNE.FR_OCC_C", 0x0010018C, [(0x1000, 105)], [LNE_FR_OCC_C_LO, LNE_FR_OCC_C_HI]⟩,
  ⟨"LNE.FR_OCC_D", 0x00100190, [(0x1000, 105)], [LNE_FR_OCC_D_LO, LNE_FR_OCC_D_HI]⟩,
  ⟨"LNE.FR_OCC_E", 0x00100194, [(0x1000, 105)], [LNE_FR_OCC_E_LO, LNE_FR_OCC_E_HI]⟩,
  ⟨"LNE.CNT_CLR", 0x001001FC, [(0x1000, 105)], [LNE_CNT_CLR_GL, LNE_CNT_CLR_SDI]⟩,
  ⟨"INP.LC", 0x00200000, [(0x1000, 96)], [INP_LC_STOP, INP_LC_START]⟩,
  ⟨"INP.CFG", 0x00200004, [(0x1000, 96)], [INP_CFG_REF_TLN, INP_CFG_MAX_CLASS, INP_CFG_MAX_STRUCT, INP_CFG_DEPTH, INP_CFG_DELAY, INP_CFG_LOCK_FRAMES, INP_CFG_EXP_FMT]⟩,
  ⟨"INP.DEFS", 0x00200008, [(0x1000, 96)], [INP_DEFS_PSF, INP_DEFS_STRUCT, INP_DEFS_TRANSFER, INP_DEFS_COLOR]⟩,
  ⟨"INP.LOSS", 0x0020000C, [(0x1000, 96)], [INP_LOSS_POLICY, INP_LOSS_FALLBACK, INP_LOSS_FREEZE_HOLD, INP_LOSS_FREEZE_MS]⟩,
  ⟨"INP.SYNC", 0x00200010, [(0x1000, 96)], [INP_SYNC_HOLD, INP_SYNC_GUARD_US]⟩,
  ⟨"INP.TCCFG", 0x00200014, [(0x1000, 96)], [INP_TCCFG_TC_SRC]⟩,
  ⟨"INP.STAT", 0x00200020, [(0x1000, 96)], [INP_STAT_LC_STATE, INP_STAT_IN_STATE, INP_STAT_LOSS_PHASE, INP_STAT_MEMBER, INP_STAT_PHASE_VALID]⟩,
  ⟨"INP.FMT_DET", 0x00200024, [(0x1000, 96)], [INP_FMT_DET_FMT, INP_FMT_DET_STRUCT, INP_FMT_DET_TRANSFER, INP_FMT_DET_COLOR, INP_FMT_DET_FROM_VPID, INP_FMT_DET_CONFLICT]⟩,
  ⟨"INP.PHASE", 0x00200028, [(0x1000, 96)], [INP_PHASE_OFFSET]⟩,
  ⟨"INP.IFC", 0x0020002C, [(0x1000, 96)], [INP_IFC_COUNT]⟩,
  ⟨"INP.STORE", 0x00200030, [(0x1000, 96)], [INP_STORE_KIB]⟩,
  ⟨"INP.TC", 0x00200040, [(0x1000, 96)], [INP_TC_VALID, INP_TC_DF, INP_TC_HOURS, INP_TC_CF, INP_TC_MINUTES, INP_TC_PAIR, INP_TC_SECONDS, INP_TC_FRAMES]⟩,
  ⟨"INP.TC_UB", 0x00200044, [(0x1000, 96)], [INP_TC_UB_UB]⟩,
  ⟨"INP.EVT", 0x00200050, [(0x1000, 96)], [INP_EVT_FLAGS]⟩,
  ⟨"INP.OCC_A", 0x00200054, [(0x1000, 96)], [INP_OCC_A_LO, INP_OCC_A_HI]⟩,
  ⟨"INP.OCC_B", 0x00200058, [(0x1000, 96)], [INP_OCC_B_LO, INP_OCC_B_HI]⟩,
  ⟨"INP.OCC_C", 0x0020005C, [(0x1000, 96)], [INP_OCC_C_LO, INP_OCC_C_HI]⟩,
  ⟨"INP.OCC_D", 0x00200060, [(0x1000, 96)], [INP_OCC_D_LO, INP_OCC_D_HI]⟩,
  ⟨"INP.OCC_E", 0x00200064, [(0x1000, 96)], [INP_OCC_E_LO, INP_OCC_E_HI]⟩,
  ⟨"INP.OCC_F", 0x00200068, [(0x1000, 96)], [INP_OCC_F_LO, INP_OCC_F_HI]⟩,
  ⟨"INP.SYNC_STAT", 0x00200100, [(0x1000, 96), (0x10, 16)], [INP_SYNC_STAT_ACTIVE]⟩,
  ⟨"INP.SYNC_PICK", 0x00200104, [(0x1000, 96), (0x10, 16)], [INP_SYNC_PICK_IFC]⟩,
  ⟨"INP.SYNC_SLIPS", 0x00200108, [(0x1000, 96), (0x10, 16)], [INP_SYNC_SLIPS_REPEATS, INP_SYNC_SLIPS_DROPS]⟩,
  ⟨"INP.SYNC_STG", 0x0020010C, [(0x1000, 96), (0x10, 16)], [INP_SYNC_STG_FREEZE_LIVE, INP_SYNC_STG_FREEZE]⟩,
  ⟨"INP.ANCF_MATCH", 0x00200200, [(0x1000, 96), (0x10, 16)], [INP_ANCF_MATCH_ENABLE, INP_ANCF_MATCH_SDID_ANY, INP_ANCF_MATCH_STREAM, INP_ANCF_MATCH_LINE_ALL, INP_ANCF_MATCH_CAP_BAD, INP_ANCF_MATCH_DID, INP_ANCF_MATCH_SDID]⟩,
  ⟨"INP.ANCF_LINES", 0x00200204, [(0x1000, 96), (0x10, 16)], [INP_ANCF_LINES_LINE_FIRST, INP_ANCF_LINES_LINE_LAST]⟩,
  ⟨"INP.ANCF_RING", 0x00200208, [(0x1000, 96), (0x10, 16)], [INP_ANCF_RING_RING]⟩,
  ⟨"INP.CNT_ANC_CAPT", 0x00200300, [(0x1000, 96)], [INP_CNT_ANC_CAPT_COUNT]⟩,
  ⟨"INP.CNT_ANC_CSUM", 0x00200304, [(0x1000, 96)], [INP_CNT_ANC_CSUM_COUNT]⟩,
  ⟨"INP.CNT_ANC_HDR", 0x00200308, [(0x1000, 96)], [INP_CNT_ANC_HDR_COUNT]⟩,
  ⟨"INP.CNT_ANC_OVF", 0x0020030C, [(0x1000, 96)], [INP_CNT_ANC_OVF_COUNT]⟩,
  ⟨"INP.CNT_WR_SKIP", 0x00200310, [(0x1000, 96)], [INP_CNT_WR_SKIP_COUNT]⟩,
  ⟨"PLZ.ISO_BUDGET", 0x00300000, [], [PLZ_ISO_BUDGET_MBPS]⟩,
  ⟨"PLZ.ISO_CHARGED", 0x00300004, [], [PLZ_ISO_CHARGED_MBPS]⟩,
  ⟨"PLZ.ISO_PEAK", 0x00300008, [], [PLZ_ISO_PEAK_MBPS]⟩,
  ⟨"PLZ.ISO_REFUSED", 0x0030000C, [], [PLZ_ISO_REFUSED_COUNT]⟩,
  ⟨"PLZ.GANG_CFG", 0x00300010, [], [PLZ_GANG_CFG_GANG]⟩,
  ⟨"PLZ.SEL_STG", 0x00301000, [(0x40, 352)], [PLZ_SEL_STG_KIND, PLZ_SEL_STG_NUM]⟩,
  ⟨"PLZ.SEL_STG_H", 0x00301004, [(0x40, 352)], [PLZ_SEL_STG_H_HANDLE]⟩,
  ⟨"PLZ.SEL_LIVE", 0x00301008, [(0x40, 352)], [PLZ_SEL_LIVE_SEL]⟩]

/-- Part 2 of the register map. -/
def regMap2 : List RegSpec := [
  ⟨"PLZ.SEL_LIVE_H", 0x0030100C, [(0x40, 352)], [PLZ_SEL_LIVE_H_HANDLE]⟩,
  ⟨"PLZ.DST_CFG", 0x00301010, [(0x40, 352)], [PLZ_DST_CFG_AUTO_RETURN]⟩,
  ⟨"PLZ.DST_STAT", 0x00301014, [(0x40, 352)], [PLZ_DST_STAT_PATH, PLZ_DST_STAT_ELIGIBLE, PLZ_DST_STAT_QUAL, PLZ_DST_STAT_CAUSE]⟩,
  ⟨"PLZ.DST_LEAD", 0x00301018, [(0x40, 352)], [PLZ_DST_LEAD_NS]⟩,
  ⟨"PLZ.DST_CHARGE", 0x0030101C, [(0x40, 352)], [PLZ_DST_CHARGE_MBPS]⟩,
  ⟨"PLZ.CLONE_A", 0x00301020, [(0x40, 352)], [PLZ_CLONE_A_MEMBERS]⟩,
  ⟨"PLZ.CLONE_B", 0x00301024, [(0x40, 352)], [PLZ_CLONE_B_MEMBERS]⟩,
  ⟨"PLZ.DST_EVT", 0x00301028, [(0x40, 352)], [PLZ_DST_EVT_FLAGS]⟩,
  ⟨"PLZ.DST_OCC_A", 0x0030102C, [(0x40, 352)], [PLZ_DST_OCC_A_LO, PLZ_DST_OCC_A_HI]⟩,
  ⟨"PLZ.DST_OCC_B", 0x00301030, [(0x40, 352)], [PLZ_DST_OCC_B_LO, PLZ_DST_OCC_B_HI]⟩,
  ⟨"CVA.ENG_STAT", 0x00400000, [(0x4000, 32)], [CVA_ENG_STAT_FAILED, CVA_ENG_STAT_GANGED, CVA_ENG_STAT_HEAD, CVA_ENG_STAT_JOBS, CVA_ENG_STAT_CREDITS]⟩,
  ⟨"CVA.ENG_LS", 0x00400004, [(0x4000, 32)], [CVA_ENG_LS_KIB]⟩,
  ⟨"CVA.ENG_EVT", 0x00400008, [(0x4000, 32)], [CVA_ENG_EVT_FLAGS]⟩,
  ⟨"CVA.ENG_OCC", 0x0040000C, [(0x4000, 32)], [CVA_ENG_OCC_LO, CVA_ENG_OCC_HI]⟩,
  ⟨"CVA.POOL_FREE", 0x00400010, [], [CVA_POOL_FREE_CREDITS]⟩,
  ⟨"CVA.JOB_HANDLE", 0x00402000, [(0x4000, 32), (0x200, 8)], [CVA_JOB_HANDLE_HANDLE]⟩,
  ⟨"CVA.JOB_LC", 0x00402004, [(0x4000, 32), (0x200, 8)], [CVA_JOB_LC_STOP, CVA_JOB_LC_START]⟩,
  ⟨"CVA.JOB_STAT", 0x00402008, [(0x4000, 32), (0x200, 8)], [CVA_JOB_STAT_LC_STATE, CVA_JOB_STAT_PRIMING, CVA_JOB_STAT_MODE_USED, CVA_JOB_STAT_CADENCE, CVA_JOB_STAT_FALLBACK, CVA_JOB_STAT_BANK_LIVE, CVA_JOB_STAT_FORCE_LIVE, CVA_JOB_STAT_ENGINES]⟩,
  ⟨"CVA.JOB_CREDITS", 0x0040200C, [(0x4000, 32), (0x200, 8)], [CVA_JOB_CREDITS_C]⟩,
  ⟨"CVA.JOB_STG", 0x00402010, [(0x4000, 32), (0x200, 8)], [CVA_JOB_STG_BANK, CVA_JOB_STG_FORCE]⟩,
  ⟨"CVA.JOB_CFG", 0x00402014, [(0x4000, 32), (0x200, 8)], [CVA_JOB_CFG_FB_HOLD, CVA_JOB_CFG_CUT_TH, CVA_JOB_CFG_FRAME_TH, CVA_JOB_CFG_BLK_TH]⟩,
  ⟨"CVA.JOB_CFG2", 0x00402018, [(0x4000, 32), (0x200, 8)], [CVA_JOB_CFG2_MOT_HI, CVA_JOB_CFG2_MOT_LO, CVA_JOB_CFG2_REP_TH, CVA_JOB_CFG2_FB_MODE]⟩,
  ⟨"CVA.JOB_PICK", 0x0040201C, [(0x4000, 32), (0x200, 8)], [CVA_JOB_PICK_IFC]⟩,
  ⟨"CVA.JOB_PHASE", 0x00402020, [(0x4000, 32), (0x200, 8)], [CVA_JOB_PHASE_FLOW, CVA_JOB_PHASE_PHI]⟩,
  ⟨"CVA.JOB_OFSN", 0x00402024, [(0x4000, 32), (0x200, 8)], [CVA_JOB_OFSN_FSN]⟩,
  ⟨"CVA.JOB_EVT", 0x00402030, [(0x4000, 32), (0x200, 8)], [CVA_JOB_EVT_FLAGS]⟩,
  ⟨"CVA.JOB_OCC_A", 0x00402034, [(0x4000, 32), (0x200, 8)], [CVA_JOB_OCC_A_LO, CVA_JOB_OCC_A_HI]⟩,
  ⟨"CVA.JOB_OCC_B", 0x00402038, [(0x4000, 32), (0x200, 8)], [CVA_JOB_OCC_B_LO, CVA_JOB_OCC_B_HI]⟩,
  ⟨"CVA.JOB_OCC_C", 0x0040203C, [(0x4000, 32), (0x200, 8)], [CVA_JOB_OCC_C_LO, CVA_JOB_OCC_C_HI]⟩,
  ⟨"CVA.JOB_OCC_D", 0x00402040, [(0x4000, 32), (0x200, 8)], [CVA_JOB_OCC_D_LO, CVA_JOB_OCC_D_HI]⟩,
  ⟨"CVA.JOB_OCC_E", 0x00402044, [(0x4000, 32), (0x200, 8)], [CVA_JOB_OCC_E_LO, CVA_JOB_OCC_E_HI]⟩,
  ⟨"CVA.CNT_FALLBACK", 0x00402050, [(0x4000, 32), (0x200, 8)], [CVA_CNT_FALLBACK_COUNT]⟩,
  ⟨"CVA.CNT_LATE_IN", 0x00402054, [(0x4000, 32), (0x200, 8)], [CVA_CNT_LATE_IN_COUNT]⟩,
  ⟨"OUT.LYR_SURF", 0x00501000, [(0x4000, 96), (0x100, 8)], [OUT_LYR_SURF_HANDLE]⟩,
  ⟨"OUT.LYR_SURF_LIVE", 0x00501080, [(0x4000, 96), (0x100, 8)], [OUT_LYR_SURF_LIVE_HANDLE]⟩,
  ⟨"OUT.LYR_CTL", 0x00501004, [(0x4000, 96), (0x100, 8)], [OUT_LYR_CTL_ALPHA, OUT_LYR_CTL_MSEL, OUT_LYR_CTL_GA]⟩,
  ⟨"OUT.LYR_CTL_LIVE", 0x00501084, [(0x4000, 96), (0x100, 8)], [OUT_LYR_CTL_LIVE_ALPHA, OUT_LYR_CTL_LIVE_MSEL, OUT_LYR_CTL_LIVE_GA]⟩,
  ⟨"OUT.LYR_FILL", 0x00501008, [(0x4000, 96), (0x100, 8)], [OUT_LYR_FILL_YCBCR]⟩,
  ⟨"OUT.LYR_FILL_LIVE", 0x00501088, [(0x4000, 96), (0x100, 8)], [OUT_LYR_FILL_LIVE_YCBCR]⟩,
  ⟨"OUT.LYR_SRC_XY", 0x0050100C, [(0x4000, 96), (0x100, 8)], [OUT_LYR_SRC_XY_XY]⟩,
  ⟨"OUT.LYR_SRC_XY_LIVE", 0x0050108C, [(0x4000, 96), (0x100, 8)], [OUT_LYR_SRC_XY_LIVE_XY]⟩,
  ⟨"OUT.LYR_SRC_WH", 0x00501010, [(0x4000, 96), (0x100, 8)], [OUT_LYR_SRC_WH_WH]⟩,
  ⟨"OUT.LYR_SRC_WH_LIVE", 0x00501090, [(0x4000, 96), (0x100, 8)], [OUT_LYR_SRC_WH_LIVE_WH]⟩,
  ⟨"OUT.LYR_DST_XY", 0x00501014, [(0x4000, 96), (0x100, 8)], [OUT_LYR_DST_XY_XY]⟩,
  ⟨"OUT.LYR_DST_XY_LIVE", 0x00501094, [(0x4000, 96), (0x100, 8)], [OUT_LYR_DST_XY_LIVE_XY]⟩,
  ⟨"OUT.LYR_DST_WH", 0x00501018, [(0x4000, 96), (0x100, 8)], [OUT_LYR_DST_WH_WH]⟩,
  ⟨"OUT.LYR_DST_WH_LIVE", 0x00501098, [(0x4000, 96), (0x100, 8)], [OUT_LYR_DST_WH_LIVE_WH]⟩,
  ⟨"OUT.LYR_MAT", 0x00501020, [(0x4000, 96), (0x100, 8), (0x4, 12)], [OUT_LYR_MAT_WORD]⟩,
  ⟨"OUT.LYR_MAT_LIVE", 0x005010A0, [(0x4000, 96), (0x100, 8), (0x4, 12)], [OUT_LYR_MAT_LIVE_WORD]⟩,
  ⟨"OUT.LYR_STAT", 0x005010F0, [(0x4000, 96), (0x100, 8)], [OUT_LYR_STAT_FETCH, OUT_LYR_STAT_JXS, OUT_LYR_STAT_COMMITTED]⟩]

/-- Part 3 of the register map. -/
def regMap3 : List RegSpec := [
  ⟨"OUT.STN_OWNER", 0x005017D0, [(0x4000, 96)], [OUT_STN_OWNER_SESSION]⟩,
  ⟨"OUT.STN_CFG", 0x005017D4, [(0x4000, 96)], [OUT_STN_CFG_SLATE_MSEL, OUT_STN_CFG_STALE_LIMIT]⟩,
  ⟨"OUT.STN_SLATE", 0x005017D8, [(0x4000, 96)], [OUT_STN_SLATE_HANDLE]⟩,
  ⟨"OUT.STN_STAT", 0x005017DC, [(0x4000, 96)], [OUT_STN_STAT_SLATE, OUT_STN_STAT_STALE_CNT]⟩,
  ⟨"OUT.STN_LAST", 0x005017E0, [(0x4000, 96)], [OUT_STN_LAST_FSN]⟩,
  ⟨"OUT.CMP_CFG", 0x00501800, [(0x4000, 96)], [OUT_CMP_CFG_TRANSFER, OUT_CMP_CFG_COLOR]⟩,
  ⟨"OUT.UC_PAT", 0x00501804, [(0x4000, 96)], [OUT_UC_PAT_PAT]⟩,
  ⟨"OUT.UC_COLOR", 0x00501808, [(0x4000, 96)], [OUT_UC_COLOR_YCBCR]⟩,
  ⟨"OUT.UC_PAT_LIVE", 0x0050180C, [(0x4000, 96)], [OUT_UC_PAT_LIVE_PAT]⟩,
  ⟨"OUT.UC_COLOR_LIVE", 0x00501810, [(0x4000, 96)], [OUT_UC_COLOR_LIVE_YCBCR]⟩,
  ⟨"OUT.OM_CTL", 0x00501820, [(0x4000, 96)], [OUT_OM_CTL_OM_SEL]⟩,
  ⟨"OUT.OM_CTL_LIVE", 0x00501860, [(0x4000, 96)], [OUT_OM_CTL_LIVE_OM_SEL]⟩,
  ⟨"OUT.OM_MAT", 0x00501824, [(0x4000, 96), (0x4, 12)], [OUT_OM_MAT_WORD]⟩,
  ⟨"OUT.OM_MAT_LIVE", 0x00501864, [(0x4000, 96), (0x4, 12)], [OUT_OM_MAT_LIVE_WORD]⟩,
  ⟨"OUT.WB_CFG", 0x005018A0, [(0x4000, 96)], [OUT_WB_CFG_ENABLE]⟩,
  ⟨"OUT.WB_SURF", 0x005018A4, [(0x4000, 96)], [OUT_WB_SURF_HANDLE]⟩,
  ⟨"OUT.LYR_EVT", 0x005018C0, [(0x4000, 96)], [OUT_LYR_EVT_FLAGS]⟩,
  ⟨"OUT.LYR_OCC_A", 0x005018C4, [(0x4000, 96)], [OUT_LYR_OCC_A_LO, OUT_LYR_OCC_A_HI]⟩,
  ⟨"OUT.LYR_OCC_B", 0x005018C8, [(0x4000, 96)], [OUT_LYR_OCC_B_LO, OUT_LYR_OCC_B_HI]⟩,
  ⟨"OUT.LYR_OCC_C", 0x005018CC, [(0x4000, 96)], [OUT_LYR_OCC_C_LO, OUT_LYR_OCC_C_HI]⟩,
  ⟨"OUT.POOL_FREE", 0x005018F0, [], [OUT_POOL_FREE_JXS, OUT_POOL_FREE_FETCH]⟩,
  ⟨"OUT.LC", 0x00500000, [(0x4000, 96)], [OUT_LC_STOP, OUT_LC_START]⟩,
  ⟨"OUT.TMG_FMT", 0x00500004, [(0x4000, 96)], [OUT_TMG_FMT_TLN, OUT_TMG_FMT_STRUCT, OUT_TMG_FMT_FMT]⟩,
  ⟨"OUT.TMG_OFS", 0x00500008, [(0x4000, 96)], [OUT_TMG_OFS_NS]⟩,
  ⟨"OUT.TMG_CTL", 0x0050000C, [(0x4000, 96)], [OUT_TMG_CTL_RUN, OUT_TMG_CTL_LMATCH_EN, OUT_TMG_CTL_LMATCH]⟩,
  ⟨"OUT.STAT", 0x00500010, [(0x4000, 96)], [OUT_STAT_LC_STATE, OUT_STAT_ABORTED, OUT_STAT_LINE]⟩,
  ⟨"OUT.FSN", 0x00500014, [(0x4000, 96)], [OUT_FSN_FSN]⟩,
  ⟨"OUT.UR_LAST", 0x00500018, [(0x4000, 96)], [OUT_UR_LAST_SLATE, OUT_UR_LAST_MASK, OUT_UR_LAST_LINE]⟩,
  ⟨"OUT.UR_FSN", 0x0050001C, [(0x4000, 96)], [OUT_UR_FSN_FSN]⟩,
  ⟨"OUT.ANC_CFG", 0x00500020, [(0x4000, 96)], [OUT_ANC_CFG_TC_INS, OUT_ANC_CFG_TC_LINE]⟩,
  ⟨"OUT.ANC_RING", 0x00500024, [(0x4000, 96)], [OUT_ANC_RING_RING]⟩,
  ⟨"OUT.EVT", 0x00500030, [(0x4000, 96)], [OUT_EVT_FLAGS]⟩,
  ⟨"OUT.OCC_A", 0x00500034, [(0x4000, 96)], [OUT_OCC_A_LO, OUT_OCC_A_HI]⟩,
  ⟨"OUT.OCC_B", 0x00500038, [(0x4000, 96)], [OUT_OCC_B_LO, OUT_OCC_B_HI]⟩,
  ⟨"OUT.OCC_C", 0x0050003C, [(0x4000, 96)], [OUT_OCC_C_LO, OUT_OCC_C_HI]⟩,
  ⟨"OUT.OCC_D", 0x00500040, [(0x4000, 96)], [OUT_OCC_D_LO, OUT_OCC_D_HI]⟩,
  ⟨"OUT.CNT_UNDERRUN", 0x00500050, [(0x4000, 96)], [OUT_CNT_UNDERRUN_COUNT]⟩,
  ⟨"OUT.CNT_ANC_INS", 0x00500054, [(0x4000, 96)], [OUT_CNT_ANC_INS_COUNT]⟩,
  ⟨"OUT.CNT_ANC_DROP", 0x00500058, [(0x4000, 96)], [OUT_CNT_ANC_DROP_COUNT]⟩,
  ⟨"OUT.SKIM_XY", 0x00502000, [(0x4000, 96), (0x40, 8)], [OUT_SKIM_XY_XY]⟩,
  ⟨"OUT.SKIM_XY_LIVE", 0x00502010, [(0x4000, 96), (0x40, 8)], [OUT_SKIM_XY_LIVE_XY]⟩,
  ⟨"OUT.SKIM_WH", 0x00502004, [(0x4000, 96), (0x40, 8)], [OUT_SKIM_WH_WH]⟩,
  ⟨"OUT.SKIM_WH_LIVE", 0x00502014, [(0x4000, 96), (0x40, 8)], [OUT_SKIM_WH_LIVE_WH]⟩,
  ⟨"OUT.SKIM_EXP", 0x00502008, [(0x4000, 96), (0x40, 8)], [OUT_SKIM_EXP_CRC]⟩,
  ⟨"OUT.SKIM_EXP_LIVE", 0x00502018, [(0x4000, 96), (0x40, 8)], [OUT_SKIM_EXP_LIVE_CRC]⟩,
  ⟨"OUT.SKIM_RCTL", 0x0050200C, [(0x4000, 96), (0x40, 8)], [OUT_SKIM_RCTL_MODE]⟩,
  ⟨"OUT.SKIM_RCTL_LIVE", 0x0050201C, [(0x4000, 96), (0x40, 8)], [OUT_SKIM_RCTL_LIVE_MODE]⟩,
  ⟨"OUT.SKIM_CRC", 0x00502020, [(0x4000, 96), (0x40, 8)], [OUT_SKIM_CRC_CRC]⟩,
  ⟨"OUT.SKIM_CRC_FSN", 0x00502024, [(0x4000, 96), (0x40, 8)], [OUT_SKIM_CRC_FSN_FSN]⟩,
  ⟨"OUT.SKIM_FAILS", 0x00502028, [(0x4000, 96), (0x40, 8)], [OUT_SKIM_FAILS_COUNT]⟩]

/-- Part 4 of the register map. -/
def regMap4 : List RegSpec := [
  ⟨"OUT.SKIM_STATE", 0x0050202C, [(0x4000, 96), (0x40, 8)], [OUT_SKIM_STATE_FAILING]⟩,
  ⟨"OUT.SKIM_SET", 0x00502200, [(0x4000, 96)], [OUT_SKIM_SET_HANDLE]⟩,
  ⟨"AUD.GRID_LO", 0x00700000, [], [AUD_GRID_LO_G]⟩,
  ⟨"AUD.GRID_HI", 0x00700004, [], [AUD_GRID_HI_G]⟩,
  ⟨"AUD.INFO", 0x00700008, [], [AUD_INFO_ROUTES]⟩,
  ⟨"AUD.UNIT_EVT", 0x0070000C, [], [AUD_UNIT_EVT_FLAGS]⟩,
  ⟨"AUD.UNIT_OCC", 0x00700010, [], [AUD_UNIT_OCC_LO, AUD_UNIT_OCC_HI]⟩,
  ⟨"AUD.GRID_OFS_LO", 0x00700014, [], [AUD_GRID_OFS_LO_GO]⟩,
  ⟨"AUD.GRID_OFS_HI", 0x00700018, [], [AUD_GRID_OFS_HI_GO]⟩,
  ⟨"AUD.IN_CFG", 0x00701000, [(0x80, 96)], [AUD_IN_CFG_GRP_EN, AUD_IN_CFG_LS_MODE, AUD_IN_CFG_LS_TLN, AUD_IN_CFG_LS_SLEW_PPM]⟩,
  ⟨"AUD.IN_FIXED", 0x00701004, [(0x80, 96)], [AUD_IN_FIXED_LS_FIXED_US]⟩,
  ⟨"AUD.IN_DA", 0x00701008, [(0x80, 96)], [AUD_IN_DA_NS]⟩,
  ⟨"AUD.IN_DV", 0x0070100C, [(0x80, 96)], [AUD_IN_DV_NS]⟩,
  ⟨"AUD.GRP_STAT", 0x00701010, [(0x80, 96), (0x4, 8)], [AUD_GRP_STAT_STATE, AUD_GRP_STAT_NPCM, AUD_GRP_STAT_RATE_OFS]⟩,
  ⟨"AUD.GRP_RATIO", 0x00701030, [(0x80, 96), (0x4, 8)], [AUD_GRP_RATIO_RATIO]⟩,
  ⟨"AUD.IN_EVT", 0x00701050, [(0x80, 96)], [AUD_IN_EVT_FLAGS]⟩,
  ⟨"AUD.IN_OCC_A", 0x00701054, [(0x80, 96)], [AUD_IN_OCC_A_LO, AUD_IN_OCC_A_HI]⟩,
  ⟨"AUD.IN_OCC_B", 0x00701058, [(0x80, 96)], [AUD_IN_OCC_B_LO, AUD_IN_OCC_B_HI]⟩,
  ⟨"AUD.IN_OCC_C", 0x0070105C, [(0x80, 96)], [AUD_IN_OCC_C_LO, AUD_IN_OCC_C_HI]⟩,
  ⟨"AUD.IN_HIST", 0x00701060, [(0x80, 96)], [AUD_IN_HIST_KIB]⟩,
  ⟨"AUD.OUT_CFG", 0x00704000, [(0x40, 96)], [AUD_OUT_CFG_GRP_EN, AUD_OUT_CFG_SD_EXT, AUD_OUT_CFG_ACP_EN]⟩,
  ⟨"AUD.OUT_STAT", 0x00704004, [(0x40, 96)], [AUD_OUT_STAT_CAPACITY, AUD_OUT_STAT_SEQ_POS, AUD_OUT_STAT_COUNT]⟩,
  ⟨"AUD.INS_RING", 0x00706000, [(0x20, 64)], [AUD_INS_RING_RING]⟩,
  ⟨"AUD.INS_STAT", 0x00706004, [(0x20, 64)], [AUD_INS_STAT_STATE]⟩,
  ⟨"AUD.INS_UNDER", 0x00706008, [(0x20, 64)], [AUD_INS_UNDER_COUNT]⟩,
  ⟨"AUD.INS_EVT", 0x0070600C, [(0x20, 64)], [AUD_INS_EVT_FLAGS]⟩,
  ⟨"AUD.INS_OCC", 0x00706010, [(0x20, 64)], [AUD_INS_OCC_LO, AUD_INS_OCC_HI]⟩,
  ⟨"AUD.TAP_RING", 0x00706800, [(0x20, 64)], [AUD_TAP_RING_RING]⟩,
  ⟨"AUD.TAP_CFG", 0x00706804, [(0x20, 64)], [AUD_TAP_CFG_TLN]⟩,
  ⟨"AUD.TAP_G0_LO", 0x00706808, [(0x20, 64)], [AUD_TAP_G0_LO_G]⟩,
  ⟨"AUD.TAP_G0_HI", 0x0070680C, [(0x20, 64)], [AUD_TAP_G0_HI_G]⟩,
  ⟨"AUD.RT_MAP", 0x00710000, [(0x40, 4096)], [AUD_RT_MAP_DST, AUD_RT_MAP_SRC]⟩,
  ⟨"AUD.RT_MAP_LIVE", 0x00710010, [(0x40, 4096)], [AUD_RT_MAP_LIVE_DST, AUD_RT_MAP_LIVE_SRC]⟩,
  ⟨"AUD.RT_GAIN", 0x00710004, [(0x40, 4096)], [AUD_RT_GAIN_MUTE, AUD_RT_GAIN_GAIN]⟩,
  ⟨"AUD.RT_GAIN_LIVE", 0x00710014, [(0x40, 4096)], [AUD_RT_GAIN_LIVE_MUTE, AUD_RT_GAIN_LIVE_GAIN]⟩,
  ⟨"AUD.RT_DELAY", 0x00710008, [(0x40, 4096)], [AUD_RT_DELAY_DELAY]⟩,
  ⟨"AUD.RT_DELAY_LIVE", 0x00710018, [(0x40, 4096)], [AUD_RT_DELAY_LIVE_DELAY]⟩,
  ⟨"AUD.RT_STAT", 0x00710030, [(0x40, 4096)], [AUD_RT_STAT_NPCM, AUD_RT_STAT_FADING, AUD_RT_STAT_FADE]⟩,
  ⟨"AUD.RT_EVT", 0x00710034, [(0x40, 4096)], [AUD_RT_EVT_FLAGS]⟩,
  ⟨"AUD.RT_OCC_A", 0x00710038, [(0x40, 4096)], [AUD_RT_OCC_A_LO, AUD_RT_OCC_A_HI]⟩,
  ⟨"AUD.RT_OCC_B", 0x0071003C, [(0x40, 4096)], [AUD_RT_OCC_B_LO, AUD_RT_OCC_B_HI]⟩,
  ⟨"CUE.STAT", 0x00800000, [(0x100, 160)], [CUE_STAT_STATE, CUE_STAT_CPEND, CUE_STAT_TLN, CUE_STAT_STAGED, CUE_STAT_PC]⟩,
  ⟨"CUE.PROG", 0x00800004, [(0x100, 160)], [CUE_PROG_HANDLE]⟩,
  ⟨"CUE.SESS", 0x00800008, [(0x100, 160)], [CUE_SESS_HANDLE]⟩,
  ⟨"CUE.FAULT", 0x0080000C, [(0x100, 160)], [CUE_FAULT_STATUS, CUE_FAULT_PC]⟩,
  ⟨"CUE.FAULT_ENT", 0x00800010, [(0x100, 160)], [CUE_FAULT_ENT_ENTRY]⟩,
  ⟨"CUE.S", 0x00800014, [(0x100, 160)], [CUE_S_S]⟩,
  ⟨"CUE.LAST_TGT", 0x00800018, [(0x100, 160)], [CUE_LAST_TGT_FSN]⟩,
  ⟨"CUE.CNT_COMMIT", 0x0080001C, [(0x100, 160)], [CUE_CNT_COMMIT_COUNT]⟩,
  ⟨"CUE.CNT_LATE", 0x00800020, [(0x100, 160)], [CUE_CNT_LATE_COUNT]⟩]

/-- Part 5 of the register map. -/
def regMap5 : List RegSpec := [
  ⟨"CUE.EVT", 0x00800024, [(0x100, 160)], [CUE_EVT_FLAGS]⟩,
  ⟨"CUE.OCC_A", 0x00800028, [(0x100, 160)], [CUE_OCC_A_LO, CUE_OCC_A_HI]⟩,
  ⟨"CUE.OCC_B", 0x0080002C, [(0x100, 160)], [CUE_OCC_B_LO, CUE_OCC_B_HI]⟩,
  ⟨"CUE.G", 0x00800040, [(0x100, 160), (0x4, 16)], [CUE_G_VALUE]⟩,
  ⟨"CUE.PARAM", 0x00800080, [(0x100, 160), (0x4, 32)], [CUE_PARAM_VALUE]⟩,
  ⟨"REF.CFG", 0x00050000, [], [REF_CFG_QL_EN, REF_CFG_FORCE_EN, REF_CFG_FORCE_CAND, REF_CFG_DPLL_MODE, REF_CFG_FR_START, REF_CFG_ACQ_BW, REF_CFG_HO_QL]⟩,
  ⟨"REF.LIMITS", 0x00050004, [], [REF_LIMITS_HARD_PPB, REF_LIMITS_SOFT_PPB]⟩,
  ⟨"REF.LIMITS2", 0x00050008, [], [REF_LIMITS2_DIS_PPB, REF_LIMITS2_PULL_PPM]⟩,
  ⟨"REF.HO_CFG", 0x0005000C, [], [REF_HO_CFG_WINDOW_S, REF_HO_CFG_RECENT_S]⟩,
  ⟨"REF.STAT", 0x00050010, [], [REF_STAT_DPLL, REF_STAT_SEL_VALID, REF_STAT_SEL, REF_STAT_OUT_QL, REF_STAT_EPOCH_RUN, REF_STAT_HO_VALID, REF_STAT_CLAMP]⟩,
  ⟨"REF.DCO_LO", 0x00050014, [], [REF_DCO_LO_S]⟩,
  ⟨"REF.DCO_HI", 0x00050018, [], [REF_DCO_HI_S]⟩,
  ⟨"REF.MAN_LO", 0x0005001C, [], [REF_MAN_LO_S]⟩,
  ⟨"REF.MAN_HI", 0x00050020, [], [REF_MAN_HI_S]⟩,
  ⟨"REF.HO_LO", 0x00050024, [], [REF_HO_LO_S]⟩,
  ⟨"REF.HO_HI", 0x00050028, [], [REF_HO_HI_S]⟩,
  ⟨"REF.GOOD", 0x0005002C, [], [REF_GOOD_GOOD_S, REF_GOOD_MARK_AGE]⟩,
  ⟨"REF.PHASE_ERR", 0x00050030, [], [REF_PHASE_ERR_NS]⟩,
  ⟨"REF.EPOCH_NS", 0x00050034, [], [REF_EPOCH_NS_NS]⟩,
  ⟨"REF.EPOCH_S_LO", 0x00050038, [], [REF_EPOCH_S_LO_S]⟩,
  ⟨"REF.EPOCH_S_HI", 0x0005003C, [], [REF_EPOCH_S_HI_S]⟩,
  ⟨"REF.EVT", 0x00050040, [], [REF_EVT_FLAGS]⟩,
  ⟨"REF.OCC_A", 0x00050044, [], [REF_OCC_A_LO, REF_OCC_A_HI]⟩,
  ⟨"REF.OCC_B", 0x00050048, [], [REF_OCC_B_LO, REF_OCC_B_HI]⟩,
  ⟨"REF.CAND_CFG", 0x00050400, [(0x40, 12)], [REF_CAND_CFG_ENABLE, REF_CAND_CFG_PPS_REQ, REF_CAND_CFG_PRIO, REF_CAND_CFG_QL, REF_CAND_CFG_BW, REF_CAND_CFG_WTR_S, REF_CAND_CFG_SRC]⟩,
  ⟨"REF.CAND_OFS", 0x00050404, [(0x40, 12)], [REF_CAND_OFS_PHASE_OFS]⟩,
  ⟨"REF.CAND_STAT", 0x00050408, [(0x40, 12)], [REF_CAND_STAT_STATE, REF_CAND_STAT_SELECTED, REF_CAND_STAT_DISAGREE, REF_CAND_STAT_SUSPECT, REF_CAND_STAT_EFF_QL, REF_CAND_STAT_MSG_QL, REF_CAND_STAT_WTR_LEFT]⟩,
  ⟨"REF.CAND_FREQ", 0x0005040C, [(0x40, 12)], [REF_CAND_FREQ_PPT]⟩,
  ⟨"REF.CAND_PHASE", 0x00050410, [(0x40, 12)], [REF_CAND_PHASE_NS]⟩,
  ⟨"REF.CAND_EVT", 0x00050414, [(0x40, 12)], [REF_CAND_EVT_FLAGS]⟩,
  ⟨"REF.CAND_OCC_A", 0x00050418, [(0x40, 12)], [REF_CAND_OCC_A_LO, REF_CAND_OCC_A_HI]⟩,
  ⟨"REF.CAND_OCC_B", 0x0005041C, [(0x40, 12)], [REF_CAND_OCC_B_LO, REF_CAND_OCC_B_HI]⟩,
  ⟨"REF.TLN_CFG", 0x00051000, [(0x40, 16)], [REF_TLN_CFG_KERB, REF_TLN_CFG_FMT]⟩,
  ⟨"REF.TLN_PHASE", 0x00051004, [(0x40, 16)], [REF_TLN_PHASE_NS]⟩,
  ⟨"REF.TLN_SLEW", 0x00051008, [(0x40, 16)], [REF_TLN_SLEW_CUT, REF_TLN_SLEW_SLEW_PPM]⟩,
  ⟨"REF.TLN_STAT", 0x0005100C, [(0x40, 16)], [REF_TLN_STAT_STATE, REF_TLN_STAT_SLEWING, REF_TLN_STAT_CUT_PEND, REF_TLN_STAT_LINE]⟩,
  ⟨"REF.TLN_FSN", 0x00051010, [(0x40, 16)], [REF_TLN_FSN_FSN]⟩,
  ⟨"REF.TLN_ERR", 0x00051014, [(0x40, 16)], [REF_TLN_ERR_NS]⟩,
  ⟨"REF.TLN_EVT", 0x00051018, [(0x40, 16)], [REF_TLN_EVT_FLAGS]⟩,
  ⟨"REF.TLN_OCC_A", 0x0005101C, [(0x40, 16)], [REF_TLN_OCC_A_LO, REF_TLN_OCC_A_HI]⟩,
  ⟨"REF.TLN_OCC_B", 0x00051020, [(0x40, 16)], [REF_TLN_OCC_B_LO, REF_TLN_OCC_B_HI]⟩,
  ⟨"REF.PTP_CFG", 0x00050800, [], [REF_PTP_CFG_ENABLE, REF_PTP_CFG_UNICAST_DREQ, REF_PTP_CFG_VLAN_EN, REF_PTP_CFG_VLAN_ID, REF_PTP_CFG_DOMAIN, REF_PTP_CFG_ANN_TO]⟩,
  ⟨"REF.PTP_IP", 0x00050804, [], [REF_PTP_IP_ADDR]⟩,
  ⟨"REF.PTP_NET", 0x00050808, [], [REF_PTP_NET_PREFIX]⟩,
  ⟨"REF.PTP_GW", 0x0005080C, [], [REF_PTP_GW_ADDR]⟩,
  ⟨"REF.PTP_MAC_LO", 0x00050810, [], [REF_PTP_MAC_LO_MAC]⟩,
  ⟨"REF.PTP_MAC_HI", 0x00050814, [], [REF_PTP_MAC_HI_MAC]⟩,
  ⟨"REF.PTP_ASYM", 0x00050818, [], [REF_PTP_ASYM_NS]⟩,
  ⟨"REF.PTP_STAT", 0x00050820, [], [REF_PTP_STAT_PORT, REF_PTP_STAT_LINK, REF_PTP_STAT_GM_CLASS, REF_PTP_STAT_STEPS]⟩,
  ⟨"REF.PTP_GM_LO", 0x00050824, [], [REF_PTP_GM_LO_ID]⟩]

/-- Part 6 of the register map. -/
def regMap6 : List RegSpec := [
  ⟨"REF.PTP_GM_HI", 0x00050828, [], [REF_PTP_GM_HI_ID]⟩,
  ⟨"REF.PTP_OFS", 0x0005082C, [], [REF_PTP_OFS_NS]⟩,
  ⟨"REF.PTP_MPD", 0x00050830, [], [REF_PTP_MPD_NS]⟩,
  ⟨"REF.PTP_CNT_SYNC", 0x00050840, [], [REF_PTP_CNT_SYNC_COUNT]⟩,
  ⟨"REF.PTP_CNT_ANN", 0x00050844, [], [REF_PTP_CNT_ANN_COUNT]⟩,
  ⟨"REF.PTP_CNT_DRESP", 0x00050848, [], [REF_PTP_CNT_DRESP_COUNT]⟩,
  ⟨"REF.PTP_CNT_BAD", 0x0005084C, [], [REF_PTP_CNT_BAD_COUNT]⟩,
  ⟨"REF.PTP_SMTLV", 0x00050880, [(0x4, 16)], [REF_PTP_SMTLV_WORD]⟩,
  ⟨"FAB.STAT", 0x00020000, [], [FAB_STAT_SEG_FAIL]⟩,
  ⟨"FAB.QOS_FN_A", 0x00020004, [], [FAB_QOS_FN_A_QOS]⟩,
  ⟨"FAB.QOS_FN_B", 0x00020008, [], [FAB_QOS_FN_B_QOS]⟩,
  ⟨"FAB.QOS_MISC", 0x0002000C, [], [FAB_QOS_MISC_CUE, FAB_QOS_MISC_DEBUG, FAB_QOS_MISC_TWIN, FAB_QOS_MISC_MGT]⟩,
  ⟨"FAB.PARK", 0x00020010, [], [FAB_PARK_PORT]⟩,
  ⟨"FAB.LOCK_CFG", 0x00020014, [], [FAB_LOCK_CFG_TIMEOUT]⟩,
  ⟨"FAB.ERR_WR", 0x00020020, [], [FAB_ERR_WR_INDEX]⟩,
  ⟨"FAB.ERR_CNT", 0x00020024, [], [FAB_ERR_CNT_COUNT]⟩,
  ⟨"FAB.FW_DENY", 0x00020028, [], [FAB_FW_DENY_COUNT]⟩,
  ⟨"FAB.EVT", 0x00020030, [], [FAB_EVT_FLAGS]⟩,
  ⟨"FAB.OCC_A", 0x00020034, [], [FAB_OCC_A_LO, FAB_OCC_A_HI]⟩,
  ⟨"FAB.OCC_B", 0x00020038, [], [FAB_OCC_B_LO, FAB_OCC_B_HI]⟩,
  ⟨"FAB.ERR_INFO", 0x00020400, [(0x10, 64)], [FAB_ERR_INFO_INFO]⟩,
  ⟨"FAB.ERR_ADDR", 0x00020404, [(0x10, 64)], [FAB_ERR_ADDR_ADDR_LO]⟩,
  ⟨"FAB.ERR_XINFO", 0x00020408, [(0x10, 64)], [FAB_ERR_XINFO_XINFO]⟩,
  ⟨"FAB.ERR_TIME", 0x0002040C, [(0x10, 64)], [FAB_ERR_TIME_NS]⟩,
  ⟨"FAB.FW_BASE_LO", 0x00024000, [(0x10, 512)], [FAB_FW_BASE_LO_BASE]⟩,
  ⟨"FAB.FW_BASE_HI", 0x00024004, [(0x10, 512)], [FAB_FW_BASE_HI_ENABLE, FAB_FW_BASE_HI_SPACE, FAB_FW_BASE_HI_RD_LOCK, FAB_FW_BASE_HI_OWNER, FAB_FW_BASE_HI_BASE]⟩,
  ⟨"FAB.FW_LIM_LO", 0x00024008, [(0x10, 512)], [FAB_FW_LIM_LO_LIMIT]⟩,
  ⟨"FAB.FW_LIM_HI", 0x0002400C, [(0x10, 512)], [FAB_FW_LIM_HI_LIMIT]⟩,
  ⟨"MBX.MB_CFG", 0x00030000, [(0x100, 16)], [MBX_MB_CFG_ARM, MBX_MB_CFG_VECTOR, MBX_MB_CFG_RECV]⟩,
  ⟨"MBX.MB_STAT", 0x00030004, [(0x100, 16)], [MBX_MB_STAT_DOM, MBX_MB_STAT_COUNT]⟩,
  ⟨"MBX.MB_RX0", 0x00030010, [(0x100, 16)], [MBX_MB_RX0_PTR_LO]⟩,
  ⟨"MBX.MB_RX1", 0x00030014, [(0x100, 16)], [MBX_MB_RX1_PTR_HI]⟩,
  ⟨"MBX.MB_RX2", 0x00030018, [(0x100, 16)], [MBX_MB_RX2_TAG]⟩,
  ⟨"MBX.MB_RX3", 0x0003001C, [(0x100, 16)], [MBX_MB_RX3_HDR]⟩,
  ⟨"MBX.MB_POP", 0x00030020, [(0x100, 16)], [MBX_MB_POP_ARM, MBX_MB_POP_COUNT]⟩,
  ⟨"MBX.MB_EVT", 0x00030028, [(0x100, 16)], [MBX_MB_EVT_FLAGS]⟩,
  ⟨"MBX.MB_OCC", 0x0003002C, [(0x100, 16)], [MBX_MB_OCC_LO, MBX_MB_OCC_HI]⟩,
  ⟨"MBX.MB_CNT_POST", 0x00030030, [(0x100, 16)], [MBX_MB_CNT_POST_COUNT]⟩,
  ⟨"MBX.MB_CNT_BUSY", 0x00030034, [(0x100, 16)], [MBX_MB_CNT_BUSY_COUNT]⟩,
  ⟨"MBX.MB_CNT_DROP", 0x00030038, [(0x100, 16)], [MBX_MB_CNT_DROP_COUNT]⟩,
  ⟨"MBX.TX_PTR_LO", 0x00031000, [(0x0, 6)], [MBX_TX_PTR_LO_PTR]⟩,
  ⟨"MBX.TX_PTR_HI", 0x00031004, [(0x0, 6)], [MBX_TX_PTR_HI_PTR]⟩,
  ⟨"MBX.TX_TAG", 0x00031008, [(0x0, 6)], [MBX_TX_TAG_TAG]⟩,
  ⟨"MBX.TX_LEN", 0x0003100C, [(0x0, 6)], [MBX_TX_LEN_LEN_HINT]⟩,
  ⟨"MBX.TX_POST", 0x00031010, [(0x0, 6)], [MBX_TX_POST_MB]⟩,
  ⟨"MBX.TX_RESULT", 0x00031014, [(0x0, 6)], [MBX_TX_RESULT_STATUS, MBX_TX_RESULT_SEQ]⟩,
  ⟨"MBX.TX_DELIV", 0x00031018, [(0x0, 6)], [MBX_TX_DELIV_COUNT]⟩,
  ⟨"MBX.TX_DROP", 0x0003101C, [(0x0, 6)], [MBX_TX_DROP_COUNT]⟩,
  ⟨"MBX.TX_DROP_TAG", 0x00031020, [(0x0, 6)], [MBX_TX_DROP_TAG_TAG]⟩,
  ⟨"MBX.TX_DROP_MB", 0x00031024, [(0x0, 6)], [MBX_TX_DROP_MB_MB]⟩]

/-- Part 7 of the register map. -/
def regMap7 : List RegSpec := [
  ⟨"MBX.TX_EVT", 0x00031028, [(0x0, 6)], [MBX_TX_EVT_FLAGS]⟩,
  ⟨"MBX.TX_OCC", 0x0003102C, [(0x0, 6)], [MBX_TX_OCC_LO, MBX_TX_OCC_HI]⟩,
  ⟨"MBX.LK", 0x00032000, [(0x10, 16)], [MBX_LK_FORCE, MBX_LK_OWNER]⟩,
  ⟨"MBX.LK_PEEK", 0x00032004, [(0x10, 16)], [MBX_LK_PEEK_OWNER]⟩,
  ⟨"MBX.LK_STAT", 0x00032008, [(0x10, 16)], [MBX_LK_STAT_FREED, MBX_LK_STAT_WINS]⟩,
  ⟨"MBX.EPOCH_A", 0x00033000, [], [MBX_EPOCH_A_PF, MBX_EPOCH_A_PAIR1, MBX_EPOCH_A_PAIR0, MBX_EPOCH_A_MGT]⟩,
  ⟨"MBX.EPOCH_B", 0x00033004, [], [MBX_EPOCH_B_DEBUG, MBX_EPOCH_B_TWIN]⟩,
  ⟨"NVS.CFG", 0x00040000, [], [NVS_CFG_BP_LOCK, NVS_CFG_BP, NVS_CFG_PAGE_MODE]⟩,
  ⟨"NVS.CTL", 0x00040004, [], [NVS_CTL_RECALL, NVS_CTL_STORE]⟩,
  ⟨"NVS.STAT", 0x00040008, [], [NVS_STAT_STATE, NVS_STAT_BANK, NVS_STAT_VCAP_OK, NVS_STAT_PF, NVS_STAT_RECALLED_OLD, NVS_STAT_BLANK]⟩,
  ⟨"NVS.STORE_SEQ", 0x0004000C, [], [NVS_STORE_SEQ_SEQ]⟩,
  ⟨"NVS.PORT_ADDR", 0x00040010, [(0x0, 64)], [NVS_PORT_ADDR_ADDR]⟩,
  ⟨"NVS.PORT_DATA", 0x00040014, [(0x0, 64)], [NVS_PORT_DATA_DATA]⟩,
  ⟨"NVS.SCAN", 0x00040018, [], [NVS_SCAN_AGE_H, NVS_SCAN_REFRESHED]⟩,
  ⟨"NVS.CNT_STORE", 0x0004001C, [], [NVS_CNT_STORE_COUNT]⟩,
  ⟨"NVS.CNT_AUTO", 0x00040020, [], [NVS_CNT_AUTO_COUNT]⟩,
  ⟨"NVS.EVT", 0x00040030, [], [NVS_EVT_FLAGS]⟩,
  ⟨"NVS.OCC_A", 0x00040034, [], [NVS_OCC_A_LO, NVS_OCC_A_HI]⟩,
  ⟨"NVS.OCC_B", 0x00040038, [], [NVS_OCC_B_LO, NVS_OCC_B_HI]⟩,
  ⟨"TWN.CTL", 0x00060000, [], [TWN_CTL_PAIR, TWN_CTL_KIND, TWN_CTL_TAKE_INH, TWN_CTL_YIELD, TWN_CTL_RESYNC]⟩,
  ⟨"TWN.CFG", 0x00060004, [], [TWN_CFG_CO_TLN, TWN_CFG_AUTO_RESYNC, TWN_CFG_UNRES, TWN_CFG_IRQ_EN, TWN_CFG_VECTOR]⟩,
  ⟨"TWN.STAT", 0x00060008, [], [TWN_STAT_PAIR_STATE, TWN_STAT_ROLE, TWN_STAT_SIDE, TWN_STAT_NET_LOW, TWN_STAT_ON_AIR, TWN_STAT_PEER_ALIVE, TWN_STAT_IDENT, TWN_STAT_LAST_CAUSE]⟩,
  ⟨"TWN.PEER", 0x0006000C, [], [TWN_PEER_VARIANT, TWN_PEER_STEPPING]⟩,
  ⟨"TWN.PEER_NONCE", 0x00060010, [], [TWN_PEER_NONCE_NONCE]⟩,
  ⟨"TWN.SKEW", 0x00060014, [], [TWN_SKEW_NS]⟩,
  ⟨"TWN.CMP_EN", 0x00060020, [(0x4, 3)], [TWN_CMP_EN_PIPES]⟩,
  ⟨"TWN.VERDICT", 0x00060030, [], [TWN_VERDICT_VERDICT, TWN_VERDICT_PIPE, TWN_VERDICT_LINE, TWN_VERDICT_AUDIO]⟩,
  ⟨"TWN.VERDICT_FSN", 0x00060034, [], [TWN_VERDICT_FSN_FSN]⟩,
  ⟨"TWN.EVIDENCE", 0x00060038, [], [TWN_EVIDENCE_PEER, TWN_EVIDENCE_OWN]⟩,
  ⟨"TWN.XF_CFG", 0x00060100, [(0x4, 8)], [TWN_XF_CFG_EN, TWN_XF_CFG_STATE, TWN_XF_CFG_PEER_PIPE]⟩,
  ⟨"TWN.XF_BUDGET", 0x00060140, [], [TWN_XF_BUDGET_MBITS]⟩,
  ⟨"TWN.EVT", 0x00060040, [], [TWN_EVT_FLAGS]⟩,
  ⟨"TWN.OCC_A", 0x00060044, [], [TWN_OCC_A_LO, TWN_OCC_A_HI]⟩,
  ⟨"TWN.OCC_B", 0x00060048, [], [TWN_OCC_B_LO, TWN_OCC_B_HI]⟩,
  ⟨"TWN.OCC_C", 0x0006004C, [], [TWN_OCC_C_LO, TWN_OCC_C_HI]⟩,
  ⟨"TWN.OCC_D", 0x00060050, [], [TWN_OCC_D_LO, TWN_OCC_D_HI]⟩,
  ⟨"TWN.OCC_E", 0x00060054, [], [TWN_OCC_E_LO, TWN_OCC_E_HI]⟩,
  ⟨"TWN.CNT_MISMATCH", 0x00060200, [], [TWN_CNT_MISMATCH_COUNT]⟩,
  ⟨"TWN.CNT_CMP_GAP", 0x00060204, [], [TWN_CNT_CMP_GAP_COUNT]⟩,
  ⟨"TWN.CNT_SIG_DIFF", 0x00060208, [], [TWN_CNT_SIG_DIFF_COUNT]⟩,
  ⟨"TWN.CNT_DEC_MISS", 0x0006020C, [], [TWN_CNT_DEC_MISS_COUNT]⟩,
  ⟨"TWN.CNT_DEC_LATE", 0x00060210, [], [TWN_CNT_DEC_LATE_COUNT]⟩,
  ⟨"TWN.CNT_FAILOVER", 0x00060214, [], [TWN_CNT_FAILOVER_COUNT]⟩,
  ⟨"TWN.CNT_DIVERGED", 0x00060218, [], [TWN_CNT_DIVERGED_COUNT]⟩,
  ⟨"SEC.BOOT_STAT", 0x00070000, [], [SEC_BOOT_STAT_FUSE_OK, SEC_BOOT_STAT_SLOT, SEC_BOOT_STAT_NEXT_USED, SEC_BOOT_STAT_STAT_B, SEC_BOOT_STAT_STAT_A, SEC_BOOT_STAT_KEY_INDEX]⟩,
  ⟨"SEC.FW_VERSION", 0x00070004, [], [SEC_FW_VERSION_VERSION]⟩,
  ⟨"SEC.FW_SVN", 0x00070008, [], [SEC_FW_SVN_SVN]⟩,
  ⟨"SEC.ROLLBACK", 0x0007000C, [], [SEC_ROLLBACK_BURN, SEC_ROLLBACK_COUNT]⟩,
  ⟨"SEC.SVN_COMMIT", 0x00070010, [], [SEC_SVN_COMMIT_SVN]⟩,
  ⟨"SEC.BOOT_NEXT", 0x00070014, [], [SEC_BOOT_NEXT_VALID, SEC_BOOT_NEXT_SLOT]⟩]

/-- Part 8 of the register map. -/
def regMap8 : List RegSpec := [
  ⟨"SEC.KEYS", 0x00070018, [], [SEC_KEYS_REVOKED, SEC_KEYS_PRESENT]⟩,
  ⟨"SEC.DEVKEY", 0x00070040, [(0x4, 8)], [SEC_DEVKEY_WORD]⟩,
  ⟨"SEC.FW_DIGEST", 0x00070080, [(0x4, 16)], [SEC_FW_DIGEST_WORD]⟩,
  ⟨"SEC.DEF_DIGEST", 0x000700C0, [(0x4, 16)], [SEC_DEF_DIGEST_WORD]⟩,
  ⟨"SEC.FUSE_DIGEST", 0x00070100, [(0x4, 16)], [SEC_FUSE_DIGEST_WORD]⟩,
  ⟨"SEC.EVT", 0x00070140, [], [SEC_EVT_FLAGS]⟩,
  ⟨"SEC.OCC", 0x00070144, [], [SEC_OCC_LO, SEC_OCC_HI]⟩,
  ⟨"ID.LOT_LO", 0x00000020, [], [ID_LOT_LO_LOT]⟩,
  ⟨"ID.LOT_HI", 0x00000024, [], [ID_LOT_HI_LOT]⟩,
  ⟨"ID.DIE", 0x00000028, [], [ID_DIE_WAFER, ID_DIE_X, ID_DIE_Y]⟩,
  ⟨"MGT.MODE", 0x00010000, [], [MGT_MODE_MODE, MGT_MODE_TARGET, MGT_MODE_PENDING, MGT_MODE_RUN_SEEN, MGT_MODE_LIMP_CAUSE]⟩,
  ⟨"MGT.RST_CAUSE", 0x00010004, [], [MGT_RST_CAUSE_COUNT, MGT_RST_CAUSE_CAUSE]⟩,
  ⟨"MGT.BOOT_TIME", 0x00010008, [], [MGT_BOOT_TIME_TOTAL_MS, MGT_BOOT_TIME_IMAGE_MS, MGT_BOOT_TIME_TRAIN_MS]⟩,
  ⟨"MGT.DOM_SEL", 0x00010010, [], [MGT_DOM_SEL_DOMAIN]⟩,
  ⟨"MGT.DOM_CTL", 0x00010014, [], [MGT_DOM_CTL_RESET, MGT_DOM_CTL_DEVICE, MGT_DOM_CTL_CONFIRM, MGT_DOM_CTL_REQ]⟩,
  ⟨"MGT.DOM_STAT", 0x00010018, [], [MGT_DOM_STAT_STATE, MGT_DOM_STAT_PRESENT, MGT_DOM_STAT_RESETS]⟩,
  ⟨"MGT.THERM", 0x00010020, [], [MGT_THERM_WARN_C, MGT_THERM_TRIP_C]⟩,
  ⟨"MGT.TEMP", 0x00010024, [], [MGT_TEMP_SENSOR, MGT_TEMP_TJ]⟩,
  ⟨"MGT.SVC", 0x00010030, [], [MGT_SVC_START, MGT_SVC_TX_EN, MGT_SVC_STATE, MGT_SVC_TEST]⟩,
  ⟨"MGT.FLOG_WR", 0x00010040, [], [MGT_FLOG_WR_INDEX]⟩,
  ⟨"MGT.EVT", 0x00010050, [], [MGT_EVT_FLAGS]⟩,
  ⟨"MGT.OCC_A", 0x00010054, [], [MGT_OCC_A_LO, MGT_OCC_A_HI]⟩,
  ⟨"MGT.OCC_B", 0x00010058, [], [MGT_OCC_B_LO, MGT_OCC_B_HI]⟩,
  ⟨"MGT.FLOG_W", 0x00018000, [(0x20, 1024), (0x4, 8)], [MGT_FLOG_W_WORD]⟩]

/-- The register map: every register of BAR0 that the spec lists. -/
def regMap : List RegSpec := regMap0 ++ regMap1 ++ regMap2 ++ regMap3 ++ regMap4 ++ regMap5 ++ regMap6 ++ regMap7 ++ regMap8

/-- The fields whose reset value the defaults image gives (R623). -/
def imageFlds : List Fld := [
  LNE_CTL_ENABLE, LNE_CTL_RX_RATE, LNE_CTL_MODE, LNE_CTL_RX_INV, LNE_CTL_TX_INV, LNE_CTL_TX_IDLE,
  LNE_LIMP_CFG_BLACK, LNE_LIMP_CFG_FMT, LNE_SDI_CFG_QUAD, LNE_SDI_CFG_LEVEL_B_TX, INP_CFG_REF_TLN, INP_CFG_MAX_CLASS,
  INP_CFG_MAX_STRUCT, INP_CFG_EXP_FMT, INP_DEFS_PSF, INP_DEFS_STRUCT, INP_DEFS_TRANSFER, INP_DEFS_COLOR,
  INP_LOSS_POLICY, INP_LOSS_FALLBACK, INP_LOSS_FREEZE_MS, INP_TCCFG_TC_SRC, PLZ_GANG_CFG_GANG, OUT_CMP_CFG_TRANSFER,
  OUT_CMP_CFG_COLOR, OUT_UC_PAT_LIVE_PAT, OUT_UC_COLOR_LIVE_YCBCR, OUT_TMG_FMT_TLN, OUT_TMG_FMT_STRUCT, OUT_TMG_FMT_FMT,
  OUT_TMG_OFS_NS, OUT_ANC_CFG_TC_INS, OUT_ANC_CFG_TC_LINE, AUD_IN_CFG_GRP_EN, AUD_IN_CFG_LS_MODE, AUD_IN_CFG_LS_TLN,
  AUD_OUT_CFG_GRP_EN, AUD_OUT_CFG_SD_EXT, AUD_OUT_CFG_ACP_EN, REF_CFG_QL_EN, REF_CFG_DPLL_MODE, REF_CFG_FR_START,
  REF_CAND_CFG_ENABLE, REF_CAND_CFG_PPS_REQ, REF_CAND_CFG_PRIO, REF_CAND_CFG_QL, REF_CAND_CFG_BW, REF_CAND_CFG_WTR_S,
  REF_CAND_CFG_SRC, REF_CAND_OFS_PHASE_OFS, REF_TLN_CFG_KERB, REF_TLN_CFG_FMT, REF_TLN_PHASE_NS, REF_PTP_CFG_ENABLE,
  REF_PTP_CFG_UNICAST_DREQ, REF_PTP_CFG_VLAN_EN, REF_PTP_CFG_VLAN_ID, REF_PTP_IP_ADDR, REF_PTP_NET_PREFIX, REF_PTP_GW_ADDR,
  REF_PTP_MAC_LO_MAC, REF_PTP_MAC_HI_MAC, TWN_CFG_CO_TLN, TWN_CFG_AUTO_RESYNC]

end Sys2Proof.Machine.R
end

