-- ==== Sys2Proof/Machine/State.lean ====
section
/-! DEFINITION. The state of the PRD96 as plain data: what each chapter of the spec gives the block, in the order of the chapters,
the queue of waiting commands, and the state after reset. Registers are in `regs`, field by field (Machine/Regs.lean names them);
everything the spec gives the block that is no register is a field of its own here. -/

namespace Sys2Proof.Machine

open Sys2Proof

/-- The register file: for each field (numbered by its register's offset and lowest bit) a table by unit, and for each unit a
table by the index within the unit. What is not listed reads as the field's reset value. -/
abbrev RegFile := Tab (Tab (Tab Nat))

/-- HBM as the bytes that are not 0, at rising addresses (offsets of BAR2). -/
abbrev Memory := List Host.Cell

/-- Why the block stops with a fault. No command does: the spec answers every request with a status, and every event has an
effect or none; the type is here because the interface asks for it. Safe (nothing raises it). -/
inductive Fault where
  | none
deriving DecidableEq, Repr

/-- Why a command is refused. -/
inductive Refusal where
  /-- Raised by Machine/Dispatch.lean for a row of the opcode table that has no meaning yet. Safe: nothing is claimed of it. -/
  | notModelled (mnemonic : String)
deriving DecidableEq, Repr

/-! ### 00 Scope: fuses and straps -/

/-- What the fuses hold (R1, R598, R599): the identity fields, the key hashes (32 bytes each) with their present and revoked bits, the rollback count
(R607), the device secret, the measured eye-scan step of each lane it is known of (R139, assumption 148); and what the last fuse load failed on: its row, and the fields that lie in it (0 lot, 1 wafer, 2 and 3 die X and Y,
4 stepping, 5 variant, 6 to 9 key hashes, 10 key present, 11 key revoked, 12 rollback counter, 13 device secret). -/
structure Fuses where
  variant : Nat
  stepping : Nat
  lot : Nat
  wafer : Nat
  dieX : Nat
  dieY : Nat
  vstepUv : Tab Nat
  keysPresent : Nat
  keysRevoked : Nat
  rollback : Nat
  keyHash : List (List Nat)
  secret : List Nat
  badRow : Option Nat
  lost : List Nat
deriving DecidableEq, Repr

/-- The straps and the pins that the chapters read: the board number, the twin side (false A, true B), the level of PERST_N, whether the
rails are in range (R644), THERMTRIP_N as the device drives it (R634), the cause of a device reset held until the die cools (R634; 0 none), whether
the net of ACTIVE_N is low, the level of PEER_ALIVE (R568). -/
structure Pins where
  boardId : Nat
  side : Bool
  perstHigh : Bool
  railsOk : Bool
  thermTrip : Bool
  coolWait : Nat
  netLow : Bool
  aliveHigh : Bool
deriving DecidableEq, Repr

/-! ### 02 Objects, handles, sessions and rings -/

/-- An allocation of HBM (R54, R671): its BAR2 offset and length, the object key or unit it belongs to, and how the host sees it. -/
structure Alloc where
  base : Nat
  len : Nat
  key : Nat
  hidden : Bool
  readOnly : Bool
deriving DecidableEq, Repr

/-- An admin command that firmware has taken from a command ring and not completed (R101, R102). -/
structure Taken where
  opcode : Nat
  quiet : Bool
  tag : Nat
  session : Nat
  object : Nat
  payAddr : Nat
  payLen : Nat
  index : Nat
  inl : List Nat
  reserved : Bool
deriving DecidableEq, Repr

/-- What the block sends to the outside: MSI-X messages, writes into host memory, and (from the other chapters) frames on its
links. Newest first in `State.outs`. -/
inductive Out where
  | msix (f vector : Nat)
  | hostWrite (f addr : Nat) (bytes : List Nat)
  | port (port : MgmtPort) (bytes : List Nat)
  | lane (i : Nat) (kind : Nat) (words : List Nat)
  | twin (kind : Nat) (words : List Nat)
  /-- On the timing lane (R487): 1 a Delay_Req, 2 an ARP reply, 3 an IGMPv2 and 5 an IGMPv3 membership report; its VLAN ID, if tagged, comes last. -/
  | ptp (kind : Nat) (words : List Nat)
  | det (r : DetRec)
  | copy (items : List CopyItem)
deriving DecidableEq, Repr

/-- An event that a unit raises without a flag or a code of its own: an uncorrectable HBM word met by a reader (R55), a staged value applied at the
switch line after its own, with the FSN it targeted and the FSN it was applied at (R51). -/
inductive UnitEvt where
  | eccUncorr (reader : HbmReader) (addr : Nat)
  | late (key : StageKey) (target applied : Nat)
deriving DecidableEq, Repr

/-- The response of the last register access: status code and data word (R16). -/
structure Resp where
  status : Nat
  data : Nat
deriving DecidableEq, Repr

/-- The last admin completion written: function, status, handle and result (R101). -/
structure Cpl where
  f : Nat
  opcode : Nat
  tag : Nat
  status : Nat
  handle : Nat
  result : Nat
deriving DecidableEq, Repr

/-! ### 18 Domains, the management port -/

/-- A power and reset domain (R617, R618): its state as MGT.DOM_STAT codes it (0 ON, 1 SLEEP, 2 OFF, 3 RESET), its count of
resets, and whether LIMP or a thermal trip switched it off (R620). -/
structure Dom where
  st : Nat
  resets : Nat
  forced : Bool
deriving DecidableEq, Repr

/-- The STATUS of one half of the management port (R637). -/
structure PortStat where
  status : Nat
  opcode : Nat
  busy : Bool
  refused : Bool
  value : Nat
deriving DecidableEq, Repr

/-! ### 03, 04 Lanes and framers -/

/-- A block that arrived ahead of a missing one (R191): its stream, SEQ, RATE and payload, and the crossfeed frame it completes. -/
structure Early where
  st : Nat
  seq : Nat
  rate : Nat
  pay : List Nat
  xf : Option (Nat × Nat × List (List Pixel))
deriving DecidableEq, Repr

/-- What a lane and its port framer hold besides their registers. -/
structure LaneX where
  /-- Consecutive missing or misplaced EAVs while ALIGNED (R164), and the last good line. -/
  misses : Nat
  lastGood : Nat
  /-- Lines with a CRC mismatch in the frame so far, and the first of them (R169). -/
  crcLines : Nat
  crcFirst : Nat
  /-- The CRCs of what followed SAV in the line before, one for each data stream, none after alignment (R167); at 270 Mbit/s the CRCs over the
  active picture and the full field so far, none before a field has begun (R168). -/
  rxCrc : Option (List Nat)
  rxEdh : Option (Nat × Nat)
  /-- The previous payload ID captured, none after a reset, an enable or a fall of VPID_VALID (R171). -/
  vpidPrev : Option Nat
  /-- A differing payload ID that waits for its repeat in the next frame (R171). -/
  vpidNew : Option Nat
  /-- The SDI rate code of the video stream last received (R183, R164), and whether a block of it arrived in the last 1 ms. -/
  rxStream : Nat
  vidSeen : Bool
  /-- The bits of the received video stream that the framer has not taken yet, first first (R189). -/
  rxBits : List Bool
  /-- Whether the aligned line structure has two fields (R164). -/
  fields : Bool
  /-- The SDI rate code of the stream the lane is to send, 0 none, and whether RATE_SHORT holds it back (R190). -/
  txStream : Nat
  txHeld : Bool
  /-- The bits of the video stream that are not sent yet (R189). -/
  txBits : List Bool
  /-- The scrambler and NRZI register of the SDI transmitter (R172). -/
  scr : Nat
  /-- The next SEQ expected of each stream; the blocks that wait behind a gap (R191). -/
  rxSeq : Tab Nat
  early : List Early
  /-- The next SEQ to send of each stream, and the stream last served in each class (R188). -/
  txSeq : Tab Nat
  lastSent : Tab Nat
  /-- Running disparity of the symbols sent and received, positive true; symbols sent since the last skip set; whether a block is in progress;
  symbols received since the last COMMA; the times of the last code and disparity errors, newest first; the data symbols of the block being
  received; whether an error fell into it (R181 to R186, R199). -/
  rd : Bool
  rxRd : Bool
  sinceSkip : Nat
  midBlock : Bool
  noComma : Nat
  errs : List Nat
  rxBlk : Option (List Nat)
  rxBad : Bool
  /-- The next QW_SEQ to send; whether QW_LOSS is raised until a good QW (R192). -/
  qwSeq : Nat
  qwLost : Bool
  /-- Consecutive good training sequences, positive-disparity commas in a row, the far end's ACK, its width, and whether comma
  alignment has been held (R194 to R196). -/
  tsGood : Nat
  tsPos : Nat
  tsAck : Bool
  tsWidth : Nat
  tsComma : Bool
  /-- The retry time of 100 ms runs (R195). -/
  retry : Bool
  /-- Whether the quad-link assembly this head lane makes was whole when last judged (R179). -/
  quadOk : Bool
  /-- The last lines received on a link of a quad-link group, oldest first: the number, and the rows of the sub-picture it carried (R178). -/
  qLine : List (Nat × List (List Pixel))
  /-- The data streams of the aligned signal on this lane (R164). -/
  streams : Nat
  /-- When the last good QW arrived (R192). -/
  qwAt : Option Nat
  /-- What the lane has sent under a near-end loopback and its receiver has not taken yet, oldest first (R143, R145): lines as words, code groups, and
  the symbols of quality words and training sequences; and the line last taken. -/
  sentLines : List (List Nat)
  sentGroups : List Nat
  sentWords : List (List Nat)
  curLine : List Nat
  /-- The rate code the receiver is trying: under AUTO the nominal code of the family (R130). -/
  tryRate : Nat
deriving DecidableEq, Repr

/-- A lane after reset. -/
def LaneX.reset : LaneX :=
  { misses := 0, lastGood := 0, crcLines := 0, crcFirst := 0, rxCrc := none, rxEdh := none, vpidPrev := none, vpidNew := none,
    rxStream := 0, vidSeen := false, rxBits := [],
    fields := false, txStream := 0, txHeld := false, txBits := [], scr := 0, rxSeq := [], early := [], txSeq := [], lastSent := [],
    rd := false, rxRd := false, sinceSkip := 0, midBlock := false, noComma := 0, errs := [], rxBlk := none, rxBad := false, qwSeq := 0,
    qwLost := false, tsGood := 0, tsPos := 0, tsAck := false, tsWidth := 0, tsComma := false, retry := false, quadOk := false, qLine := [], streams := 0, qwAt := none, sentLines := [], sentGroups := [], sentWords := [], curLine := [],
    tryRate := 0 }

/-! ### 05 Input ports -/

/-- A picture: its rows of pixels, top first. -/
abbrev Pic := List (List Pixel)

/-- What the measurement and the payload ID say a frame is (R205). -/
structure Det where
  fmt : Nat
  struct : Nat
  transfer : Nat
  color : Nat
  fromVpid : Bool
  conflict : Bool
deriving DecidableEq, Repr

/-- A frame in a frame store (R208, R233): its IFC, completion time in epoch nanoseconds, slot, determination, timecode
(valid, INP.TC word, user bits) and picture. -/
structure Frame where
  ifc : Nat
  done : Nat
  slot : Nat
  det : Det
  tcValid : Bool
  tc : Nat
  ub : Nat
  pic : Pic
deriving DecidableEq, Repr

/-- What an input port holds besides its registers. -/
structure PortX where
  /-- Published frames still in the store, oldest first (R208). -/
  frames : List Frame
  /-- The slots of the store and the bytes of one; 0 slots when no store is allocated (R209, R210). -/
  slots : Nat
  slotBytes : Nat
  /-- The IFC of the first frame published into this store, once one is (R224). -/
  first : Option Nat
  /-- The slot being written, whether the frame is being discarded for lack of one, and the start time of its line 1 (R219). -/
  writing : Option Nat
  skipping : Bool
  line1 : Nat
  /-- Whether line 1 of the frame in progress arrived since detection could start (R207, R675). -/
  seen : Bool
  /-- The determination being counted and for how many frames (R207). -/
  cand : Option Det
  run : Nat
  /-- The determinations already reported as FMT_MISMATCH and STORE_FIT, the payload IDs reported as conflicts (R206, R207). -/
  mismTold : List Nat
  fitTold : List Nat
  conflTold : List Nat
  /-- The start of the loss in epoch nanoseconds, and whether LOSS_FALLBACK has been raised for it (R221). -/
  lossAt : Option Nat
  fellBack : Bool
  /-- Consecutive published frames without the timecode packet, and the last timecode (R233). -/
  tcMiss : Nat
  tcPrev : Option Nat
  /-- The timecode packet of the frame being written: the INP.TC word and the user bits. -/
  tcNow : Option (Nat × Nat)
  /-- The number of frames published since a device reset (INP.IFC is its low 32 bits), and that of the first frame published
  after the last loss (R222). -/
  ifcN : Nat
  resumed : Nat
  /-- The filters in force for the frame (R227): their INP.ANCF_MATCH, INP.ANCF_LINES and INP.ANCF_RING words. -/
  filters : List (Nat × Nat × Nat)
  /-- The rows in the line FIFO, newest first, each with its place in the picture (R36, R253). -/
  fifo : List (Nat × List Pixel)
  /-- The rows of the frame being received, by their place in the picture (R208). -/
  rows : Tab (List Pixel)
deriving DecidableEq, Repr

/-- A port after reset. -/
def PortX.reset : PortX := ⟨[], 0, 0, none, none, false, 0, false, none, 0, [], [], [], none, false, 0, none, none, 0, 0, [], [], []⟩

/-- What the readers of a sync context see: nothing yet, a stored frame, or the loss planes (R221, R224). -/
inductive Shown where
  | frame (f : Frame)
  | black
  | undercoat
deriving DecidableEq, Repr

/-- A sync context (R214 to R224): the IFC of the last pick in the current store, whether a decision has been made since it became
active, the frames for which a drop or a repeat is forbidden (R216), the frozen frame, whether it is in loss treatment, what its
readers see. -/
structure SyncCtx where
  pick : Option Nat
  started : Bool
  noDrop : Nat
  noRepeat : Nat
  frozen : Option Frame
  freezing : Bool
  inLoss : Bool
  shown : Shown
deriving DecidableEq, Repr

/-- A context that has picked nothing. -/
def SyncCtx.reset : SyncCtx := ⟨none, false, 0, 0, none, false, false, .black⟩

/-! ### 06 Plaza -/

/-- A crossfeed stream as received (R256, R257): open, format code, and the frames received by the FSN they are offered at. -/
structure XStream where
  isOpen : Bool
  fmt : Nat
  frames : List (Nat × Pic)
  told : Bool
deriving DecidableEq, Repr

/-! ### 07 Arcade jobs -/

/-- A temporal sample of a job's sequential reader (R290): the port frame's IFC, its time in epoch nanoseconds, the picture, and, for a
field of an interlaced frame under DEINT, which field it is (1 or 2; 0 a frame). -/
structure Sample where
  ifc : Nat
  time : Nat
  field : Nat
  struct : Nat
  pic : Pic
  /-- In MIRROR, where the cadence is the primary's (R315): whether the frame or field repeats the one before; none for a sample as this card's own
  cadence made it. -/
  mark : Option Bool
deriving DecidableEq, Repr

/-- An Arcade job (R271 to R313): its declaration, placement and memory, and what runs. -/
structure Job where
  handle : Nat
  tln : Nat
  inFmt : Nat
  inStruct : Nat
  inXfer : Nat
  mode : Nat
  inW : Nat
  inH : Nat
  outFmt : Nat
  outStruct : Nat
  outXfer : Nat
  filter : Nat
  outW : Nat
  outH : Nat
  credits : Nat
  /-- The engines that hold the job, the head engine first (R276), its slot there and the local store it takes of each. -/
  engs : List Nat
  slot : Nat
  localKib : Nat
  /-- BAR2 offsets of the output frames and of the parameter area (R281), the index of the output surface (R283). -/
  outBase : Nat
  params : Nat
  surf : Nat
  /-- The live bank as the engine loaded it into local store (R312): offsets within the bank. -/
  bank : Memory
  /-- The samples the reader still needs, oldest first, and the times of the last 16 (R290, R309). -/
  samples : List Sample
  /-- The input frames whose slots the reader holds (R219, R290). -/
  held : List Nat
  times : List Nat
  /-- The published output frame, none while it reads black; the frame in progress with its FSN (R283, R284). -/
  shown : Option Pic
  making : Option (Nat × Pic)
  faulted : Bool
  /-- Consecutive frames of F ≤ FRAME_TH / 2, and frames spent in fallback (R306). -/
  calm : Nat
  inFallback : Nat
  /-- The pair of the last cut (R307), by the key of its sample a + 1. -/
  cutAt : Option Nat
  /-- Repeat marks of the input frames, newest first; the place in the period while locked; the time of the period's first frame;
  the last input frame (R308). -/
  marks : List Bool
  place : Nat
  periodAt : Nat
  lastIn : Option Pic
  /-- RATE_MISMATCH and SRC_SIZE raised (R296, R309); the IFC of the last sample a (R294). -/
  rateTold : Bool
  sizeTold : Bool
  /-- SRC_FMT raised for the live select (R257). -/
  fmtTold : Bool
  lastA : Option Sample
deriving DecidableEq, Repr

/-! ### 08, 09 Surfaces and output pipelines -/

/-- A surface (R322 to R327): format code, size, capacity of a codestream, place in HBM; for a WRITEBACK surface its last completed frame and
sample structure; for an Arcade output surface the job; the session whose LY7 or slate has write-locked it (R352). -/
structure Surf where
  fmt : Nat
  w : Nat
  h : Nat
  maxBytes : Nat
  writeback : Bool
  base : Nat
  job : Option Nat
  shown : Option (Nat × Pic)
  locked : Option Nat
deriving DecidableEq, Repr

/-- The live words of one layer as a frame uses them (R334). -/
structure LayerCfg where
  surf : Nat
  alpha : Nat
  msel : Nat
  ga : Nat
  fill : Nat
  srcXY : Nat
  srcWH : Nat
  dstXY : Nat
  dstWH : Nat
  mat : List Nat
deriving DecidableEq, Repr

/-- What LY0 shows in a frame (R221, R236, R252, R257). -/
inductive Ly0 where
  | clear
  | plane (pat : Nat)
  | undercoat
  | pic (struct : Nat) (p : Pic) (tc : Option (Nat × Nat))
  | street (port : Nat) (tc : Option (Nat × Nat))
  | surf (h : Nat)
deriving DecidableEq, Repr

/-- The values a pipeline applied at its own switch line, for one frame (R243, R362). -/
structure FrameCfg where
  ly0 : Ly0
  layers : List LayerCfg
  ucPat : Nat
  ucColor : Nat
  omSel : Nat
  omMat : List Nat
  tcIns : Bool
  /-- The Skim rectangles in force: XY, WH, expected CRC, mode (R376). -/
  skim : List (Nat × Nat × Nat × Nat)
deriving DecidableEq, Repr

/-- A packet that a pipeline has placed on the interface line in progress: its class (0 audio data, 1 audio control, 2 timecode, 3 a ring record: the
order of R370), in HANC or VANC, in the chroma or the luma stream; its words from the ancillary data flag on (R366 to R371). -/
structure AncOut where
  cls : Nat
  hanc : Bool
  chroma : Bool
  words : List Nat
deriving DecidableEq, Repr

/-- An event of a pipeline that waits for the end of its line (R381): bit of OUT.EVT, FSN, line, ARG, and the epoch at which it occurred. -/
structure HeldEv where
  bit : Nat
  fsn : Nat
  line : Nat
  arg : Nat
  time : Nat
deriving DecidableEq, Repr

/-- What an output pipeline holds besides its registers. -/
structure PipeX where
  cfg : Option FrameCfg
  /-- The rows sent in the frame in progress, by row (R348, R377). -/
  rows : Tab (List Pixel)
  /-- The layers whose TPF_ERR or JXS_ERR is raised for the frame, as masks (R331, R333). -/
  tpfTold : Nat
  jxsTold : Nat
  /-- A refresh has gone live for the frame to come; the slate is due at the next switch line; frames spent in SLATE (R353). -/
  refresh : Bool
  slateDue : Bool
  slateFrames : Nat
  /-- Frames mismatched in the current episode, by rectangle (R381). -/
  skimMiss : Tab Nat
  /-- The due FSN of the head insert record, and whether a line has already had no room for it (R370, R371). -/
  ancDue : Option Nat
  ancWait : Bool
  /-- The last PLZ.XF source format reported (R257). -/
  fmtTold : Bool
  /-- The words of the line that left last, link after link, and those of its audio data packets (R585). -/
  lineW : List Nat
  lineA : List Nat
  /-- The first transparent line of the street frame in progress and its cause: the line times 16 plus the cause (R253). -/
  trLine : Option Nat
  /-- The crossfeed frame offered at the last switch line of the timeline: its format code and picture (R257). -/
  xfNow : Option (Nat × Pic)
  /-- The picture of the last frame completed, with its FSN, format code and sample structure (R256, R577). -/
  sentPic : Option (Nat × Nat × Nat × Pic)
  /-- The packets placed on the interface line in progress (R366 to R371). -/
  anc : List AncOut
  /-- The place in the 192-sample block of channel status that the next embedded sample takes. -/
  csPos : Nat
  /-- The CRC of each data stream over the active part of the line before, by link times 8 plus stream (R172). -/
  crc : Tab Nat
  /-- The EDH CRCs over the active picture and the full field so far (R172, R173). -/
  edhAp : Nat
  edhFf : Nat
  /-- Events of the active line in progress that enter the ring after an UNDERRUN or PIPE_FAULT of the same line (R381). -/
  held : List HeldEv
deriving DecidableEq, Repr

/-- A pipeline after reset. -/
def PipeX.reset : PipeX := 
  { cfg := none, rows := [], tpfTold := 0, jxsTold := 0, refresh := false, slateDue := false, slateFrames := 0, skimMiss := [], ancDue := none,
    ancWait := false, fmtTold := false, lineW := [], lineA := [], trLine := none, xfNow := none, sentPic := none, anc := [], csPos := 0, crc := [],
    edhAp := 0, edhFf := 0, held := [] }

/-! ### 10 Embedded audio -/

/-- A de-embedded sample frame of a group (R387, R389): its arrival time and the four samples. -/
structure SrcSmp where
  time : Nat
  smp : List Int
deriving DecidableEq, Repr

/-- What the de-embedder knows of the ST 337 preambles of a pair (R404): whether one came in the frame of LS_TLN in progress, the frames in a row
before it that had one, when the last came, and the change decided for the next frame. -/
structure NpDet where
  seen : Bool
  run : Nat
  last : Option Nat
  next : Option Bool
deriving DecidableEq, Repr

/-- A history frame of a non-PCM pair (R405): its FSN on LS_TLN, the grid index of its first sample, its sample frames. -/
structure NpFrame where
  fsn : Nat
  g0 : Nat
  smp : List SrcSmp
deriving DecidableEq, Repr

/-- An input group besides its registers (R387 to R392, R405): source samples, newest first, and how many have arrived; the ASRC's position A
times 2^32, the position it fades from with the samples of the fade done, RATIO; samples of the initial ramp done; samples of
hold-and-decay done; the last samples written; the samples that arrived during each input frame, newest first; the preambles of its two pairs. -/
structure GrpX where
  src : List SrcSmp
  srcN : Nat
  posA : Nat
  posOld : Option (Nat × Nat)
  ratio : Nat
  ramp : Nat
  decay : Option Nat
  last : List Int
  raw : Tab (List SrcSmp)
  det : Tab NpDet
deriving DecidableEq, Repr

/-- The lip-sync state of a port (R390, R392): the target T and its value before the clamp, and the LS_MODE and LS_FIXED_US, as the last
block found them; Dv, which AUD.IN_DV shows as far as it holds it; whether a block has run. -/
structure LipX where
  target : Nat
  rawT : Nat
  mode : Nat
  fixed : Nat
  dv : Option Nat
  ran : Bool
deriving DecidableEq, Repr

/-- A path of a route (R398): source, delay, gain multiplier, MUTE. -/
structure APath where
  src : Nat
  delay : Nat
  m : Int
  mute : Bool
deriving DecidableEq, Repr

/-- A route besides its registers (R397 to R399, R406): the destination and path in force, the path it fades from (none: zeros), the sample
of the crossfade, the multiplier a gain ramp starts from and its sample, the stage of a guard-band switch (0 none, 1 the old burst,
2 zeros), the samples left of the burst in progress, the word size of a preamble whose length code is the next sample frame. -/
structure RouteX where
  dst : Nat
  cur : APath
  old : Option APath
  xi : Nat
  mFrom : Int
  mi : Nat
  gb : Nat
  burst : Nat
  pre : Option Nat
deriving DecidableEq, Repr

/-- An audio frame in progress (R401): its FSN, the grid index of its first sample, the samples computed, the samples it will hold, the counts
of the two frames before, its place in the sequence, the samples of each channel by their number, and those embedded before the line in
progress and to its end (R402). -/
structure AFrame where
  fsn : Nat
  g0 : Nat
  idx : Nat
  n : Nat
  c1 : Nat
  c2 : Nat
  pos : Nat
  smp : Tab (Tab Int)
  lo : Nat
  hi : Nat
deriving DecidableEq, Repr

/-- An insert slot besides its registers (R408): the entry in use, its next sample frame, the last samples, hold-and-decay. -/
structure InsX where
  words : List Nat
  phase : Nat
  last : List Int
  decay : Option Nat
deriving DecidableEq, Repr

/-! ### 12 Timelines -/

/-- A timeline generator besides its registers (R477 to R484): the actual phase A in ns, the number of the frame in progress, the
line last delivered, the milliseconds slewed, whether it waits for its first alignment point. -/
structure Tln where
  phase : Int
  n : Nat
  line : Nat
  slewMs : Nat
  starting : Bool
  /-- What FSN adds to n, modulo 2^32: 0 but after a restart at the FSNs of a twin (R573). -/
  ofs : Nat
  /-- The last frame that a cut lengthened, and by how many ns (R484). -/
  cut : Option (Nat × Nat)
deriving DecidableEq, Repr

/-- A timeline that does not run. -/
def Tln.reset : Tln := ⟨0, 0, 0, 0, false, 0, none⟩

/-! ### 12 The reference unit -/

/-- A candidate besides its registers (R454 to R473): whether its signal is valid; the nanoseconds since its last phase edge, or for an
absolute candidate its time, with the island time at which that was so (where the block can tell itself whether it is valid, see State.candValid); consecutive measurements that count for its next state. -/
structure CandX where
  valid : Bool
  mark : Option (Nat × Nat)
  calm : Nat
deriving DecidableEq, Repr

/-- The DPLL besides its registers (R464 to R471): the value REF.MAN holds, the steering s, what the loop has integrated of it, the bandwidth code in use, the stored good
seconds, newest first, the island time of the first entry to IDLE, and the disagreeing pairs (16 times the lower number plus the
higher) with their consecutive measurements within half the limit. -/
structure RefX where
  man : Int
  steer : Int
  integ : Int
  bw : Nat
  good : List Int
  idleAt : Option Nat
  pairs : Tab Nat
  /-- REFC8 (R579): the measured round trip of the twin link, and consecutive good quality words with LOCKED or HOLDOVER at 1. -/
  rtt : Option Nat
  qwGood : Nat
deriving DecidableEq, Repr

/-- A foreign master of the PTP port (R487): the identity of the sender, its dataset in the order of the comparison (priority1, clockClass,
clockAccuracy, variance, priority2, clockIdentity), stepsRemoved. -/
structure PtpMaster where
  src : Nat
  data : List Nat
  steps : Nat
deriving DecidableEq, Repr

/-- The PTP port besides its registers (R487, R488): foreign masters, the chosen one, the sequence number and receive time of a two-step Sync that
waits for its Follow_Up, the last timed Sync pair (t1, t2), the sequence number and time of a Delay_Req that waits for its Delay_Resp,
logMinDelayReqInterval, the island time since which the port is in SLAVE within 1 µs, and the sequence number of the next Delay_Req. -/
structure PtpX where
  masters : List PtpMaster
  chosen : Option Nat
  half : Option (Nat × Nat)
  pair : Option (Nat × Nat)
  reqT3 : Option (Nat × Nat)
  reqLog : Int
  calm : Option Nat
  reqSeq : Nat
deriving DecidableEq, Repr

/-! ### 14 Mailboxes -/

/-- A notice (R515): principal and epoch of the sender, LEN_HINT, TAG, POINTER. -/
structure Notice where
  prin : Nat
  epoch : Nat
  len : Nat
  tag : Nat
  ptr : Nat
deriving DecidableEq, Repr

/-! ### 15 Persistent store -/

/-- A shadow bank (R543): its copy of the store and the sequence in its completion mark, none when the mark is not valid. -/
structure Bank where
  mem : Memory
  mark : Option Nat
deriving DecidableEq, Repr

/-- The persistent store (R535, R543): the SRAM, banks X and Y, the bank a STORE in progress writes (0 X, 1 Y), and the island time of the
last complete scan (R553). -/
structure Nvs where
  sram : Memory
  bankX : Bank
  bankY : Bank
  target : Nat
  scanAt : Option Nat
deriving DecidableEq, Repr

/-! ### 16 Twin operation -/

/-- The CRCs of a raster line (R585, R586): pipeline, line, low 12 bits of FSN, ACRC, LCRC. -/
structure LineCrc where
  pipe : Nat
  line : Nat
  fsn : Nat
  acrc : Nat
  lcrc : Nat
deriving DecidableEq, Repr

/-- An episode of mismatches that has no verdict yet (R586, R587): the first mismatch, and the island time from which evidence counts. -/
structure Episode where
  pipe : Nat
  line : Nat
  fsn : Nat
  audio : Bool
  since : Nat
deriving DecidableEq, Repr

/-- The twin unit besides its registers (R571 to R591): the own boot nonce and whether a peer nonce has been seen since reset; whether the
state copy has completed, the frames of CO_TLN since, the matching frames in a row of each timeline and those with a mismatch in the
frame in progress; the open episode; line CRCs that wait for their counterpart, own and peer's; the FSN of CO_TLN at whose switch line
this card takes or hands over the outputs, and whether by a yield; whether a change of ACTIVE_N waits for a switch line; whether REFC8 reads
QL 7 (R588); whether the skew is above 100 ns; format, structure and gang of the peer pipelines of crossfeed streams; determinism records
buffered during the copy; whether a copy has been asked for and none of it has come; the lifecycle states the copy gave outputs and jobs, set
when it completes. -/
structure TwnX where
  nonce : Nat
  nonceSeen : Bool
  copyDone : Bool
  frames : Nat
  good : Tab Nat
  missed : List Nat
  episode : Option Episode
  own : List LineCrc
  peer : List LineCrc
  takeAt : Option (Nat × Bool)
  handAt : Option (Nat × Bool)
  netPend : Bool
  ql7 : Bool
  skewHigh : Bool
  xfPeer : Tab (Nat × Nat × Bool)
  buffer : List DetRec
  fresh : Bool
  arm : List (Fld × Nat × Nat)
deriving DecidableEq, Repr

/-- The twin unit after reset. -/
def TwnX.reset : TwnX := ⟨0, false, false, 0, [], [], none, [], [], none, none, false, false, false, [], [], false, []⟩

/-- The state of the block. -/
structure State where
  /-- The fuses (R1, R598, R599). DESIGN CHOICE (assumption 2): reset describes a PRD9696A of stepping 1 with key 0 present, whose hash is that of a key of 32 zero bytes. -/
  fuses : Fuses
  /-- Straps and package inputs (R622, R628, R634, R644). -/
  pins : Pins
  /-- Nanoseconds of the management island's oscillator since power-up (R626, R639). -/
  now : Nat
  /-- Device epoch in nanoseconds: seconds times 10^9 plus nanoseconds (R471). -/
  epoch : Nat
  /-- Every register of BAR0, field by field. LNE.GL_CFG.WIDTH of TL0 resets to 8. -/
  regs : RegFile
  /-- HBM above the firmware reservation, addressed by BAR2 offset (R73). Unlisted bytes read 0 (assumption 3). -/
  hbm : Memory
  /-- Bytes that a cue thread has written into HBM and not fenced yet (R66), oldest first: thread, address, byte. The thread's own stream and the host see them; other streams see `hbm`. -/
  unfenced : List (Nat × Nat × Nat)
  /-- HBM words read with one bit in error, whose data came back corrected (R55). -/
  eccFixed : Nat
  /-- Events that the spec says a unit raises and for which it gives neither a flag nor a code (R51, R55), newest first. -/
  evts : List UnitEvt
  /-- The allocations of HBM (R54, R671). -/
  allocs : List Alloc
  /-- The object table, keyed by kind times 2^20 plus index (R25 to R29). -/
  objs : Tab Obj
  /-- The principal that opened each session (R77). -/
  sessPrin : Tab Nat
  /-- The ring context table, by index (R93). -/
  rings : Tab RingCtx
  /-- Event bindings: the ring handle bound to each source and code (R106, R107). -/
  binds : Tab Nat
  /-- The admin command taken from each function's ring and not completed (R101, R102). -/
  taken : Tab Taken
  /-- The 64-bit counter holding registers, by principal and register (R108, R109). -/
  hold : Tab Nat
  /-- The response of the last register access (R16). -/
  resp : Resp
  /-- The last admin completion (R101). -/
  cpl : Cpl
  /-- What has been sent to the outside, newest first. -/
  outs : List Out
  /-- Live or accepted uses of a revoked grant, with the handle: each ends at the next switch line of its unit (R79). -/
  revoked : List (StageKey × Nat)
  /-- The fixed units, by their places in the object table, that were released while they were not at rest and that take the settings of the defaults image when they are (R80, assumption 127). -/
  imageDue : List Nat
  /-- Lane and framer state, by lane index (R129, R164, R191 to R198). -/
  laneX : Tab LaneX
  /-- The equalisation entries loaded at BOOT, 3 for each lane index; none when the factory table applies (R135, R137). -/
  eqTable : Option (List Nat)
  /-- The LIMP bypass map record as loaded at BOOT (R153). -/
  limpMap : List Nat
  /-- Input port state, by port (R203 to R233). -/
  portX : Tab PortX
  /-- Sync contexts, by port times 16 plus timeline (R214). -/
  sync : Tab SyncCtx
  /-- The isochronous charge each consumer holds, in MB/s (R265); consumers are numbered in Machine/PlazaOps.lean. -/
  charges : Tab Nat
  /-- Crossfeed streams from the twin, by stream (R256). -/
  xfeed : Tab XStream
  /-- The first transparent line of a destination's street frame, and the cause (R253), as line times 16 plus cause. -/
  lineTr : Tab Nat
  /-- The handles the frame in progress of a pipeline (by number) or of a job (1,000 plus index) reads (R87). -/
  inUse : Tab (List Nat)
  /-- Consecutive switch lines with the lead of a port at a pipeline in the window of R251, by 96 times pipeline plus port. -/
  qual : Tab Nat
  /-- Arcade jobs, by the index of their handle (R271). -/
  jobs : Tab Job
  /-- Surfaces, by the index of their handle (R322). -/
  surfs : Tab Surf
  /-- Output pipeline state, by pipeline (R362 to R374). -/
  pipeX : Tab PipeX
  /-- Of the shared fetch units a layer holds, how many an accepted COMMIT that empties it has netted against what it takes (R320), by 8 × pipeline + layer. -/
  lentFetch : Tab Nat
  /-- The same of decode slots (R321). -/
  lentJxs : Tab Nat
  /-- The grid index G (R382); AUD.GRID shows it. -/
  grid : Nat
  /-- The grid offset GO in ns (R382). -/
  gridOfs : Int
  /-- Input groups, by 8 times port plus group (R387). -/
  grpX : Tab GrpX
  /-- The lip-sync state of each port (R390). -/
  lipX : Tab LipX
  /-- Source histories by source channel (R383, R386): the samples that are not 0, with their grid index, newest first. -/
  aHist : Tab (List (Nat × Int))
  /-- The histories of non-PCM pairs, by 16 times port plus pair: audio frames of LS_TLN, newest first (R405). -/
  npHist : Tab (List NpFrame)
  /-- Audio routes, by the index of their handle (R394). -/
  routeX : Tab RouteX
  /-- Audio frames in progress: of pipelines by number, of the timelines of tap slots at 200 plus number (R401). -/
  aFrames : Tab AFrame
  /-- Insert slots (R408). -/
  insX : Tab InsX
  /-- The sample frames a tap slot has gathered for its next entry, newest first (R409). -/
  tapX : Tab (List (List Int))
  /-- Cue threads, by number (R417). -/
  cueX : Tab CueX
  /-- The instructions of each program, by the index of its handle (R419). -/
  progs : Tab (List Nat)
  /-- Accepted staged values that are not live yet, in the order of their COMMITs (R438, R440). -/
  staged : List Staged
  /-- How many values have been accepted: the number of the next. -/
  stagedN : Nat
  /-- LATE and A_LATE events due at a switch line to come: timeline, FSN, key (R439). -/
  lateDue : List (Nat × Nat × StageKey)
  /-- Threads bound by power-on programs and not started yet, in record-tag order (R446). -/
  powerOn : List Nat
  /-- Determinism records received and not used yet (R582, R584), oldest first. -/
  recs : List DetRec
  /-- Determinism records sent for the current FSN of each timeline (R582). -/
  detN : Tab Nat
  /-- A determinism record is being applied: its request is not refused for MIRROR and answers nobody (R574, R582). -/
  replay : Bool
  /-- FSN and line of the last event that a cue engine has received of a timeline, by 16 times engine plus timeline (R424, R435). -/
  engEvt : Tab (Nat × Nat)
  /-- Timeline generators, by number (R477). -/
  tln : Tab Tln
  /-- Reference candidates, by number (R454 to R473). -/
  candX : Tab CandX
  /-- The DPLL, the holdover history and manual steering (R464 to R471). -/
  refX : RefX
  /-- The PTP port (R487, R488). -/
  ptpX : PtpX
  /-- The base and limit of each firewall region as they are in force (R509, R512). -/
  fwX : Tab (Nat × Nat)
  /-- The pixels whose HBM read met an uncorrectable error (R55), as (column, row): of layer l of pipeline n at 8 n + l, for the frame in progress; of the source of a job at 1,000 plus its index, for the frame it begins next. -/
  eccPix : Tab (List (Nat × Nat))
  /-- The locked sequences (R501, R502), by 64 × segment + master port; true once the lock is broken. -/
  locks : Tab Bool
  /-- The notices each mailbox holds, oldest first (R514). -/
  mbq : Tab (List Notice)
  /-- Notices forwarded to the peer whose completion has not come back: j of MB12 + j and the notice (R578). -/
  mbAir : List (Nat × Notice)
  /-- The message of the physical function that firmware is serving (R530). -/
  fwMsg : Option Notice
  /-- Replies refused with SC_BUSY, with the retries made (R530). -/
  fwReplies : List (Notice × Nat)
  /-- The last reading of each temperature sensor, as MGT.TEMP codes it (R633). -/
  temps : Tab Nat
  /-- The persistent store (R535, R543). DESIGN CHOICE (assumption 41): a new device's banks are not complete, so it is blank. -/
  nvs : Nvs
  /-- Self-check evidence: time on the island clock, bit, port (0 where none), whether it is the peer's; newest first (R587). -/
  evid : List (Nat × Nat × Nat × Bool)
  /-- The difference of IFCs between the primary and this card, modulo 2^32, by port (R583). -/
  ifcMap : Tab Nat
  /-- The twin unit (R571 to R591). -/
  twnX : TwnX
  /-- While a frame is processed for which no END record came: the secondary makes its own decisions (R584). -/
  decOwn : Bool
  /-- Switch lines, as timeline and FSN, whose processing waits for the END record (R584). -/
  swPend : List (Nat × Nat)
  /-- The DIGEST field of the accepted image (R601, R612); empty before one is accepted. -/
  imgDigest : List Nat
  /-- The rollback count the burn in progress ends at (R608); 0 when none is in progress. -/
  burnTo : Nat
  /-- Attestation reports to be signed, oldest first: function and nonce (R613, R615). -/
  attQ : List (Nat × List Nat)
  /-- The domains, by number; unlisted domains are ON with no reset counted (R617, R618). -/
  dom : Tab Dom
  /-- STATUS of MSPI (0) and SMBus (1) (R637). -/
  ports : Tab PortStat
  /-- LIMP was entered by a thermal trip: bypass operations fail (R634). -/
  limpLatch : Bool
  /-- The function whose MODE_SET the transition in progress completes (R630), plus 1; 0 none. -/
  modeFrom : Nat
  /-- Consecutive timeouts of each control-fabric segment (R506). -/
  segRun : Tab Nat
  /-- The steps of power-up done, one bit each: 0 fuse load, 1 image check, 2 HBM training, 3 lockstep check (R626). -/
  bootStep : Nat
  /-- Control core pairs that do not run, one bit each: stopped (R62, R627), or in a reset and not rejoined (R623). -/
  pairStop : Nat
  /-- The image fields of the registers as the defaults image left them at the last BOOT; a domain reset loads them (R623). -/
  image : RegFile
  /-- The SERVICE test that runs: its TEST code and domain (R631). -/
  svcRun : Option (Nat × Nat)
  /-- The thermal warning has been raised and has not cleared (R633). -/
  warned : Bool
  /-- The boundary-scan cells, by lane (R657, IEEE 1149.1): what was captured or shifted in last. DESIGN CHOICE (assumption 147): 0 at reset. -/
  scanCells : Tab Nat
  /-- Whether a boundary-scan instruction makes the cells drive the lanes (R657, IEEE 1149.1). -/
  scanTest : Bool
  /-- The number of free values drawn so far: each value the spec leaves open takes the next (assumption 1). -/
  free : Nat
  /-- The commands that are waiting, first in, first out. -/
  pending : List Instr
deriving DecidableEq, Repr

/-- The machine right after reset: power-up step 1 of R626, before any command. -/
def State.reset : State where
  fuses := ⟨0x11, 1, 0, 0, 0, 0, [], 1, 0, 0, [[80, 70, 173, 193, 219, 168, 56, 134, 123, 43, 187, 253, 208, 195, 66, 62, 88, 181, 121, 112, 181, 38, 122, 144, 245, 121, 96, 146, 74, 135, 241, 150]], [], none, []⟩
  pins := ⟨0, false, true, true, false, 0, false, false⟩
  now := 0
  epoch := 0
  regs := [(32 * 0x00100140 + 28, [(96, [(0, 8)])])]
  hbm := []
  unfenced := []
  eccFixed := 0
  evts := []
  allocs := []
  objs := []
  sessPrin := []
  rings := []
  binds := []
  taken := []
  hold := []
  resp := ⟨0, 0⟩
  cpl := ⟨0, 0, 0, 0, 0, 0⟩
  outs := []
  revoked := []
  imageDue := []
  laneX := []
  eqTable := none
  limpMap := []
  portX := []
  sync := []
  charges := []
  xfeed := []
  lineTr := []
  inUse := []
  qual := []
  jobs := []
  surfs := []
  pipeX := []
  lentFetch := []
  lentJxs := []
  grid := 0
  gridOfs := 0
  grpX := []
  lipX := []
  aHist := []
  npHist := []
  routeX := []
  aFrames := []
  insX := []
  tapX := []
  cueX := []
  progs := []
  staged := []
  stagedN := 0
  lateDue := []
  powerOn := []
  recs := []
  detN := []
  replay := false
  engEvt := []
  tln := []
  candX := []
  refX := ⟨0, 0, 0, 4, [], none, [], none, 0⟩
  ptpX := ⟨[], none, none, none, none, 0, none, 0⟩
  fwX := []
  eccPix := []
  locks := []
  mbq := []
  mbAir := []
  fwMsg := none
  fwReplies := []
  temps := []
  nvs := ⟨[], ⟨[], none⟩, ⟨[], none⟩, 0, none⟩
  evid := []
  ifcMap := []
  twnX := TwnX.reset
  decOwn := false
  swPend := []
  imgDigest := []
  burnTo := 0
  attQ := []
  dom := []
  ports := []
  limpLatch := false
  modeFrom := 0
  segRun := []
  bootStep := 0
  pairStop := 0
  image := []
  svcRun := none
  warned := false
  scanCells := []
  scanTest := false
  free := 0
  pending := []

end Sys2Proof.Machine
end

