-- ==== Sys2Proof/Machine/Ops.lean ====
section
/-! DEFINITION. The named operations over the state: registers, memory, the variant, time, status codes, the object table, HBM
allocation, rings, events, the fabric error log, the fault log, admin completions. Every meaning is written over these. -/

namespace Sys2Proof.Machine

open Sys2Proof

/-- The outcome of a command. -/
abbrev Res := Host.Outcome State Fault Refusal

/-! ### Registers -/

/-- The number of a field in the register file. -/
def Fld.key (f : Fld) : Nat := 32 * f.base + f.lo

/-- The value of field `f` of unit `u`, index `k` within the unit. -/
def regGet (rf : RegFile) (f : Fld) (u k : Nat) : Nat :=
  tget f.rst (tget [] (tget [] rf (Fld.key f)) u) k

/-- Set field `f` of unit `u`, index `k`, to the low bits of `v`. -/
def regSet (rf : RegFile) (f : Fld) (u k v : Nat) : RegFile :=
  tset [] rf (Fld.key f)
    (tset [] (tget [] rf (Fld.key f)) u
      (tset f.rst (tget [] (tget [] rf (Fld.key f)) u) k (v % 2 ^ f.width)))

/-- Return to reset every field of unit `u` whose register offset satisfies `p`. -/
def regClear (rf : RegFile) (p : Nat → Bool) (u : Nat) : RegFile :=
  rf.filterMap fun e =>
    if p (e.1 / 32) then (if tdel e.2 u = [] then none else some (e.1, tdel e.2 u)) else some e

/-- Return to reset every field whose register offset satisfies `p`, in every unit. -/
def regClearAll (rf : RegFile) (p : Nat → Bool) : RegFile := rf.filter fun e => !p (e.1 / 32)

/-- Read a field of unit `u`, index `k`. -/
def State.rdk (s : State) (f : Fld) (u k : Nat) : Nat := regGet s.regs f u k

/-- Read a field of unit `u`. -/
def State.rd (s : State) (f : Fld) (u : Nat) : Nat := s.rdk f u 0

/-- Write a field of unit `u`, index `k`. -/
def State.wrk (s : State) (f : Fld) (u k v : Nat) : State := { s with regs := regSet s.regs f u k v }

/-- Write a field of unit `u`. -/
def State.wr (s : State) (f : Fld) (u v : Nat) : State := s.wrk f u 0 v

/-- Add `n` to a counter field, saturating at its largest value. -/
def State.addSat (s : State) (f : Fld) (u k n : Nat) : State := s.wrk f u k (satAdd f.width (s.rdk f u k) n)

/-- Add 1 to a counter field, saturating. -/
def State.inc (s : State) (f : Fld) (u : Nat) : State := s.addSat f u 0 1

/-- A one-bit field as a truth value. -/
def State.on (s : State) (f : Fld) (u : Nat) : Bool := s.rd f u == 1

/-- Return the registers of unit `u` in the offsets `lo` to `hi - 1` to reset. -/
def State.clearUnit (s : State) (lo hi u : Nat) : State :=
  { s with regs := regClear s.regs (fun b => decide (lo ≤ b) && decide (b < hi)) u }

/-- Return the registers in the offsets `lo` to `hi - 1` to reset, in every unit. -/
def State.clearBlock (s : State) (lo hi : Nat) : State :=
  { s with regs := regClearAll s.regs (fun b => decide (lo ≤ b) && decide (b < hi)) }

/-- A number from a condition. -/
def b2n (b : Bool) : Nat := if b then 1 else 0

/-! ### The variant (R1 to R8) -/

/-- One row of the family table (R1). -/
structure VariantRow where
  lanes : Nat
  engines : Nat
  hbmStacks : Nat
  audio : Bool
  twin : Bool
  stencil : Bool
  screened : Bool
deriving DecidableEq, Repr

/-- The family table, by variant code (R1). A code that is in no row of the table has no unit. -/
def variantRow : Nat → VariantRow
  | 0x11 => ⟨96, 32, 2, true, true, true, false⟩
  | 0x12 => ⟨96, 16, 2, true, true, true, false⟩
  | 0x13 => ⟨96, 0, 1, true, true, false, false⟩
  | 0x19 => ⟨96, 32, 2, true, true, true, true⟩
  | 0x21 => ⟨64, 24, 2, true, true, true, false⟩
  | 0x22 => ⟨64, 8, 1, true, true, true, false⟩
  | 0x23 => ⟨64, 0, 1, true, false, false, false⟩
  | 0x31 => ⟨48, 16, 1, true, true, true, false⟩
  | 0x32 => ⟨48, 8, 1, true, false, true, false⟩
  | 0x33 => ⟨48, 0, 1, false, false, false, false⟩
  | 0x41 => ⟨32, 8, 1, true, true, true, false⟩
  | 0x43 => ⟨32, 0, 1, false, false, false, false⟩
  | _ => ⟨0, 0, 1, false, false, false, false⟩

/-- The row of this device; after a failed fuse load lanes L32 and above and the Twin link count as absent (R599). -/
def State.row (s : State) : VariantRow :=
  if s.fuses.badRow.isSome then { variantRow s.fuses.variant with lanes := 32, twin := false } else variantRow s.fuses.variant

/-- Lanes, input ports and output pipelines present (R2). -/
def State.lanes (s : State) : Nat := s.row.lanes
/-- Arcade engines present (R3). -/
def State.engines (s : State) : Nat := s.row.engines
/-- Whether the Twin link is present (R5). -/
def State.twin (s : State) : Bool := s.row.twin
/-- Whether Stencil and Skim are present (R6). -/
def State.stencil (s : State) : Bool := s.row.stencil
/-- Whether the audio unit is present (R7). -/
def State.audio (s : State) : Bool := s.row.audio
/-- The HBM the host can reach, in bytes: what is installed less the firmware reservation of 1 GiB (R52, R54). -/
def State.hbmBytes (s : State) : Nat := (24 * s.row.hbmStacks - 1) * 2 ^ 30
/-- The total Arcade credits (ID.CAP_POOLS.CREDITS). -/
def State.credits (s : State) : Nat := s.engines * 1600
/-- The shared layer fetch units (R11). -/
def State.fetchShared (s : State) : Nat := 384 - s.lanes * (if s.stencil then 2 else 1)
/-- Whether a lane index is present: video lanes below LANES, twin lanes 96 to 103 with a Twin link, the timing lane 104 (R2, R5, R117). -/
def State.lanePresent (s : State) (i : Nat) : Bool :=
  if i < 96 then decide (i < s.lanes) else if i < 104 then s.twin else i == 104
/-- Whether a cue thread is present (R4). -/
def State.threadPresent (s : State) (t : Nat) : Bool :=
  if t < 96 then decide (t < s.lanes) else if t < 128 then decide (t - 96 < s.engines) else decide (t < 160)

/-! ### Status codes (R19, R20) -/

/-- The status codes (R19). -/
inductive Status where
  | ok | badHandle | wrongKind | noContext | unitAbsent | unitRunning | lenExceeds | busy | protected' | notReady | domainOff
  | decode | bandwidth | late | draining | auth | eccUncorr | mode | noMemory | timeline
deriving DecidableEq, Repr

/-- The value of a status code (R19). -/
def Status.code : Status → Nat
  | .ok => 0 | .badHandle => 1 | .wrongKind => 2 | .noContext => 3 | .unitAbsent => 4 | .unitRunning => 5
  | .lenExceeds => 6 | .busy => 7 | .protected' => 8 | .notReady => 9 | .domainOff => 0xA | .decode => 0xB
  | .bandwidth => 0xC | .late => 0xD | .draining => 0xE | .auth => 0xF | .eccUncorr => 0x10 | .mode => 0x11
  | .noMemory => 0x12 | .timeline => 0x13

/-- The place of a status in the order of the checks; lower is reported first (R20, R21). -/
def Status.rank : Status → Nat
  | .decode => 1 | .unitAbsent => 2 | .domainOff => 3 | .notReady => 4 | .mode => 5 | .auth => 6 | .protected' => 7
  | .badHandle => 8 | .wrongKind => 9 | .draining => 10 | .unitRunning => 11 | .lenExceeds => 12 | .timeline => 13
  | .noContext => 14 | .noMemory => 15 | .bandwidth => 16 | .busy => 17 | .late => 18 | .eccUncorr => 19 | .ok => 20

/-- The first of two statuses in the order of R20. -/
def Status.first (a b : Status) : Status := if b.rank < a.rank then b else a

/-- The first failing check of a list of (fails, status) pairs, in the order of R20; OK when none fails. -/
def check (l : List (Bool × Status)) : Status :=
  l.foldl (fun a e => if e.1 then Status.first a e.2 else a) .ok

/-! ### Principals (R23) -/

/-- The management port. -/
def pMgmt : Nat := 0x01
/-- The PCIe physical function. -/
def pPF : Nat := 0x10
/-- The twin peer. -/
def pTwin : Nat := 0x20
/-- Debug (JTAG). -/
def pDebug : Nat := 0x30
/-- Whether a principal is a control core (0x02 to 0x05). -/
def isCore (p : Nat) : Bool := decide (2 ≤ p) && decide (p ≤ 5)
/-- Whether a principal is a virtual function (0x11 to 0x1F). -/
def isVF (p : Nat) : Bool := decide (0x11 ≤ p) && decide (p ≤ 0x1F)
/-- Whether a principal is a PCIe function. -/
def isFn (p : Nat) : Bool := decide (0x10 ≤ p) && decide (p ≤ 0x1F)
/-- Whether a principal is one the hardware stamps (R23). -/
def isPrincipal (p : Nat) : Bool := p == 1 || isCore p || isFn p || p == 0x20 || p == 0x30

/-- The master port whose number the error log holds for a principal on the lifecycle or host path (R492). -/
def masterOf (p : Nat) : Nat :=
  if isFn p then p - 0x10 else if p == 2 || p == 3 then 0x10 else if p == 4 || p == 5 then 0x11
  else if p == 1 then 0x12 else if p == 0x20 then 0x13 else 0x14

/-! ### Modes (R67, R629) -/

/-- The operating mode code (R629). -/
def State.modeCode (s : State) : Nat := s.rd R.MGT_MODE_MODE 0
def mBOOT : Nat := 0
def mIDLE : Nat := 1
def mRUN : Nat := 2
def mMIRROR : Nat := 3
def mLIMP : Nat := 4
def mSERVICE : Nat := 5

/-! ### Time -/

/-- The device epoch as an event entry carries it: [63:32] low 32 bits of seconds, [31:0] nanoseconds (R107). -/
def State.epochStamp (s : State) : Nat :=
  (s.epoch / 1000000000 % 2 ^ 32) * 2 ^ 32 + s.epoch % 1000000000

/-- Whether the epoch runs (R471). -/
def State.epochRuns (s : State) : Bool := s.on R.REF_STAT_EPOCH_RUN 0
/-- What the device epoch gains while `d` ns pass on the island's oscillator: it runs at the rate of the DCO, which the steering s sets (R467, R471). -/
def State.dcoNs (s : State) (d : Nat) : Nat :=
  let r := ((1000000000000 : Int) + s.refX.steer).toNat
  (s.now + d) * r / 1000000000000 - s.now * r / 1000000000000
/-- Time passes until the epoch reads at least `t`, at the rate of the DCO (R471). -/
def State.epochTo (s : State) (t : Nat) : State :=
  if s.epoch < t then
    { s with epoch := t, now := s.now + (t - s.epoch) * 1000000000000 / ((1000000000000 : Int) + s.refX.steer).toNat }
  else s

/-- The device-epoch nanoseconds part that the error log records (R508). -/
def State.epochNs (s : State) : Nat := s.epoch % 1000000000

/-! ### Free values -/

/-- The state after one free value has been drawn. The value itself is a constant of Config applied to `s.free`. -/
def State.drawn (s : State) : State := { s with free := s.free + 1 }

/-! ### HBM (R52 to R73) -/

/-- What a byte of HBM that nothing has written reads as (assumption 3). -/
def memFill : Byte := 0

/-- Read one byte of HBM. -/
def memRead (m : Memory) (a : Nat) : Byte := tget memFill m a

/-- Write one byte of HBM. -/
def memWrite (m : Memory) (a : Nat) (b : Byte) : Memory := tset memFill m a b

/-- Write consecutive bytes. -/
def memWriteBytes (m : Memory) (a : Nat) : List Nat → Memory
  | [] => m
  | b :: t => memWriteBytes (memWrite m a (BitVec.ofNat 8 b)) (a + 1) t

/-- Read `n` consecutive bytes. -/
def memReadBytes (m : Memory) (a : Nat) : Nat → List Nat
  | 0 => []
  | n + 1 => (memRead m a).toNat :: memReadBytes m (a + 1) n

/-- Return the bytes `a` to `a + n - 1` to what nothing has written (R672). -/
def memClear (m : Memory) (a n : Nat) : Memory := m.filter fun c => !(decide (a ≤ c.1) && decide (c.1 < a + n))

/-- The canonical form of HBM: rising addresses, no byte equal to what an unlisted address reads as. -/
def memWf (m : Memory) : Bool := tsorted m && m.all (fun c => c.2 ≠ memFill)

/-! ### Handles and the object table (R25 to R29, R78 to R91) -/

/-- Kinds of handle (R28). -/
def kInput : Nat := 1
def kPipe : Nat := 2
def kJob : Nat := 3
def kSurface : Nat := 4
def kRing : Nat := 5
def kProgram : Nat := 6
def kRoute : Nat := 7
def kCand : Nat := 8
def kClone : Nat := 9
def kSkim : Nat := 0xA
def kSession : Nat := 0xB
def kTimeline : Nat := 0xC

/-- The kind of a handle (R25). -/
def hKind (h : Nat) : Nat := bitsOf h 27 5
/-- The generation of a handle (R25). -/
def hGen (h : Nat) : Nat := bitsOf h 20 7
/-- The index of a handle (R25). -/
def hIdx (h : Nat) : Nat := bitsOf h 0 20
/-- The handle of a kind, generation and index (R25). -/
def mkHandle (kind gen idx : Nat) : Nat := kind * 2 ^ 27 + gen * 2 ^ 20 + idx

/-- The capacity of a kind on this variant (R28). -/
def State.capacity (s : State) (kind : Nat) : Nat :=
  if kind == kInput || kind == kPipe then s.lanes
  else if kind == kJob then (if s.engines == 0 then 0 else 256)
  else if kind == kSurface then 262144 else if kind == kRing then 65536 else if kind == kProgram then 4096
  else if kind == kRoute then (if s.audio then 4096 else 0)
  else if kind == kCand then 12 else if kind == kClone then 96
  else if kind == kSkim then (if s.stencil then 96 else 0)
  else if kind == kSession then 1024 else if kind == kTimeline then 16 else 0

/-- The place of an index of a kind in the object table. -/
def objKey (kind idx : Nat) : Nat := kind * 2 ^ 20 + idx

/-- Whether a kind is a fixed unit (R80). -/
def isFixed (kind : Nat) : Bool := kind == kInput || kind == kPipe || kind == kCand || kind == kTimeline

/-- What an index is when nothing has been recorded for it: a fixed unit is held by the firmware session under generation 1
(R80, R86); any other index is free and its first issue has generation 1 (R26, R85). Session 0 is firmware's and live (R76). -/
def objDefault (kind idx : Nat) : Obj :=
  if isFixed kind then ⟨1, true, false, 0, [], false⟩
  else if kind == kSession && idx == 0 then ⟨1, true, false, 0, [], false⟩
  else ⟨0, false, false, 0, [], false⟩

/-- The object at an index of a kind. -/
def State.obj (s : State) (kind idx : Nat) : Obj := tget (objDefault kind idx) s.objs (objKey kind idx)

/-- Record the object at an index of a kind. -/
def State.setObj (s : State) (kind idx : Nat) (o : Obj) : State :=
  { s with objs := tput s.objs (objKey kind idx) o }

/-- The generation that follows `g` (R26). -/
def nextGen (g : Nat) : Nat := if g ≥ 127 then 1 else g + 1

/-- The handle of a live index with its current generation. -/
def State.handleOf (s : State) (kind idx : Nat) : Nat := mkHandle kind (s.obj kind idx).gen idx

/-- Whether a handle is null, stale or outside the capacity of its kind (R27). -/
def State.badHandle (s : State) (h : Nat) : Bool :=
  h == 0 || decide (s.capacity (hKind h) ≤ hIdx h) || !(s.obj (hKind h) (hIdx h)).live
    || (s.obj (hKind h) (hIdx h)).gen != hGen h

/-- Whether a handle names a unit that is absent on the variant: a port or pipeline from LANES to 95 (R2), REFC8 without a Twin link (R450), a Skim
set without Stencil and Skim (R6), an audio route without an audio unit (R7). R17 and R20 judge it before the handle's generation and capacity. -/
def State.absentHandle (s : State) (h : Nat) : Bool :=
  let k := hKind h
  let i := hIdx h
  ((k == kInput || k == kPipe) && decide (s.lanes ≤ i) && decide (i < 96)) || (k == kCand && i == 8 && !s.twin)
    || (k == kSkim && !s.stencil && decide (i < 96)) || (k == kRoute && !s.audio && decide (i < 4096))

/-- The object a handle names. -/
def State.hobj (s : State) (h : Nat) : Obj := s.obj (hKind h) (hIdx h)

/-- Whether a handle is DRAINING (R89). -/
def State.isDraining (s : State) (h : Nat) : Bool := (s.hobj h).draining

/-- Whether session `ss` (an index) owns the object of a handle (R78). -/
def State.owns (s : State) (ss h : Nat) : Bool := (s.hobj h).owner == ss

/-- Whether session `ss` may read the object of a handle: it owns it or holds a grant of it (R78, R79). -/
def State.mayRead (s : State) (ss h : Nat) : Bool := s.owns ss h || (s.hobj h).grants.contains ss

/-- The lowest free index of a kind at or above `lo` (R84). -/
def State.freeIndex (s : State) (kind lo : Nat) : Option Nat :=
  firstFree (fun i => !(s.obj kind i).live) lo (s.capacity kind - lo)

/-- Issue an index of a kind to a session: the generation increments (R26), and the object is live. -/
def State.issue (s : State) (kind idx owner : Nat) : State :=
  s.setObj kind idx ⟨nextGen (s.obj kind idx).gen, true, false, owner, [], s.modeCode == mSERVICE⟩

/-- The principal bound to a session (R77): firmware's own session is control core pair 0's. -/
def State.prinOf (s : State) (ss : Nat) : Nat := if ss == 0 then 2 else tget 0 s.sessPrin ss

/-- Whether a handle names what belongs to another session, or a session of another principal (R77, R78). -/
def State.foreign (s : State) (ss h : Nat) : Bool :=
  if hKind h = kSession then s.prinOf (hIdx h) != s.prinOf ss else !s.owns ss h

/-- The checks of a handle that session `ss` names (R17, R20, R27, R77, R78): `wrong` says that its kind is not one the request takes. Ownership is
judged whatever the kind, since R20 puts SC_PROTECTED before SC_WRONG_KIND. -/
def State.handleChecks (s : State) (ss h : Nat) (wrong : Bool) : List (Bool × Status) :=
  [ (s.absentHandle h, .unitAbsent), (s.badHandle h, .badHandle), (!s.badHandle h && s.foreign ss h, .protected'), (!s.badHandle h && wrong, .wrongKind) ]

/-- As `handleChecks`, for a request that also refuses a DRAINING handle (R90). -/
def State.liveChecks (s : State) (ss h : Nat) (wrong : Bool) : List (Bool × Status) :=
  s.handleChecks ss h wrong ++ [ (!s.badHandle h && s.isDraining h, .draining) ]

/-- The function whose address space and MSI-X vectors a session uses. -/
def State.fnOf (s : State) (ss : Nat) : Nat := s.prinOf ss - 0x10

/-! ### HBM allocation (R54, R671, R672) -/

/-- Whether `[b, b + n)` lies in the HBM handed out and meets no allocation. -/
def State.isFreeRange (s : State) (b n : Nat) : Bool :=
  decide (b + n ≤ s.hbmBytes) && s.allocs.all (fun a => decide (a.base + a.len ≤ b) || decide (b + n ≤ a.base))

/-- A place for `n` bytes: the device's own choice where it is a free aligned place, else the first that fits (R671). -/
def State.findPlace (s : State) (n align : Nat) : Option Nat :=
  if Config.place s.free * 65536 % align = 0 ∧ s.isFreeRange (Config.place s.free * 65536) n then some (Config.place s.free * 65536)
  else ((0 :: s.allocs.map (fun a => roundUp (a.base + a.len) align)).find? (fun b => s.isFreeRange b n))

/-- The unfenced bytes that a later write of `n` bytes at `a` leaves. -/
def State.unfencedBut (s : State) (a n : Nat) : List (Nat × Nat × Nat) :=
  s.unfenced.filter fun e => !(decide (a ≤ e.2.1) && decide (e.2.1 < a + n))

/-- Allocate `n` bytes for an object key, on a boundary of `align` (64 KiB, or 1 MiB for a parameter area, R671). The memory
behind it holds nothing (R672). `none` when nothing fits (R54). -/
def State.allocate (s : State) (n align key : Nat) (hidden readOnly : Bool) : Option (Nat × State) :=
  match s.findPlace n align with
  | none => none
  | some b =>
    some (b, { s with allocs := s.allocs ++ [⟨b, n, key, hidden, readOnly⟩],
                      hbm := memClear s.hbm b n, unfenced := s.unfencedBut b n, free := s.free + 1 })

/-- Free every allocation of an object key. -/
def State.release (s : State) (key : Nat) : State := { s with allocs := s.allocs.filter (fun a => a.key ≠ key) }

/-! ### The fabric error log (R507, R508) -/

/-- Write one entry into the fabric error log and count it (R507, R508). -/
def State.logErr (s : State) (st : Status) (p master : Nat) (write hbmSpace : Bool) (addr xinfo : Nat) : State :=
  let n := s.rd R.FAB_ERR_WR_INDEX 0
  let e := n % 64
  let s := s.wr R.FAB_ERR_INFO_INFO e (st.code * 2 ^ 16 + p * 2 ^ 8 + master * 4 + b2n write * 2 + b2n hbmSpace)
  let s := s.wr R.FAB_ERR_ADDR_ADDR_LO e (addr % 2 ^ 32)
  let s := s.wr R.FAB_ERR_XINFO_XINFO e (xinfo + addr / 2 ^ 32 % 256)
  let s := s.wr R.FAB_ERR_TIME_NS e s.epochNs
  let s := s.wr R.FAB_ERR_WR_INDEX 0 (n + 1)
  s.inc R.FAB_ERR_CNT_COUNT 0

/-! ### Events (R31, R32, R107) -/

/-- The occurrence counter of bit `bit` of an event register whose first occurrence word lies at `occ`: two 16-bit counters a
word, the even bit low (R32). -/
def occFld (occ bit : Nat) : Fld := ⟨occ + 4 * (bit / 2), 16 * (bit % 2), 16, 0, .ro⟩

/-- Set a flag and count the occurrence (R31, R32). -/
def State.flag (s : State) (evt : Fld) (occ u k bit : Nat) : State :=
  (s.wrk evt u k (setBit (s.rdk evt u k) bit)).addSat (occFld occ bit) u k 1

/-! ### The firewall regions (R509) -/

/-- The enabled regions, lowest first. -/
def State.fwOn (s : State) : List Nat := ((tget [] s.regs (Fld.key R.FAB_FW_BASE_HI_ENABLE)).map (·.1)).filter (fun r => decide (r < 512))

/-- Whether firewall region `r` refuses an access to `n` bytes (R509): space 0 BAR0, 1 HBM. -/
def State.fwHit (s : State) (r p space a n : Nat) (write : Bool) : Bool :=
  s.on R.FAB_FW_BASE_HI_ENABLE r && s.rd R.FAB_FW_BASE_HI_SPACE r == space
    && decide ((tget (0, 0) s.fwX r).1 < a + n) && decide (a ≤ (tget (0, 0) s.fwX r).2)
    && (write || s.on R.FAB_FW_BASE_HI_RD_LOCK r)
    && (s.rd R.FAB_FW_BASE_HI_OWNER r == 0 || s.rd R.FAB_FW_BASE_HI_OWNER r != p)

/-- A write of FAB.FW_BASE_HI takes effect with the other words of its entry (R512): base and limit come into force. -/
def State.fwTake (s : State) (r : Nat) : State :=
  { s with fwX := tset (0, 0) s.fwX r (s.rd R.FAB_FW_BASE_LO_BASE r + s.rd R.FAB_FW_BASE_HI_BASE r * 2 ^ 32,
                                       s.rd R.FAB_FW_LIM_LO_LIMIT r + s.rd R.FAB_FW_LIM_HI_LIMIT r * 2 ^ 32) }

/-- The lowest region that refuses an access (R509). -/
def State.fwRefuses (s : State) (p space a n : Nat) (write : Bool) : Option Nat := s.fwOn.find? (fun r => s.fwHit r p space a n write)

/-- A refusal by region `r` is logged, counted and raises FW_DENY (R509, R513). -/
def State.fwLog (s : State) (r p master : Nat) (write hbmSpace : Bool) (a : Nat) : State :=
  ((s.logErr .protected' p master write hbmSpace a (2 ^ 29 + r * 2 ^ 20)).inc R.FAB_FW_DENY_COUNT 0).flag R.FAB_EVT_FLAGS 0x00020034 0 0 2

/-- Store bytes of HBM for every stream. -/
def State.hbmStore (s : State) (a : Nat) (bytes : List Nat) : State :=
  { s with hbm := memWriteBytes s.hbm a bytes, unfenced := s.unfencedBut a bytes.length }

/-- Store bytes of HBM as cue thread `t`: other streams see them after its FENCE (R66). -/
def State.hbmStage (s : State) (t a : Nat) (bytes : List Nat) : State :=
  { s with unfenced := s.unfenced ++ (upFrom 0 bytes.length).map (fun i => (t, a + i, bytes.getD i 0)) }

/-- HBM as the host reads it: the ordering of BAR2 shows it what has been written, fenced or not (R66). -/
def State.hbmHost (s : State) : Memory := s.unfenced.foldl (fun m e => memWrite m e.2.1 (BitVec.ofNat 8 e.2.2)) s.hbm

/-- FENCE of thread `t`: what it has written is visible to every stream (R66). -/
def State.hbmFence (s : State) (t : Nat) : State :=
  { s with hbm := (s.unfenced.filter (fun e => e.1 == t)).foldl (fun m e => memWrite m e.2.1 (BitVec.ofNat 8 e.2.2)) s.hbm,
           unfenced := s.unfenced.filter (fun e => e.1 != t) }

/-- Write bytes of HBM as principal `p` through the firewall; a refused write writes nothing and is recorded (R509). Writers inside the
device other than cue threads have no principal (0). `w` is the cue thread that writes, none for a unit or for firmware. -/
def State.hbmPut (s : State) (w : Option Nat) (p master a : Nat) (bytes : List Nat) : State :=
  match s.fwRefuses p 1 a bytes.length true with
  | some r => s.fwLog r p master true true a
  | none => match w with
    | some t => s.hbmStage t a bytes
    | none => s.hbmStore a bytes

/-- The place of a source and code in the binding table. SELECT, DPLL_STATE and EPOCH_STEP have one binding for all candidates (R489). -/
def bindKey (kind idx code : Nat) : Nat :=
  objKey kind (if kind = 8 ∧ 0x0904 ≤ code then 0 else idx) * 2 ^ 16 + code

/-- The number of entries a ring holds (R94). -/
def ringUsed (r : RingCtx) : Nat := (r.pi + 2 ^ 32 - r.ci) % 2 ^ 32
/-- The entry size in bytes (R93). -/
def entrySize (r : RingCtx) : Nat := 16 * 2 ^ r.esize
/-- Whether a ring is full (R94). -/
def ringFull (r : RingCtx) : Bool := decide (2 ^ r.size ≤ ringUsed r)
/-- The address of entry `n` (R94). -/
def entryAddr (r : RingCtx) (n : Nat) : Nat := r.base + n % 2 ^ r.size * entrySize r

/-- Record the context of a ring. -/
def State.setRing (s : State) (i : Nat) (r : RingCtx) : State := { s with rings := tput s.rings i r }

/-- Send something to the outside. -/
def State.send (s : State) (o : Out) : State := { s with outs := o :: s.outs }

/-- The function whose address space a ring lies in and whose vectors it sends: that of the pair for the rings of an admin queue, else that of
the owning session (R93, R100). -/
def State.ringFn (s : State) (r : RingCtx) : Nat := if hIdx r.handle < 32 then hIdx r.handle / 2 else s.fnOf (hIdx r.owner)

/-- The session that bound a thread, as an index. -/
def State.cueSess (s : State) (t : Nat) : Nat := hIdx (s.rd R.CUE_SESS_HANDLE t)

/-- The principal and the port of a write into HBM: a cue thread's are those of its binding session and of its engine's lifecycle path (R492); other
writers inside the device have none. -/
def State.writerOf (s : State) : Option Nat → Nat × Nat
  | some t => (s.prinOf (s.cueSess t), 0x20 + t / 16)
  | none => (0, 0)

/-- Write bytes where a ring lies: HBM, or host memory of the owner's function (R93); a card in MIRROR does not write rings in host memory
other than its admin rings (R580). -/
def State.ringWrite (s : State) (w : Option Nat) (r : RingCtx) (n : Nat) (bytes : List Nat) : State :=
  if r.host ∧ s.modeCode = mMIRROR ∧ 32 ≤ hIdx r.handle then s
  else if r.host then s.send (.hostWrite (s.ringFn r) (entryAddr r n) bytes)
  else s.hbmPut w (s.writerOf w).1 (s.writerOf w).2 (entryAddr r n) bytes

/-- The device writes one entry into a ring it produces: a full ring drops it (R97); an armed ring sends its message and
clears IRQ_ARMED (R99). `quiet` suppresses the message (FLAGS.QUIET of a command); `w` is the cue thread that writes, if one does. -/
def State.ringPushBy (s : State) (w : Option Nat) (i : Nat) (bytes : List Nat) (quiet : Bool) : State :=
  match tfind s.rings i with
  | none => s
  | some r =>
    if ringFull r then
      s.setRing i { r with overflow := true, occ := satAdd 16 r.occ 1, drops := satAdd 32 r.drops 1 }
    else
      let s := s.ringWrite w r r.pi bytes
      let s := s.setRing i { r with pi := (r.pi + 1) % 2 ^ 32, armed := r.armed && quiet }
      if r.armed && !quiet then s.send (.msix (s.ringFn r) r.vector) else s

/-- A unit or firmware writes one entry into a ring. -/
def State.ringPush (s : State) (i : Nat) (bytes : List Nat) (quiet : Bool) : State := s.ringPushBy none i bytes quiet

/-- The 32 bytes of an event entry (R107). -/
def eventEntry (source code status fsn line occ time arg : Nat) : List Nat :=
  leBytes 4 source ++ leBytes 2 code ++ leBytes 2 status ++ leBytes 4 fsn ++ leBytes 2 line ++ leBytes 2 occ
    ++ leBytes 8 time ++ leBytes 8 arg

/-- Threads that wait for event `code` of handle `h` wake with SC_OK (R429); in MIRROR a record wakes them (R444, R582). -/
def State.notify (s : State) (h code : Nat) : State :=
  if s.modeCode = mMIRROR then s
  else { s with cueX := s.cueX.map fun e => match e.2.wait, e.2.woken with
    | .event h' c' _ _, Option.none => if h' = h ∧ c' = code then (e.1, { e.2 with woken := some 0 }) else e
    | _, _ => e }

/-- Whether this card sends determinism records: the primary of a MIRROR pair in SYNC, IN_STEP or DIVERGED (R581, R582). -/
def State.isPrimary (s : State) : Bool :=
  s.twin && s.rd R.TWN_CTL_KIND 0 == 0 && s.rd R.TWN_STAT_ROLE 0 == 0 && decide (2 ≤ s.rd R.TWN_STAT_PAIR_STATE 0)
    && decide (s.rd R.TWN_STAT_PAIR_STATE 0 ≤ 4)

/-- A determinism record leaves the primary (R582). -/
def State.sendDet (s : State) (t fsn : Nat) (b : DetBody) : State :=
  if s.isPrimary then { s.send (.det ⟨t, fsn, b⟩) with detN := tput s.detN t (tget 0 s.detN t + 1) } else s

/-- The first record received, and not used yet, whose body `p` accepts (R584). -/
def State.recFor (s : State) (p : DetRec → Bool) : Option DetRec := s.recs.find? p

/-- A record is used. -/
def State.recUse (s : State) (r : DetRec) : State := { s with recs := s.recs.erase r }

/-- Self-check evidence of the twin pair (R587): kept with its time, and sent on the control stream. Only where there is a Twin link. -/
def State.evidence (s : State) (bit arg : Nat) : State :=
  if s.twin then { s.send (.twin 7 [bit, arg]) with evid := (s.now, bit, arg, false) :: s.evid } else s

/-- The evidence an event of a unit is (R587): PIPE_FAULT or UNDERRUN, JOB_FAULT. -/
def State.eventEvidence (s : State) (code : Nat) : State :=
  if code = 0x0604 ∨ code = 0x0608 then s.evidence 2 0 else if code = 0x0408 then s.evidence 3 0 else s

/-- Write the entry of an occurrence into the ring its source and code are bound to, if any (R107). -/
def State.post (s : State) (kind idx code : Nat) (st : Status) (fsn line occ arg : Nat) : State :=
  let s := (s.notify (s.handleOf kind idx) code).eventEvidence code
  match tfind s.binds (bindKey kind idx code) with
  | none => s
  | some ring => s.ringPush (hIdx ring) (eventEntry (s.handleOf kind idx) code st.code fsn line occ s.epochStamp arg) false

/-- One event of a register block: its flag register, its first occurrence word and the code of bit 0. -/
structure EvGroup where
  evt : Fld
  occ : Nat
  code : Nat
deriving DecidableEq, Repr

/-- An occurrence of event `bit` of a group, in unit `u` index `k`, raised for the source of a kind and index: the flag, the
counter and, where bound, the entry (R31, R32, R107). -/
def State.raise (s : State) (g : EvGroup) (u k bit kind idx : Nat) (st : Status) (fsn line arg : Nat) : State :=
  let s := s.flag g.evt g.occ u k bit
  s.post kind idx (g.code + bit) st fsn line (s.rdk (occFld g.occ bit) u k) arg

/-! ### The fault log (R639, R640) -/

/-- The MGT events: no handle, not bound to rings. Bit 0 DOMAIN, 1 FLOG, 2 MODE, 3 THERM_WARN. -/
def State.mgtEvent (s : State) (bit : Nat) : State := s.flag R.MGT_EVT_FLAGS 0x00010054 0 0 bit

/-- The words of a byte list, least significant byte first. -/
def leWords : Nat → List Nat → List Nat
  | 0, _ => []
  | n + 1, bs => leVal (bs.take 4) :: leWords n (bs.drop 4)

/-- Write consecutive words of a register array. -/
def State.wrWords (s : State) (f : Fld) (u : Nat) : Nat → List Nat → State
  | _, [] => s
  | k, w :: ws => (s.wrk f u k w).wrWords f u (k + 1) ws

/-- The time field of a fault record: the device epoch, or the island's own time before the epoch runs (R639). -/
def State.faultTime (s : State) : Nat :=
  if s.epochRuns then s.epochStamp else (s.now / 1000000000 % 2 ^ 32) * 2 ^ 32 + s.now % 1000000000

/-- Write a fault record (R639): domain, fault code, status, whether it is fatal, and the 12 argument bytes. Some are evidence of the twin pair
(R587). -/
def State.flog (s : State) (dom code : Nat) (st : Status) (fatal : Bool) (arg : List Nat) : State :=
  let n := s.rd R.MGT_FLOG_WR_INDEX 0
  let rec' := leBytes 4 n ++ leBytes 8 s.faultTime ++ leBytes 2 dom ++ leBytes 2 code ++ leBytes 2 st.code
    ++ [b2n (!s.epochRuns) + 2 * b2n fatal, 0] ++ (arg ++ List.replicate 12 0).take 12
  let s := s.wrWords R.MGT_FLOG_W_WORD (n % 1024) 0 (leWords 8 rec')
  let s := (s.wr R.MGT_FLOG_WR_INDEX 0 (n + 1)).mgtEvent 1
  if code = 0x0010 then s.evidence 0 0 else if code = 0x0011 then s.evidence 1 0 else if code = 0x0015 then s.evidence 7 0 else s

/-! ### Domains (R617, R618) -/

/-- The state of a domain. -/
def State.domain (s : State) (d : Nat) : Dom := tget ⟨0, 0, false⟩ s.dom d

/-- Record the state of a domain. -/
def State.setDom (s : State) (d : Nat) (x : Dom) : State := { s with dom := tput s.dom d x }

/-- Whether a domain number is in the table of R617 (0x1FF is the device reset request, no domain). -/
def isDomain (d : Nat) : Bool :=
  decide (d ≤ 8) || d == 0x10 || d == 0x11 || (decide (0x20 ≤ d) && decide (d ≤ 0x29))
    || (decide (0x40 ≤ d) && decide (d ≤ 0x5F)) || (decide (0x80 ≤ d) && decide (d ≤ 0x80 + 104))
    || (decide (0x100 ≤ d) && decide (d < 0x160)) || (decide (0x180 ≤ d) && decide (d < 0x1E0))

/-- Whether a domain of R617 is present: the domain of an absent unit counts as absent. -/
def State.domPresent (s : State) (d : Nat) : Bool :=
  if d == 6 then s.twin else if d == 7 then s.audio
  else if 0x40 ≤ d ∧ d ≤ 0x5F then decide (d - 0x40 < s.engines)
  else if 0x80 ≤ d ∧ d ≤ 0xE8 then s.lanePresent (d - 0x80)
  else if 0x100 ≤ d ∧ d < 0x160 then decide (d - 0x100 < s.lanes)
  else if 0x180 ≤ d ∧ d < 0x1E0 then decide (d - 0x180 < s.lanes)
  else if 0x20 ≤ d ∧ d ≤ 0x29 then (upFrom (16 * (d - 0x20)) 16).any s.threadPresent
  else isDomain d

/-- A domain in SLEEP is woken by what needs it: a fabric access, a mailbox post or a start request (R618, R504). -/
def State.wake (s : State) (d : Nat) : State :=
  if (s.domain d).st == 1 then s.setDom d { s.domain d with st := 0 } else s

/-! ### Admin commands (R100 to R103) -/

/-- What an admin command answers: the state after its effect, the status, the handle and the result. -/
structure AdmAns where
  st : State
  status : Status
  handle : Nat
  result : Nat
deriving DecidableEq, Repr

/-- The 32 bytes of a completion entry (R101): PHASE is 1 on the first pass of the ring and inverts on each wrap. -/
def cplEntry (t : Taken) (st handle result phase : Nat) : List Nat :=
  leBytes 4 t.tag ++ leBytes 2 st ++ leBytes 2 t.opcode ++ leBytes 4 handle ++ leBytes 4 t.index ++ leBytes 8 result
    ++ List.replicate 7 0 ++ [phase]

/-- Write the completion of the command taken from function `f` and release its reservation (R101, R102). -/
def State.complete (s : State) (f : Nat) (t : Taken) (st : Status) (handle result : Nat) : State :=
  let phase := match tfind s.rings (2 * f + 1) with
    | none => 1
    | some r => (r.pi / 2 ^ r.size + 1) % 2
  let s := if s.replay then s else s.ringPush (2 * f + 1) (cplEntry t st.code handle result phase) t.quiet
  { s with taken := tdel s.taken f, cpl := ⟨f, t.opcode, t.tag, st.code, handle, result⟩ }

/-- The session index a command names. -/
def Taken.ss (t : Taken) : Nat := hIdx t.session

/-- The checks every admin command passes besides its own: reserved bytes and PAY_LEN (R103, R105), the mode (R67: objects are
refused in BOOT and LIMP, and come only through the determinism stream in MIRROR, R574), and the session it names (R77, R27, R90). -/
def State.admChecks (s : State) (f : Nat) (t : Taken) (minPay maxPay : Nat) (payload : List Nat) (needSession : Bool) (mirrorOk : Bool) : List (Bool × Status) :=
  [ (t.reserved, .decode), (decide (t.payLen < minPay) || (decide (t.payLen ≤ maxPay) && decide (payload.length < t.payLen)), .decode),
    (decide (maxPay < t.payLen), .lenExceeds), (s.absentHandle t.object, .unitAbsent),
    (s.modeCode == mBOOT || s.modeCode == mLIMP || (s.modeCode == mMIRROR && !mirrorOk && !s.replay), .mode),
    (needSession && s.badHandle t.session, .badHandle),
    (needSession && !s.badHandle t.session && hKind t.session != kSession, .wrongKind),
    (needSession && !s.badHandle t.session && s.prinOf (if hKind t.session = kSession then t.ss else (s.hobj t.session).owner) != 0x10 + f, .protected'),
    (needSession && s.isDraining t.session, .draining) ]

/-- The numbers of a taken command as an ADMIN record carries them (R582): opcode, QUIET, TAG, SESSION, OBJECT, PAYLOAD, PAY_LEN, CMD_INDEX,
reserved, then INLINE. -/
def Taken.nums (t : Taken) : List Nat :=
  [t.opcode, b2n t.quiet, t.tag, t.session, t.object, t.payAddr, t.payLen, t.index, b2n t.reserved] ++ t.inl

/-- A command that completed with a change of state is recorded for the secondary (R582): not RING_QUERY, MODE_SET or ATTEST. -/
def State.adminRec (s : State) (f : Nat) (t : Taken) (payload : List Nat) (bank : List (Nat × Nat)) (st : Status) (handle result : Nat) : State :=
  if st = .ok ∧ !s.replay ∧ t.opcode ≠ 0x11 ∧ t.opcode ≠ 0x80 ∧ t.opcode ≠ 0x90 then
    s.sendDet (s.rd R.TWN_CFG_CO_TLN 0) (s.rd R.REF_TLN_FSN_FSN (s.rd R.TWN_CFG_CO_TLN 0)) (.admin f t.nums payload st.code handle result bank)
  else s

/-- Complete a command and record it. -/
def State.finish (s : State) (f : Nat) (t : Taken) (payload : List Nat) (bank : List (Nat × Nat)) (st : Status) (handle result : Nat) : State :=
  (s.complete f t st handle result).adminRec f t payload bank st handle result

/-- Run the command taken from function `f` if its opcode is `op` (a command executes in ring order, R102); the body answers only
when the common checks and its own have passed. -/
def State.admin (s : State) (f op : Nat) (payload : List Nat) (bank : List (Nat × Nat)) (checks : Taken → List (Bool × Status)) (body : Taken → AdmAns) : State :=
  match tfind s.taken f with
  | none => s
  | some t =>
    if t.opcode ≠ op then s
    else
      let st := check (checks t)
      if st = .ok then
        let a := body t
        a.st.finish f t payload bank a.status a.handle a.result
      else s.complete f t st 0 0

/-- Count a refusal of a full table (R114): 0 rings, 1 fetch units, 2 sessions, 3 threads, 4 routes, 5 decode slots, 6 credits,
7 jobs, 8 surfaces, 9 programs, 10 clone groups and Skim sets. -/
def State.refuse (s : State) (table : Nat) : State := s.inc R.FAB_NOCTX_COUNT table

end Sys2Proof.Machine
end

