-- ==== Sys2Proof/Machine/Formats.lean ====
section
/-! DEFINITION. The format codes and their rasters (R161, R162, R241, R357, R358), the rate codes (R118), the sizes of pictures
(R60, R209) and the arithmetic of line times (R44, R242, R359). -/

namespace Sys2Proof.Machine

open Sys2Proof

/-- A raster of R357: scan (0 interlaced, 1 PsF, 2 progressive), raster lines, active picture, first active line of each field
(or of the frame), lines of the first field, luma samples per line, frame rate as a fraction, switch line. -/
structure Format where
  scan : Nat
  lines : Nat
  w : Nat
  h : Nat
  act1 : Nat
  act2 : Nat
  f1 : Nat
  spl : Nat
  num : Nat
  den : Nat
  sw : Nat
deriving DecidableEq, Repr

/-- A progressive 1,125-line format. -/
def fmt1125 (spl num den : Nat) : Format := ⟨2, 1125, 1920, 1080, 42, 0, 1080, spl, num, den, 7⟩
/-- A 1,125-line interlaced or PsF format. -/
def fmtField (scan spl num den : Nat) : Format := ⟨scan, 1125, 1920, 1080, 21, 584, 540, spl, num, den, 7⟩
/-- A 750-line format. -/
def fmt750 (spl num den : Nat) : Format := ⟨2, 750, 1280, 720, 26, 0, 720, spl, num, den, 7⟩
/-- A 2160p format. -/
def fmt2160 (spl num den : Nat) : Format := ⟨2, 2250, 3840, 2160, 83, 0, 2160, spl, num, den, 13⟩
/-- A 4320p format. -/
def fmt4320 (spl num den : Nat) : Format := ⟨2, 4500, 7680, 4320, 165, 0, 4320, spl, num, den, 25⟩

/-- The format a code names (R161, R357). -/
def formatOf : Nat → Option Format
  | 0x01 => some ⟨0, 525, 720, 486, 21, 283, 243, 858, 30000, 1001, 10⟩
  | 0x02 => some ⟨0, 625, 720, 576, 23, 336, 288, 864, 25, 1, 6⟩
  | 0x10 => some (fmt750 1980 50 1)
  | 0x11 => some (fmt750 1650 60000 1001)
  | 0x12 => some (fmt750 1650 60 1)
  | 0x20 => some (fmtField 0 2640 25 1)
  | 0x21 => some (fmtField 0 2200 30000 1001)
  | 0x22 => some (fmtField 0 2200 30 1)
  | 0x28 => some (fmtField 1 2750 24000 1001)
  | 0x29 => some (fmtField 1 2750 24 1)
  | 0x2A => some (fmtField 1 2640 25 1)
  | 0x30 => some (fmt1125 2750 24000 1001)
  | 0x31 => some (fmt1125 2750 24 1)
  | 0x32 => some (fmt1125 2640 25 1)
  | 0x33 => some (fmt1125 2200 30000 1001)
  | 0x34 => some (fmt1125 2200 30 1)
  | 0x35 => some (fmt1125 2640 50 1)
  | 0x36 => some (fmt1125 2200 60000 1001)
  | 0x37 => some (fmt1125 2200 60 1)
  | 0x38 => some (fmt1125 2640 100 1)
  | 0x39 => some (fmt1125 2200 120000 1001)
  | 0x3A => some (fmt1125 2200 120 1)
  | 0x40 => some (fmt2160 5500 24000 1001)
  | 0x41 => some (fmt2160 5500 24 1)
  | 0x42 => some (fmt2160 5280 25 1)
  | 0x43 => some (fmt2160 4400 30000 1001)
  | 0x44 => some (fmt2160 4400 30 1)
  | 0x45 => some (fmt2160 5280 50 1)
  | 0x46 => some (fmt2160 4400 60000 1001)
  | 0x47 => some (fmt2160 4400 60 1)
  | 0x50 => some (fmt4320 11000 24000 1001)
  | 0x51 => some (fmt4320 11000 24 1)
  | 0x52 => some (fmt4320 10560 25 1)
  | 0x53 => some (fmt4320 8800 30000 1001)
  | 0x54 => some (fmt4320 8800 30 1)
  | 0x55 => some (fmt4320 10560 50 1)
  | 0x56 => some (fmt4320 8800 60000 1001)
  | 0x57 => some (fmt4320 8800 60 1)
  | _ => none

/-- The format of a code, or an empty one. -/
def fmtD (c : Nat) : Format := (formatOf c).getD ⟨2, 1, 0, 0, 0, 0, 0, 0, 1, 1, 1⟩

/-- Whether a code is a 4320p code. -/
def is4320 (c : Nat) : Bool := decide (0x50 ≤ c) && decide (c ≤ 0x57)
/-- Whether a format has a rate of 1/1.001 (R162); 0x01 uses 270 Mbit/s. -/
def isThousandOne (c : Nat) : Bool := (fmtD c).den == 1001 && c != 0x01

/-- The SDI rate code that carries a format and structure, 0 where R161 reads "Not supported". A 4320p code is carried by four links
of the rate named. -/
def rateFor (c struct : Nat) : Nat :=
  let t := b2n (isThousandOne c)
  if c == 0x01 || c == 0x02 then (if struct == 0 then 1 else 0)
  else if (0x10 ≤ c ∧ c ≤ 0x34) then (if (formatOf c).isNone then 0 else if struct == 0 then 2 + t else 4 + t)
  else if 0x35 ≤ c ∧ c ≤ 0x37 then (if struct == 0 then 4 + t else 6 + t)
  else if 0x38 ≤ c ∧ c ≤ 0x3A then (if struct == 0 then 6 + t else 8 + t)
  else if 0x40 ≤ c ∧ c ≤ 0x44 then (if struct == 0 then 6 + t else 8 + t)
  else if 0x45 ≤ c ∧ c ≤ 0x47 then (if struct == 0 then 8 + t else 0)
  else if 0x50 ≤ c ∧ c ≤ 0x54 then 8 + t
  else if 0x55 ≤ c ∧ c ≤ 0x57 then (if struct == 0 then 8 + t else 0)
  else 0

/-- The band of a rate code (R118). -/
def bandOf (code : Nat) : Nat :=
  if code ≤ 5 then 0 else if code ≤ 7 then 1 else if code ≤ 9 then 2 else if code ≤ 0xB then 1 else if code == 0xC then 2
  else if code == 0xD then 0 else if code == 0xE then 2 else 0

/-- The bytes of `n` pixels of a sample structure (R60), in quarters of a byte a pixel: 10, 15 or 18. -/
def quarterBytes (struct : Nat) : Nat := if struct == 0 then 10 else if struct ≤ 2 then 15 else 18
/-- The bytes of a picture at a sample structure (R60). -/
def picBytes (w h struct : Nat) : Nat := ceilDiv (w * h * quarterBytes struct) 4

/-- The largest picture of a MAX_CLASS (R209). -/
def classDims (c : Nat) : Nat × Nat :=
  if c == 0 then (720, 576) else if c == 1 then (1920, 1080) else if c == 2 then (3840, 2160) else (7680, 4320)
/-- The slot size of a MAX_CLASS and MAX_STRUCT (R209): packed video and 4 KiB of metadata, in multiples of 64 KiB. -/
def slotBytesOf (cls struct : Nat) : Nat := roundUp (picBytes (classDims cls).1 (classDims cls).2 struct + 4096) 65536

/-- The frame rate rounded up to a whole number, as charges count it (R265). -/
def ceilRate (f : Format) : Nat := ceilDiv f.num f.den
/-- A charge in MB/s: `bytes` a frame at `rate` frames a second (R265). -/
def chargeOf (bytes rate : Nat) : Nat := ceilDiv (bytes * rate) 1000000

/-- The start of line `l` of frame `n` of a timeline of this format with phase `a`, in whole nanoseconds (R44, R678):
n × P + (l − 1) × P / lines + a, rounded down. -/
def lineStart (f : Format) (a : Int) (n l : Nat) : Nat :=
  ((((n * f.lines + (l - 1)) * 1000000000 * f.den : Nat) : Int) / ((f.num * f.lines : Nat) : Int) + a).toNat
/-- The frame period of a format times its rate numerator, in nanoseconds: periods are compared in units of 1/num ns. -/
def periodM (f : Format) : Nat := 1000000000 * f.den
/-- The frame period in nanoseconds, rounded down. -/
def periodNs (f : Format) : Nat := 1000000000 * f.den / f.num

/-- The kerb line of a format at distance `k`, and whether it lies in the previous frame (R242). -/
def kerbOf (f : Format) (k : Nat) : Nat × Bool :=
  if k < f.sw then (f.sw - k, false) else (f.sw + f.lines - k, true)

/-- Whether raster line `l` is an active line, and which row of the picture it carries (R357). -/
def activeRow (f : Format) (l : Nat) : Option Nat :=
  if f.act2 == 0 then (if f.act1 ≤ l ∧ l < f.act1 + f.h then some (l - f.act1) else none)
  else if f.act1 ≤ l ∧ l < f.act1 + f.f1 then some (2 * (l - f.act1))
  else if f.act2 ≤ l ∧ l < f.act2 + (f.h - f.f1) then some (2 * (l - f.act2) + 1) else none
/-- The last active line of the frame. -/
def lastActive (f : Format) : Nat := if f.act2 == 0 then f.act1 + f.h - 1 else f.act2 + (f.h - f.f1) - 1

/-- Whether a format is compatible with a timeline's (R476): equal rate, and a switch line no earlier after line 1. -/
def compatible (f t : Format) : Bool :=
  f.num * t.den == t.num * f.den && decide ((t.sw - 1) * f.lines ≤ (f.sw - 1) * t.lines)

/-- The Gistra rates' usable payload of a lane in units of 0.01 Gbit/s (R187). -/
def usablePayload (code : Nat) : Nat := if code == 0xC then 1231 else if code == 0xB then 615 else if code == 0xA then 307 else 0
/-- The bit rate of an SDI rate code in units of 0.01 Gbit/s, rounded up (R118). -/
def sdiPayload (code : Nat) : Nat :=
  if code == 1 then 27 else if code == 2 || code == 3 then 149 else if code == 4 || code == 5 then 297
  else if code == 6 || code == 7 then 594 else if code == 8 then 1188 else if code == 9 then 1187 else 0

end Sys2Proof.Machine
end

