-- ==== Sys2Proof/Machine/Bus.lean ====
section
/-! DEFINITION. The control fabric's answer to a register access before its target: which block an offset belongs to, which unit,
whether the unit is absent, its domain, who may reach it, the firewall regions, and the response with its log entry
(R14 to R16, R71, R72, R494, R495, R504 to R512). -/

namespace Sys2Proof.Machine

open Sys2Proof

/-- The blocks of BAR0 (R72). -/
inductive Blk where
  | id | mgt | fab | mbx | nvs | ref | twn | sec | lne | inp | plz | cva | out | aud | cue | nvsData | none
deriving DecidableEq, Repr

/-- The block of a BAR0 offset (R72). -/
def blkOf (a : Nat) : Blk :=
  if a < 0x10000 then .id else if a < 0x20000 then .mgt else if a < 0x30000 then .fab else if a < 0x40000 then .mbx
  else if a < 0x50000 then .nvs else if a < 0x60000 then .ref else if a < 0x70000 then .twn else if a < 0x80000 then .sec
  else if a < 0x100000 then .none else if a < 0x169000 then .lne
  else if a < 0x200000 then .none else if a < 0x260000 then .inp
  else if a < 0x300000 then .none else if a < 0x400000 then .plz
  else if a < 0x480000 then .cva else if a < 0x500000 then .none
  else if a < 0x680000 then .out else if a < 0x700000 then .none
  else if a < 0x800000 then .aud else if a < 0x80A000 then .cue
  else if a < 0x1000000 then .none else if a < 0x1080000 then .nvsData else .none

/-- Whether a block is on segment S0 (R490). -/
def Blk.isS0 : Blk → Bool
  | .id | .mgt | .fab | .mbx | .nvs | .ref | .twn | .sec | .nvsData => true
  | _ => false

/-- The unit number of a BAR0 offset within its block: lane, port, destination, engine, pipeline or thread. -/
def unitOf (a : Nat) : Nat :=
  match blkOf a with
  | .lne => (a - 0x100000) / 0x1000
  | .inp => (a - 0x200000) / 0x1000
  | .plz => if a < 0x301000 then 0 else (a - 0x301000) / 0x40
  | .cva => (a - 0x400000) / 0x4000
  | .out => (a - 0x500000) / 0x4000
  | .cue => (a - 0x800000) / 0x100
  | _ => 0

/-- Whether Plaza destination `d` is present (R235). -/
def State.destPresent (s : State) (d : Nat) : Bool :=
  if d < 96 then decide (d < s.lanes) else decide (d < 352) && decide (0 < s.engines)

/-- Whether an offset lies in the region of an absent unit (R14). -/
def State.absentAt (s : State) (a : Nat) : Bool :=
  match blkOf a with
  | .twn => !s.twin
  | .aud => !s.audio
  | .lne => !s.lanePresent (unitOf a)
  | .inp => decide (s.lanes ≤ unitOf a)
  | .plz => decide (0x301000 ≤ a) && decide (unitOf a < 352) && !s.destPresent (unitOf a)
  | .cva => decide (s.engines ≤ unitOf a)
  | .out => decide (s.lanes ≤ unitOf a)
      || (!s.stencil && ((decide (0x1700 ≤ a % 0x4000) && decide (a % 0x4000 < 0x1800))
          || (decide (0x2000 ≤ a % 0x4000) && decide (a % 0x4000 ≤ 0x2203))))
  | .cue => !s.threadPresent (unitOf a)
  | _ => false

/-- The domain whose state gates an access to an offset (R504); none for the blocks the management island and the fabric hold. -/
def domainAt (a : Nat) : Option Nat :=
  match blkOf a with
  | .ref => some 3
  | .twn => some 6
  | .sec => some 4
  | .lne => some (0x80 + unitOf a)
  | .inp => some (0x100 + unitOf a)
  | .plz => some 8
  | .cva => some (0x40 + unitOf a)
  | .out => some (0x180 + unitOf a)
  | .aud => some 7
  | .cue => some (0x20 + unitOf a / 16)
  | _ => none

/-- Whether a principal's master reaches a block (R494). -/
def reaches (p : Nat) (b : Blk) : Bool :=
  if p == pMgmt then b.isS0 || b == .lne || b == .inp
  else if p == pTwin then b == .mbx || b == .twn || b == .ref
  else b != .none

/-- What a principal is granted of the S0 blocks (R495), and the writers the FAB and MGT chapters name. -/
def granted (p a : Nat) (write : Bool) : Bool :=
  let b := blkOf a
  if isVF p then
    match b with
    | .id | .sec | .mgt | .ref | .twn => !write
    | .fab => !write && (a == 0x20000 || (decide (0x28000 ≤ a) && decide (a ≤ 0x28028)))
    | .mbx => (a - 0x34000) / 8 == p - 0x10 && decide (0x34000 ≤ a) && decide (a < 0x34080)
        || (a - 0x38000) / 0x40 == p - 0x10 && decide (0x38000 ≤ a) && decide (a < 0x38400)
    | .nvs | .nvsData => false
    | _ => true
  else if write && b == .fab then
    (if 0x24000 ≤ a ∧ a < 0x26000 then isCore p else isCore p || p == pPF)
  else if write && b == .mgt then isCore p || p == pPF
  else if b == .mbx && decide (0x34000 ≤ a) && decide (a < 0x34080) && isFn p then (a - 0x34000) / 8 == p - 0x10
  else true

/-- Whether a block's registers are locked in MIRROR for the host functions and the control cores (R574). -/
def Blk.isUnit : Blk → Bool
  | .lne | .inp | .plz | .cva | .out | .aud | .cue | .ref => true
  | _ => false

/-- The control-fabric segment that serves an offset (R490). -/
def segOf (a : Nat) : Nat :=
  match blkOf a with
  | .lne | .inp | .plz | .cue => 1
  | .cva | .out | .aud => 2
  | _ => 0

/-- The place of the locked sequence that principal `p` runs on the segment of an offset (R501). -/
def lockKey (p a : Nat) : Nat := 64 * segOf a + masterOf p

/-- Whether another master's locked sequence holds the segment of an offset (R501). The replayed writes of the primary wait in the Twin link
controller until they are granted. -/
def State.lockedOut (s : State) (p a : Nat) : Bool :=
  !s.replay && s.locks.any (fun e => e.1 / 64 == segOf a && e.1 != lockKey p a && !e.2)

/-- Whether the access belongs to a locked sequence whose lock has broken (R502). -/
def State.lockBroken (s : State) (p a : Nat) : Bool := tget false s.locks (lockKey p a)

/-- The checks the fabric makes of an access to a register (R20 orders them): alignment and an offset inside a block (R15, R34), the
matrix (R494, R505), absent units (R14), the domain (R504), BOOT (R71), the block grants (R495), the firewall and locked sequences (R501, R502). In LIMP the host interface
answers every access with SC_MODE (R71), and the control fabric is off for the other masters (R632, R504). A replayed write
of the primary is not judged again (R582). -/
def State.fabricChecks (s : State) (p a : Nat) (write : Bool) : List (Bool × Status) :=
  if s.modeCode = mLIMP then [(true, if isFn p then .mode else .domainOff)]
  else
  [ (a % 4 != 0 || blkOf a == .none || (!s.replay && !reaches p (blkOf a)), .decode),
    (s.absentAt a, .unitAbsent),
    ((domainAt a).any (fun d => (s.domain d).st == 2), .domainOff),
    (s.modeCode == mBOOT && blkOf a != .id && blkOf a != .mgt, .notReady),
    (!s.replay && (!granted p a write || (s.fwRefuses p 0 a 4 write).isSome), .protected'),
    (s.lockedOut p a || s.lockBroken p a, .busy) ]

/-- The fabric's checks and the lock of MIRROR (R574). -/
def State.accessChecks (s : State) (p a : Nat) (write : Bool) : List (Bool × Status) :=
  s.fabricChecks p a write
    ++ [ (s.modeCode == mMIRROR && write && !s.replay && (blkOf a).isUnit && (isFn p || isCore p), .mode) ]

/-- Answer an access with OK. -/
def State.respond (s : State) (data : Nat) : State := { s with resp := ⟨0, data⟩ }

/-- Answer an access with an error: the response carries the status, a read's data is 0xFFFF_0000 OR the code (R16), the error
log records it (R507), and a region's refusal is counted and raises FW_DENY (R509, R513). -/
def State.deny (s : State) (st : Status) (p a : Nat) (write : Bool) : State :=
  let s := match if st = .protected' then s.fwRefuses p 0 a 4 write else none with
    | some r => s.fwLog r p (masterOf p) write false a
    | none => s.logErr st p (masterOf p) write false a 0
  { s with resp := ⟨st.code, if write then 0 else 0xFFFF0000 + st.code⟩ }

/-- The response of an access that waits for its grant: no status, since nothing has answered it. -/
def Resp.waiting : Resp := ⟨2 ^ 16, 0⟩

/-- Whether an access waits for its grant while another master's locked sequence holds its segment (R501). DESIGN CHOICE (assumption 173): the command
leaves everything but the response as it is, and the master, which holds its tag, presents the access again. -/
def State.waits (s : State) (p a : Nat) (write : Bool) : Bool := s.lockedOut p a && check (s.fabricChecks p a write) == .busy

/-- The target of an access answers: a domain in SLEEP wakes (R504), and the run of timeouts of the segment ends (R506). -/
def State.wakeAt (s : State) (a : Nat) : State :=
  let s : State := { s with segRun := tdel s.segRun (segOf a) }
  match domainAt a with
  | some d => s.wake d
  | none => s

/-- What the fabric and its target answer to an access whose checks are `l`: it waits, or the effect follows, or the error response. A target that the
fabric reaches wakes, whatever it answers itself (R504). -/
def State.answer (s : State) (p a : Nat) (write : Bool) (l : List (Bool × Status)) (act : State → State) : State :=
  match check (s.fabricChecks p a write) with
  | .ok => if check l = .ok then act ((s.wakeAt a).respond 0) else (s.wakeAt a).deny (check l) p a write
  | .busy => if s.lockedOut p a then { s with resp := Resp.waiting } else s.deny .busy p a write
  | _ => s.deny (check l) p a write

/-- A register access: the fabric's checks and the target's own, then the effect, or the error response (R16, R20, R22). -/
def State.gate (s : State) (p a : Nat) (write : Bool) (own : List (Bool × Status)) (act : State → State) : State :=
  s.answer p a write (s.accessChecks p a write ++ own) act

/-- As `gate`, for W1C event flags, which MIRROR does not lock (R574). -/
def State.gateFlags (s : State) (p a : Nat) (act : State → State) : State := s.answer p a true (s.fabricChecks p a true) act

/-- An effect that may itself end in a status (an admission, an allocation): the error response when it is not OK. -/
def State.gateM (s : State) (p a : Nat) (own : List (Bool × Status)) (act : State → State × Status) : State :=
  s.gate p a true own fun s1 =>
    if (act s1).2 = .ok then (act s1).1 else (act s1).1.deny (act s1).2 p a true

/-- Whether a principal may write the registers of a fixed unit: the principal of the session that holds it; the control cores
while the firmware session holds it (R202, R479). A replayed write of the primary is not judged again (R582). -/
def State.holds (s : State) (p kind idx : Nat) : Bool :=
  s.replay || if (s.obj kind idx).owner == 0 then isCore p else s.prinOf (s.obj kind idx).owner == p

/-- A lifecycle state (R41): 0 STOPPED, 1 ARMED, 2 RUNNING, 3 STOPPING. -/
def lcSTOPPED : Nat := 0
def lcARMED : Nat := 1
def lcRUNNING : Nat := 2
def lcSTOPPING : Nat := 3

/-- Whether a timeline counts as locked: it runs (R477). -/
def State.tlnRuns (s : State) (t : Nat) : Bool := s.rd R.REF_TLN_STAT_STATE t == 2

/-- The FSN in progress on a timeline. -/
def State.fsn (s : State) (t : Nat) : Nat := s.rd R.REF_TLN_FSN_FSN t

/-- Whether a mode transition is in progress, when start requests fail with SC_MODE (R630). -/
def State.modePending (s : State) : Bool := s.on R.MGT_MODE_PENDING 0

end Sys2Proof.Machine
end

