-- ==== Sys2Proof/Machine/TwinOps.lean ====
section
/-! DEFINITION. The twin pair as the other chapters see it: the pair state (R573), twin events (R597), divergence (R573, R584), the map of a
primary's frame to the local one (R583, R584). -/

namespace Sys2Proof.Machine

open Sys2Proof

/-- The pair states (R573). -/
def prSOLO : Nat := 0
def prHELLO : Nat := 1
def prSYNC : Nat := 2
def prINSTEP : Nat := 3
def prDIVERGED : Nat := 4
def prFAULTY : Nat := 5
def prLOST : Nat := 6
def prLONE : Nat := 7
def prJOINED : Nat := 8

/-- The pair state. -/
def State.pair (s : State) : Nat := s.rd R.TWN_STAT_PAIR_STATE 0
/-- Enter a pair state. -/
def State.setPair (s : State) (x : Nat) : State := s.wr R.TWN_STAT_PAIR_STATE 0 x

/-- Whether side A asserts ACTIVE_N (R568): in RUN, with TAKE_INH 0, as the PRIMARY of a MIRROR pair, in a JOIN pair, or SOLO with PEER_ALIVE
low; a card in HELLO is not yet paired, so no row names it and it releases. -/
def State.activeWanted (s : State) : Bool :=
  s.modeCode == mRUN && !s.on R.TWN_CTL_TAKE_INH 0
    && (if s.pair = prSOLO then !s.pins.aliveHigh else if s.pair = prHELLO then false else s.on R.TWN_CTL_KIND 0 || s.rd R.TWN_STAT_ROLE 0 == 0)

/-- Show the pins: NET_LOW, PEER_ALIVE, and ON_AIR, which is 1 on side A while the net is low and on side B while it is high (R568). -/
def State.netShow (s : State) : State :=
  ((s.wr R.TWN_STAT_NET_LOW 0 (b2n s.pins.netLow)).wr R.TWN_STAT_PEER_ALIVE 0 (b2n s.pins.aliveHigh)).wr R.TWN_STAT_ON_AIR 0
    (b2n (s.pins.netLow != s.pins.side))

/-- Side A drives ACTIVE_N as R568 states, now. -/
def State.activeShow (s : State) : State :=
  if !s.twin then s
  else
    let s : State := if s.pins.side then s else { s with pins := { s.pins with netLow := s.activeWanted } }
    { s with twnX := { s.twnX with netPend := false } }.netShow

/-- A change of ACTIVE_N by a mode or role change waits for a switch line of CO_TLN while that timeline runs (R569). -/
def State.activeSoon (s : State) : State :=
  if s.tlnRuns (s.rd R.TWN_CFG_CO_TLN 0) then { s with twnX := { s.twnX with netPend := true } } else s.activeShow

/-- A twin event (R597): bit 0 IN_STEP, 1 PAIR_FAIL, 2 MISMATCH, 3 TWIN_FAULT, 4 FAILOVER, 5 DIVERGED, 6 PEER_LOST, 7 SIG_DIFF, 8 DEC_MISS, 9 SKEW. -/
def State.twinEvent (s : State) (bit : Nat) : State :=
  let s := s.flag R.TWN_EVT_FLAGS 0x00060044 0 0 bit
  if s.on R.TWN_CFG_IRQ_EN 0 then s.send (.msix 0 (s.rd R.TWN_CFG_VECTOR 0)) else s

/-- The state copy starts or restarts (R573, R580): records not applied yet are dropped, and a secondary asks its peer for it (kind 8). -/
def State.copyStart (s : State) : State :=
  let x := s.twnX
  let s : State := { s.setPair prSYNC with
    recs := [], twnX := { x with copyDone := false, frames := 0, good := [], missed := [], buffer := [], arm := [], fresh := true, episode := none, own := [], peer := [] } }
  if s.rd R.TWN_STAT_ROLE 0 = 1 then s.send (.twin 8 []) else s

/-! ### Crossfeed streams (R577) -/

/-- The class-2 budget in Mbit/s: the agreed width times the usable payload of the trained rate, less 8,000 (R577). -/
def State.xfBudget (s : State) : Nat :=
  if s.rd R.LNE_GL_STAT_LINK_STATE 96 = 2 then s.rd R.LNE_GL_STAT_WIDTH 96 * usablePayload (s.rd R.LNE_GL_STAT_RATE 96) * 10 - 8000 else 0

/-- What a stream of a peer pipeline's format and structure costs in bit/s (R577). -/
def xfCost (fmt struct : Nat) : Nat := picBytes (fmtD fmt).w (fmtD fmt).h struct * 8 * ceilRate (fmtD fmt)

/-- The cost of the streams that are open. -/
def State.xfUsed (s : State) : Nat :=
  ((upFrom 0 8).filter (fun k => s.rdk R.TWN_XF_CFG_STATE 0 k == 1)).foldl
    (fun a k => a + xfCost (tget (0, 0, false) s.twnX.xfPeer k).1 (tget (0, 0, false) s.twnX.xfPeer k).2.1) 0

/-- Streams close from stream 7 downward until the rest fit (R577). -/
def State.xfFit (s : State) : State :=
  [7, 6, 5, 4, 3, 2, 1, 0].foldl (fun (s : State) k =>
    if s.rdk R.TWN_XF_CFG_STATE 0 k = 1 ∧ s.xfBudget * 1000000 < s.xfUsed then
      { s.wrk R.TWN_XF_CFG_STATE 0 k 2 with xfeed := tdel s.xfeed k }
    else s) s

/-- Stream `k` opens: it carries frames of the peer's format. -/
def State.xfOpen (s : State) (k : Nat) : State :=
  { s.wrk R.TWN_XF_CFG_STATE 0 k 1 with xfeed := tput s.xfeed k ⟨true, (tget (0, 0, false) s.twnX.xfPeer k).1, [], false⟩ }

/-- The pair is JOINED: the enabled streams open as far as the budget goes (R577). -/
def State.xfJoin (s : State) : State :=
  ((upFrom 0 8).foldl (fun (s : State) k => if s.rdk R.TWN_XF_CFG_EN 0 k = 1 then s.xfOpen k else s) s).xfFit

/-- Crossfeed streams close (R573, R577). -/
def State.xfClose (s : State) : State :=
  { (upFrom 0 8).foldl (fun (s : State) k => s.wrk R.TWN_XF_CFG_STATE 0 k 0) s with xfeed := [] }

/-- The pair ends on this card (R573): it is SOLO, makes its own decisions, and nothing of the pair is outstanding. -/
def State.unpair (s : State) : State :=
  let s := ((s.wr R.TWN_CTL_PAIR 0 0).wr R.TWN_STAT_ROLE 0 0).setPair prSOLO
  let x := s.twnX
  { s.xfClose with recs := [], decOwn := true,
                   twnX := { x with copyDone := false, episode := none, own := [], peer := [], takeAt := none, handAt := none, buffer := [], fresh := false } }

/-- The card goes DIVERGED (R573, R584); AUTO_RESYNC restarts the copy. -/
def State.diverge (s : State) : State :=
  if s.pair = prSYNC ∨ s.pair = prINSTEP then
    let s := ((s.setPair prDIVERGED).twinEvent 5).inc R.TWN_CNT_DIVERGED_COUNT 0
    if s.on R.TWN_CFG_AUTO_RESYNC 0 then s.copyStart else s
  else s

/-- The allocation an address lies in. -/
def State.allocAt (s : State) (a : Nat) : Option Alloc := s.allocs.find? (fun x => decide (x.base ≤ a) && decide (a < x.base + x.len))

/-- The place of an allocation among those of its object. -/
def State.allocNth (s : State) (x : Alloc) : Nat := ((s.allocs.filter (fun y => y.key == x.key)).findIdx? (fun y => y.base == x.base)).getD 0

/-- Whether the state copy takes the content of an allocation (R580): surfaces, rings and parameter areas; not frame stores, histories or Arcade
output frames. -/
def copiedAlloc (x : Alloc) : Bool :=
  !x.hidden && (x.key / 2 ^ 20 == kSurface || x.key / 2 ^ 20 == kRing || (x.key / 2 ^ 20 == kJob && !x.readOnly))

/-- The primary forwards a write into a session-owned allocation (R581). -/
def State.fwdWrite (s : State) (a : Nat) (bytes : List Nat) : State :=
  match if s.isPrimary then s.allocAt a else none with
  | some x => if copiedAlloc x then s.send (.copy [.mem x.key (s.allocNth x) (a - x.base) bytes]) else s
  | none => s

/-- The local IFC of a primary's IFC at a port, by the difference set during SYNC (R583). -/
def State.localIfc (s : State) (n ifc : Nat) : Nat := (ifc + tget 0 s.ifcMap n) % 2 ^ 32

/-- Whether decisions come from the determinism stream: a card in MIRROR, but for a frame it decides itself (R584). -/
def State.follows (s : State) : Bool := s.modeCode == mMIRROR && !s.decOwn

/-- The samples of a rectangle row as 16-bit values (R378). -/
def skimRow (struct x w : Nat) (row : List Pixel) : List Nat :=
  let at' := fun i => row.getD i ⟨0, 0, 0⟩
  if struct = 0 then (upFrom 0 (w / 2)).flatMap (fun k => [(at' (x + 2 * k)).cb, (at' (x + 2 * k)).y, (at' (x + 2 * k)).cr, (at' (x + 2 * k + 1)).y])
  else (upFrom x w).flatMap (fun i => [(at' i).y, (at' i).cb, (at' i).cr])

/-- The signature of a frame (R583): CRC-32C over its active samples in the byte order of R378. -/
def frameSig (struct : Nat) (p : Pic) : Nat :=
  crc32c (p.flatMap (fun r => (skimRow struct 0 r.length r).flatMap (fun v => [v % 256, v / 256])))

/-- The number this port has given, or will give, to the frame a primary's IFC maps to (R583). -/
def State.localNum (s : State) (n ifc : Nat) : Nat :=
  (((tget PortX.reset s.portX n).ifcN : Int) + sext 32 (s.localIfc n ifc + 2 ^ 32 - (tget PortX.reset s.portX n).ifcN % 2 ^ 32)).toNat

/-- The signature of a frame differs (R584): SIG_DIFF, and evidence of the input. -/
def State.sigDiff (s : State) (n : Nat) : State := ((s.twinEvent 7).inc R.TWN_CNT_SIG_DIFF_COUNT 0).evidence 5 n

/-- The mapped frame is not there by DEC_WAIT (R584); one whose slot has been overwritten makes the card diverge. -/
def State.decMiss (s : State) (n : Nat) (overwritten : Bool) : State :=
  let s := ((s.twinEvent 8).inc R.TWN_CNT_DEC_MISS_COUNT 0).evidence 5 n
  if overwritten then s.diverge else s

/-- The frame a record's IFC and signature name, or the newest published below it (R584). -/
def State.mappedFrame (s : State) (n ifc sig : Nat) : State × Option Frame :=
  let k := s.localNum n ifc
  match (tget PortX.reset s.portX n).frames.find? (fun f => f.ifc == k) with
  | some f => (if frameSig f.det.struct f.pic = sig then s else s.sigDiff n, some f)
  | none => (s.decMiss n (decide (k ≤ (tget PortX.reset s.portX n).ifcN)), ((tget PortX.reset s.portX n).frames.filter (fun f => decide (f.ifc < k))).getLast?)

/-- An accepted write to a register of a unit block is recorded for the secondary (R582): `s0` is the state before, `s` after. -/
def State.regRec (s0 : State) (a data : Nat) (s : State) : State :=
  if s.resp.status = 0 ∧ (blkOf a).isUnit ∧ !s0.replay then
    s.sendDet (s.rd R.TWN_CFG_CO_TLN 0) (s.fsn (s.rd R.TWN_CFG_CO_TLN 0)) (.reg a data)
  else s

end Sys2Proof.Machine
end

