-- ==== Sys2Proof/Machine/PlazaOps.lean ====
section
/-! DEFINITION. Isochronous charges and admission (R57, R58, R265 to R269), the live selects of the Plaza (R235, R236), gangs and
quad-link groups (R177, R204, R262), and the accessors of lanes and ports. -/

namespace Sys2Proof.Machine

open Sys2Proof

/-! ### Accessors of the typed tables -/

/-- The state of a lane. -/
def State.lane (s : State) (i : Nat) : LaneX := tget LaneX.reset s.laneX i
/-- Change the state of a lane. -/
def State.setLane (s : State) (i : Nat) (f : LaneX → LaneX) : State := { s with laneX := tmod LaneX.reset s.laneX i f }
/-- The state of a port. -/
def State.port (s : State) (n : Nat) : PortX := tget PortX.reset s.portX n
/-- Change the state of a port. -/
def State.setPort (s : State) (n : Nat) (f : PortX → PortX) : State := { s with portX := tmod PortX.reset s.portX n f }
/-- The sync context of port `n` for timeline `t` (R214). -/
def State.ctx (s : State) (n t : Nat) : SyncCtx := tget SyncCtx.reset s.sync (16 * n + t)
/-- Record a sync context. -/
def State.setCtx (s : State) (n t : Nat) (c : SyncCtx) : State := { s with sync := tput s.sync (16 * n + t) c }

/-- Change a job. -/
def State.setJob (s : State) (i : Nat) (f : Job → Job) : State :=
  match tfind s.jobs i with
  | some j => { s with jobs := tput s.jobs i (f j) }
  | none => s

/-! ### Charges (R265 to R269) -/

/-- The consumer number of an input port's store writes. -/
def cInput (n : Nat) : Nat := n
/-- The consumer number of the live select of destination `d`. -/
def cSelect (d : Nat) : Nat := 1000 + d
/-- The consumer number of layer `l` of a pipeline. -/
def cLayer (pipe l : Nat) : Nat := 2000 + 8 * pipe + l
/-- The consumer number of a pipeline's writeback. -/
def cWriteback (pipe : Nat) : Nat := 4000 + pipe
/-- The consumer number of an Arcade job. -/
def cJob (i : Nat) : Nat := 5000 + i
/-- The consumer number of the audio unit. -/
def cAudio : Nat := 6000

/-- The charge a consumer holds, in MB/s. -/
def State.chargeOf (s : State) (c : Nat) : Nat := tget 0 s.charges c

/-- The isochronous budget in MB/s (R56). -/
def State.isoBudget (s : State) : Nat := 800000 * s.row.hbmStacks

/-- The charges after a list of (consumer, new charge) changes. -/
def applyCharges (t : Tab Nat) : List (Nat × Nat) → Tab Nat
  | [] => t
  | (c, v) :: l => applyCharges (tset 0 t c v) l

/-- The sum of held charges. -/
def chargeSum (t : Tab Nat) : Nat := t.foldl (fun a e => a + e.2) 0

/-- The charge register of a destination (PLZ.DST_CHARGE) follows the charge its select holds. -/
def State.showCharges (s : State) : List (Nat × Nat) → State
  | [] => s
  | (c, v) :: l =>
    (if 1000 ≤ c ∧ c < 1352 then s.wr R.PLZ_DST_CHARGE_MBPS (c - 1000) v else s).showCharges l

/-- The state with the changes taken: ISO_CHARGED becomes the sum, ISO_PEAK its highest value. -/
def State.takeCharges (s : State) (l : List (Nat × Nat)) : State :=
  let t := applyCharges s.charges l
  let s := { s with charges := t }
  let s := s.wr R.PLZ_ISO_CHARGED_MBPS 0 (chargeSum t)
  let s := s.wr R.PLZ_ISO_PEAK_MBPS 0 (max (s.rd R.PLZ_ISO_PEAK_MBPS 0) (chargeSum t))
  s.showCharges l

/-- Whether the netted changes of one request fit the budget (R58, R267). -/
def State.admits (s : State) (l : List (Nat × Nat)) : Bool := decide (chargeSum (applyCharges s.charges l) ≤ s.isoBudget)

/-- Admit a request: the charges change at once, or ISO_REFUSED counts (R267). -/
def State.admitAll (s : State) (l : List (Nat × Nat)) : State × Bool :=
  if s.admits l then (s.takeCharges l, true) else (s.inc R.PLZ_ISO_REFUSED_COUNT 0, false)

/-- Release a consumer's charge (R269). -/
def State.uncharge (s : State) (c : Nat) : State :=
  if s.chargeOf c = 0 then s else s.takeCharges [(c, 0)]

/-! ### Selects (R235, R236) -/

/-- The KINDs of a select (R236). -/
def selNONE : Nat := 0
def selFRAME : Nat := 1
def selSTREET : Nat := 2
def selARCADE : Nat := 3
def selSURFACE : Nat := 4
def selUNDERCOAT : Nat := 5
def selXFEED : Nat := 6

/-- The KIND of the live select of a destination. -/
def State.selKind (s : State) (d : Nat) : Nat := s.rd R.PLZ_SEL_LIVE_SEL d / 2 ^ 28
/-- The NUM of the live select of a destination. -/
def State.selNum (s : State) (d : Nat) : Nat := s.rd R.PLZ_SEL_LIVE_SEL d % 256
/-- The handle of the live select of a destination. -/
def State.selH (s : State) (d : Nat) : Nat := s.rd R.PLZ_SEL_LIVE_H_HANDLE d

/-- Whether the live select of destination `d` names port `n` (R211). -/
def State.selNames (s : State) (n d : Nat) : Bool :=
  (s.selKind d == selFRAME || s.selKind d == selSTREET) && s.selNum d == n

/-- Whether any live select names port `n`. -/
def State.portNamed (s : State) (n : Nat) : Bool := (upFrom 0 352).any (s.selNames n)

/-- The live handles that hold a use count on an object (R87, R239, R339): each field's entries that equal the handle. -/
def holderFields : List Fld :=
  [R.PLZ_SEL_LIVE_H_HANDLE, R.OUT_LYR_SURF_LIVE_HANDLE, R.INP_ANCF_RING_RING, R.OUT_ANC_RING_RING, R.AUD_INS_RING_RING,
   R.AUD_TAP_RING_RING, R.OUT_STN_SLATE_HANDLE, R.OUT_WB_SURF_HANDLE, R.CUE_PROG_HANDLE]

/-- How often a field holds a value, over every unit and index. -/
def countField (rf : RegFile) (f : Fld) (v : Nat) : Nat :=
  (tget [] rf (Fld.key f)).foldl (fun a u => a + (u.2.filter (fun e => e.2 == v)).length) 0

/-! ### Groups of four (R177, R262) -/

/-- Whether bit k of PLZ.GANG_CFG gangs pipeline `p`'s group. -/
def State.ganged (s : State) (p : Nat) : Bool := decide (p < 96) && bitAt (s.rd R.PLZ_GANG_CFG_GANG 0) (p / 4)
/-- Whether pipeline `p` is a gang head (R263). -/
def State.gangHead (s : State) (p : Nat) : Bool := s.ganged p && p % 4 == 0
/-- Whether pipeline `p` is a member of a gang other than its head (R263). -/
def State.gangMember (s : State) (p : Nat) : Bool := s.ganged p && p % 4 != 0
/-- The pipeline whose lifecycle governs pipeline `p`. -/
def State.governor (s : State) (p : Nat) : Nat := if s.ganged p then p / 4 * 4 else p
/-- Whether QUAD is 1 in the group of lane or port `n` (R177). -/
def State.quadOn (s : State) (n : Nat) : Bool := decide (n < 96) && s.on R.LNE_SDI_CFG_QUAD (n / 4 * 4)
/-- Whether port `n` is a quad-link member port (R204). -/
def State.quadMember (s : State) (n : Nat) : Bool := s.quadOn n && n % 4 != 0

/-- Clone members of the group headed by pipeline `h` (R258, R259): the valid bytes of PLZ.CLONE_A and CLONE_B. -/
def State.cloneBytes (s : State) (h : Nat) : List Nat :=
  leBytes 4 (s.rd R.PLZ_CLONE_A_MEMBERS h) ++ leBytes 3 (s.rd R.PLZ_CLONE_B_MEMBERS h)
/-- The member lanes of the clone group headed by pipeline `h`. -/
def State.cloneMembers (s : State) (h : Nat) : List Nat :=
  ((s.cloneBytes h).filter (fun b => decide (128 ≤ b))).map (· % 128)
/-- The head of the clone group a lane is a member of (R260). -/
def State.cloneHeadOf (s : State) (i : Nat) : Option Nat := (upFrom 0 96).find? (fun h => (s.cloneMembers h).contains i)
/-- The pipeline that drives lane `i` (R123, R260). -/
def State.driver (s : State) (i : Nat) : Nat := (s.cloneHeadOf i).getD i

/-- Whether pipeline `p` sends its raster: RUNNING or STOPPING, by the state of its governor. -/
def State.pipeSends (s : State) (p : Nat) : Bool :=
  s.rd R.OUT_STAT_LC_STATE (s.governor p) == lcRUNNING || s.rd R.OUT_STAT_LC_STATE (s.governor p) == lcSTOPPING

end Sys2Proof.Machine
end

