-- ==== Sys2Proof/Machine/AudioOps.lean ====
section
/-! DEFINITION. The audio unit's shared operations: arithmetic (R384, R398), histories (R386, R398), groups and their loss (R387), audio frames
(R401). -/

namespace Sys2Proof.Machine

open Sys2Proof

/-! ### Arithmetic -/

/-- Saturation to 24 bits (R384). -/
def sat24 (x : Int) : Int := clampInt (-8388608) 8388607 x

/-- The greatest `m` below `2^fuel` more than `r` for which (2m − 1)^1280 × d ≤ t holds, bit by bit. -/
def gainSearch (t d : Nat) : Nat → Nat → Nat
  | 0, r => r
  | k + 1, r => if (2 * (r + 2 ^ k) - 1) ^ 1280 * d ≤ t then gainSearch t d k (r + 2 ^ k) else gainSearch t d k r

/-- The gain multiplier m = round(2^20 × 10^(GAIN / 1,280)) (R398). -/
def gainMul (mute : Bool) (gain : Nat) : Int :=
  let g := sext 16 gain
  if mute ∨ gain = 0x8000 then 0
  else if g = 0 then 1048576
  else if 0 < g then (gainSearch ((2 ^ 21) ^ 1280 * 10 ^ g.natAbs) 1 25 0 : Nat)
  else (gainSearch ((2 ^ 21) ^ 1280) (10 ^ g.natAbs) 25 0 : Nat)

/-- A route's product (R398). -/
def gained (x m : Int) : Int := sat24 ((x * m + 2 ^ 19) / 2 ^ 20)

/-- The samples of a FADE code (R394). -/
def fadeLen (c : Nat) : Nat := if c = 1 then 48 else if c = 2 then 240 else if c = 3 then 480 else 0

/-- The crossfade of R399: sample `i` of `n`. -/
def crossfade (n i : Nat) (old new : Int) : Int :=
  let w : Int := (((i + 1) * 65536 / (n + 1) : Nat) : Int)
  sat24 ((old * (65536 - w) + new * w + 32768) / 65536)

/-- The last sample under hold-and-decay (R387): linear to 0 over 240 samples, then zeros. -/
def decayed (x : Int) (i : Nat) : Int := if 240 ≤ i then 0 else (x * ((239 - i : Nat) : Int)).tdiv 240

/-! ### The grid (R382) -/

/-- The device-epoch time of grid sample `g` in ns, rounded down. -/
def State.gridTime (s : State) (g : Nat) : Int := ((g * 1000000000 : Nat) : Int) / 48000 + s.gridOfs

/-- The first grid index whose time is at or after `t`. -/
def State.gridAt (s : State) (t : Int) : Nat :=
  (-((-((t - s.gridOfs) * 48000)) / 1000000000)).toNat

/-- Whether the audio unit runs: in RUN and MIRROR, with its domain ON (R67, R618). -/
def State.audioRuns (s : State) : Bool :=
  s.audio && (s.modeCode == mRUN || s.modeCode == mMIRROR) && (s.domain 7).st == 0

/-- Whether the sample grid counts (R382): the epoch runs, neither BOOT nor LIMP holds the device (R485), and the audio unit has power
(assumption 126). -/
def State.gridRuns (s : State) : Bool :=
  s.audio && s.epochRuns && s.modeCode != mBOOT && s.modeCode != mLIMP && (s.domain 7).st != 2

/-- The grid counts from 0 again at its next instant: the offset moves with it, so that no instant of the grid moves (R110, R382, assumption
126). -/
def State.gridClear (s : State) : State :=
  { s with grid := 0, gridOfs := s.gridTime (if s.epochRuns then s.gridAt s.epoch else 0) }

/-- The grid index and offset into their registers (AUD.GRID, AUD.GRID_OFS). -/
def State.gridShow (s : State) : State :=
  let s := (s.wr R.AUD_GRID_LO_G 0 s.grid).wr R.AUD_GRID_HI_G 0 (s.grid / 2 ^ 32)
  (s.wr R.AUD_GRID_OFS_LO_GO 0 (twos 64 s.gridOfs)).wr R.AUD_GRID_OFS_HI_GO 0 (twos 64 s.gridOfs / 2 ^ 32)

/-! ### Histories (R386) -/

/-- The samples a history holds. -/
def histLen : Nat := 147456

/-- A sample enters a history at grid index `g`. -/
def State.histPut (s : State) (ch g : Nat) (x : Int) : State :=
  if x = 0 then s
  else { s with aHist := tput s.aHist ch ((g, x) :: (tget [] s.aHist ch).filter (fun e => decide (g < e.1 + histLen))) }

/-- The sample of a history at grid index `g`: zero where it holds none (R386). -/
def State.histGet (s : State) (ch g : Nat) : Int :=
  match (tget [] s.aHist ch).find? (fun e => e.1 == g) with
  | some e => if s.grid < g + histLen then e.2 else 0
  | none => 0

/-! ### Groups (R387) -/

/-- A group that has received nothing. -/
def GrpX.reset : GrpX := ⟨[], 0, 0, none, 2 ^ 32, 0, none, [0, 0, 0, 0], [], []⟩

/-- The group `g` of port `n`. -/
def State.grp (s : State) (n g : Nat) : GrpX := tget GrpX.reset s.grpX (8 * n + g)
/-- Change a group. -/
def State.setGrp (s : State) (n g : Nat) (f : GrpX → GrpX) : State := { s with grpX := tmod GrpX.reset s.grpX (8 * n + g) f }

/-- The group states (AUD.GRP_STAT.STATE). -/
def gOFF : Nat := 0
def gACQUIRE : Nat := 1
def gLOCKED : Nat := 2
def gFAULT : Nat := 3
/-- The state of a group. -/
def State.grpState (s : State) (n g : Nat) : Nat := s.rdk R.AUD_GRP_STAT_STATE n g

/-- AUD.IN_EVT (R412). -/
def evAUI : EvGroup := ⟨R.AUD_IN_EVT_FLAGS, 0x00701054, 0x0701⟩
/-- AUD.RT_EVT (R412). -/
def evART : EvGroup := ⟨R.AUD_RT_EVT_FLAGS, 0x00710038, 0x0711⟩

/-- Raise an audio event of a port, FSN on LS_TLN (R412). -/
def State.audEvent (s : State) (n bit arg : Nat) : State :=
  s.raise evAUI n 0 bit kInput n .ok (s.fsn (s.rd R.AUD_IN_CFG_LS_TLN n)) 0 arg

/-- A locked group is lost: hold-and-decay, GRP_LOSS (R387). In MIRROR the determinism stream moves it (R411). -/
def State.grpLoss (s : State) (n g : Nat) : State :=
  if s.grpState n g = gLOCKED then
    ((s.wrk R.AUD_GRP_STAT_STATE n g gOFF).setGrp n g fun x => { x with decay := some 0, posOld := none }).audEvent n 1 g
  else s

/-- The port leaves RUNNING, or detection leaves VALID (R387). -/
def State.portAudioLoss (s : State) (n : Nat) : State :=
  if s.modeCode = mMIRROR then s else (upFrom 0 8).foldl (fun s g => s.grpLoss n g) s

/-- The groups a port's configuration enables (AUD.IN_CFG.GRP_EN). -/
def State.groupsOn (s : State) (n : Nat) : List Nat := (upFrom 0 8).filter (fun g => bitAt (s.rd R.AUD_IN_CFG_GRP_EN n) g)

/-- The object key of a port's source history (R386). -/
def histKey (n : Nat) : Nat := 2 ^ 40 + n

/-- The bytes of a port's source history (R386): 2.25 MiB for each enabled group. -/
def State.histBytes (s : State) (n : Nat) : Nat := if s.audio then (s.groupsOn n).length * 2359296 else 0

/-- The source history of a starting port (R386), hidden from BAR2 as its frame store is (assumption 153). -/
def State.histAlloc (s : State) (n : Nat) : Option State :=
  if s.histBytes n = 0 then some s
  else
    match s.allocate (s.histBytes n) 65536 (histKey n) true false with
    | none => none
    | some (_, s1) => some (s1.wr R.AUD_IN_HIST_KIB n (s.histBytes n / 1024))

/-- The history is freed when the port reaches STOPPED (R386). -/
def State.histFree (s : State) (n : Nat) : State :=
  let s := s.release (histKey n)
  { s with aHist := s.aHist.filter (fun e => !(decide (32 * n ≤ e.1) && decide (e.1 < 32 * n + 32))),
           npHist := s.npHist.filter (fun e => e.1 / 16 ≠ n),
           grpX := s.grpX.filter (fun e => e.1 / 8 ≠ n) }.wr R.AUD_IN_HIST_KIB n 0

/-! ### Audio frames (R401) -/

/-- An audio frame before the first. -/
def AFrame.reset : AFrame := ⟨0, 0, 0, 0, 0, 0, 0, [], 0, 0⟩

/-- The first grid sample of frame `k` of a raster of format `f`, phase `a`, offset `ofs`: at or after its switch line (R401). -/
def State.aStart (s : State) (f : Format) (a : Int) (k ofs : Nat) : Nat := s.gridAt ((lineStart f a k f.sw + ofs : Nat) : Int)

/-- The grid samples of frame `k` of a raster of format `f`, phase `a`, offset `ofs`: those at or after its switch line and before the next
frame's (R401). -/
def State.aCount (s : State) (f : Format) (a : Int) (k ofs : Nat) : Nat := s.aStart f a (k + 1) ofs - s.aStart f a k ofs

/-- Whether a frame rate runs a sequence of five counts (R401). -/
def fiveSeq (f : Format) : Bool := f.den == 1001 && f.num != 24000

/-- The five counts of the sequence of a frame rate (R401). -/
def seqCounts (f : Format) : List Nat :=
  if f.num = 30000 then [1602, 1601, 1602, 1601, 1602] else if f.num = 60000 then [801, 801, 801, 801, 800] else [401, 400, 401, 400, 400]

/-- The place of the next frame in the sequence (R401): after a frame whose count is that of its place, the place that follows; else as the counts
of the two frames before are recognised. -/
def seqNext (f : Format) (pos c1 c2 : Nat) : Nat :=
  if !fiveSeq f then 0
  else if pos ≠ 0 ∧ (seqCounts f)[pos - 1]? = some c1 then pos % 5 + 1
  else if f.num = 30000 then (if c1 = 1602 ∧ c2 = 1602 then 2 else 0)
  else if f.num = 60000 then (if c1 = 800 then 1 else 0)
  else if c1 = 400 ∧ c2 = 400 then 1 else 0

/-- A new audio frame begins at grid sample `g0`: `n` samples are due (R401). -/
def State.aFrameNext (s : State) (key fsn g0 n : Nat) (f : Format) : State :=
  let x := tget AFrame.reset s.aFrames key
  { s with aFrames := tput s.aFrames key ⟨fsn, g0, 0, n, x.idx, x.c1, seqNext f x.pos x.idx x.c1, [], 0, 0⟩ }

end Sys2Proof.Machine
end

