-- ==== Sys2Proof/Machine/InputOps.lean ====
section
/-! DEFINITION. What the other units do to an input port: a signal that arrives or is lost (R207, R221), and the release of a frame
store (R211). -/

namespace Sys2Proof.Machine

open Sys2Proof

/-- INP.EVT (R234). -/
def evINP : EvGroup := ⟨R.INP_EVT_FLAGS, 0x00200054, 0x0201⟩

/-- The detection states (INP.STAT.IN_STATE, R207). -/
def inNO_SIGNAL : Nat := 0
def inACQUIRING : Nat := 1
def inVALID : Nat := 2

/-- Raise an event of port `n`; FSN is on REF_TLN (R234). -/
def State.inpEvent (s : State) (n bit : Nat) (st : Status) (line arg : Nat) : State :=
  s.raise evINP n 0 bit kInput n st (s.fsn (s.rd R.INP_CFG_REF_TLN n)) line arg

/-- Whether an input is in loss: not VALID, not RUNNING, or nothing published since a loss (R221 to R223). -/
def State.inLoss (s : State) (n : Nat) : Bool :=
  s.rd R.INP_STAT_IN_STATE n != inVALID || s.rd R.INP_STAT_LC_STATE n != lcRUNNING || (s.port n).lossAt.isSome

/-- The start of a loss (R221): its time, and INP.STAT.LOSS_PHASE. A loss that runs already goes on. -/
def State.beginLoss (s : State) (n : Nat) : State :=
  if (s.port n).lossAt.isSome then s
  else
    let s := s.setPort n fun x => { x with lossAt := some s.epoch, fellBack := false }
    s.wr R.INP_STAT_LOSS_PHASE n
      (if s.rd R.INP_LOSS_POLICY n = 0 ∧ (s.rd R.INP_LOSS_FREEZE_MS n ≠ 0 ∨ s.on R.INP_LOSS_FREEZE_HOLD n) then 1 else 2)

/-- The frame being written is discarded (R207, R225). -/
def State.dropFrame (s : State) (n : Nat) : State :=
  s.setPort n fun x => { x with writing := none, skipping := false, seen := false, tcNow := none }

/-- A frame store is allocated: its object key in the allocation table. -/
def storeKey (n : Nat) : Nat := objKey kInput n

/-- Free the store of a stopped port that nothing names any more (R211). -/
def State.storeCheck (s : State) (n : Nat) : State :=
  if s.rd R.INP_STAT_LC_STATE n = lcSTOPPED ∧ 0 < (s.port n).slots ∧ !s.portNamed n then
    let s := (s.release (storeKey n)).setPort n fun x => { x with slots := 0, slotBytes := 0, frames := [], first := none }
    { s with sync := s.sync.map (fun (e : Nat × SyncCtx) => if e.1 / 16 = n then (e.1, { e.2 with pick := none, frozen := none }) else e) }.wr
      R.INP_STORE_KIB n 0
  else s

/-- The live select of destination `d` was `old`'s and may name another source now: a store that nothing names any more is freed (R211). -/
def State.selectLeft (s old : State) (d : Nat) : State :=
  if old.selKind d = selFRAME ∨ old.selKind d = selSTREET then s.storeCheck (old.selNum d) else s

/-- A port becomes STOPPED: its charge is released, its source history freed, its store freed unless it is named (R41, R211, R269, R386). -/
def State.inpStopped (s : State) (n : Nat) : State :=
  (((((s.portAudioLoss n).dropFrame n).wr R.INP_STAT_LC_STATE n lcSTOPPED).uncharge (cInput n)).histFree n).storeCheck n

/-- A STOPPING port whose frame is complete or lost becomes STOPPED (R203): a loss that the last frame ended begins again (R221, R223). -/
def State.inpStopLost (s : State) (n : Nat) : State :=
  if s.rd R.INP_STAT_LC_STATE n = lcSTOPPING then (s.beginLoss n).inpStopped n else s

/-- Whether the domain of a port is ON (R618). -/
def State.portOn (s : State) (n : Nat) : Bool := (s.domain (0x100 + n)).st == 0

/-- The framer serving port `n` enters ALIGNED, or a quad-link assembly returns: measurement starts (R207). -/
def State.inpAlign (s : State) (n : Nat) : State :=
  if s.rd R.INP_STAT_IN_STATE n = inNO_SIGNAL then
    (s.wr R.INP_STAT_IN_STATE n inACQUIRING).setPort n fun x => { x with cand := none, run := 0, seen := false }
  else s

/-- The signal of port `n` is lost: the framer leaves ALIGNED, the lane is lost or disabled, the assembly is lost (R207). -/
def State.inpSignalLost (s : State) (n : Nat) : State :=
  let st := s.rd R.INP_STAT_IN_STATE n
  let s := s.setPort n fun x => { x with cand := none, run := 0, mismTold := [], fitTold := [] }
  let s := (s.dropFrame n).wr R.INP_STAT_IN_STATE n inNO_SIGNAL
  let s := s.wr R.INP_STAT_PHASE_VALID n 0
  let s := if st = inVALID then ((s.portAudioLoss n).beginLoss n).inpEvent n 1 .ok 0 1 else s
  s.inpStopLost n

end Sys2Proof.Machine
end

