-- ==== Sys2Proof/Machine/Anc.lean ====
section
/-! DEFINITION. Ancillary packets (R226, R369), ancillary timecode (R232, R367), the payload ID (R170, R174, R205) and what a link measures of a
format (R161, LNE.SDI_MEAS). PRESUMED (assumption 138): the coding of words, of timecode and of the payload ID's four bytes is that of the
SMPTE standards that R159, R226 and R232 name. -/

namespace Sys2Proof.Machine

open Sys2Proof

/-! ### Packets -/

/-- How many of the low `n` bits are 1. -/
def onesIn (v n : Nat) : Nat := ((upFrom 0 n).filter (bitAt v)).length

/-- Eight bits as a 10-bit word: even parity in bit 8 and its inverse in bit 9. -/
def parity10 (v : Nat) : Nat :=
  let p := onesIn v 8 % 2
  v % 256 + 256 * p + 512 * (1 - p)

/-- Nine bits as a 10-bit word: bit 9 is the inverse of bit 8. -/
def inv10 (v : Nat) : Nat := v % 512 + 512 * (1 - v % 512 / 256)

/-- The checksum word of the words from DID to the last user data word. -/
def ancSum (ws : List Nat) : Nat := inv10 (ws.foldl (fun a w => a + w % 512) 0)

/-- The words of a packet from its DID to its checksum. -/
def ancBody (did sdid : Nat) (udw : List Nat) : List Nat :=
  let ws := parity10 did :: parity10 sdid :: parity10 udw.length :: udw
  ws ++ [ancSum ws]

/-- A packet with its ancillary data flag. -/
def ancPacket (did sdid : Nat) (udw : List Nat) : List Nat := [0, 1023, 1023] ++ ancBody did sdid udw

end Sys2Proof.Machine

namespace Sys2Proof

open Sys2Proof.Machine

/-- DID of a received packet. -/
def AncPkt.did (p : AncPkt) : Nat := p.words.getD 0 0 % 256
/-- SDID or DBN of a received packet. -/
def AncPkt.sdid (p : AncPkt) : Nat := p.words.getD 1 0 % 256
/-- The user data words of a received packet: as many as DC says. -/
def AncPkt.udw (p : AncPkt) : List Nat := ((p.words.drop 3).take (p.words.getD 2 0 % 256)).map (· % 1024)
/-- The checksum word of a received packet. -/
def AncPkt.csum (p : AncPkt) : Nat := p.words.getD (3 + p.words.getD 2 0 % 256) 0 % 1024
/-- Whether DID, SDID or DBN, and DC pass their parity check (R226). -/
def AncPkt.parityOk (p : AncPkt) : Bool := (upFrom 0 3).all (fun i => parity10 (p.words.getD i 0) == p.words.getD i 0 % 1024)
/-- Whether the checksum of the words is right (R226). -/
def AncPkt.csumOk (p : AncPkt) : Bool := ancSum (p.words.take (3 + p.words.getD 2 0 % 256)) == p.csum

end Sys2Proof

namespace Sys2Proof.Machine

open Sys2Proof

/-! ### Ancillary timecode (R232, R367) -/

/-- Whether the frame rate of a format is a multiple of 25 frames a second: its timecode carries the field or frame-pair flag in bit 59 of the word, at
the other rates in bit 27 (R232; PRESUMED, assumption 138). -/
def tcFive (c : Nat) : Bool := ceilRate (fmtD c) % 25 == 0

/-- The 16 four-bit groups of a timecode word (laid out as INP.TC) and its binary groups (as INP.TC_UB): frames, seconds, minutes and hours
interleaved with binary groups 1 to 8. -/
def tcNibbles (five : Bool) (w ub : Nat) : List Nat :=
  let g := fun (k : Nat) => bitsOf ub (4 * k) 4
  let pair := bitsOf w 15 1
  [ bitsOf w 0 4, g 0, bitsOf w 4 2 + 4 * bitsOf w 30 1 + 8 * bitsOf w 23 1, g 1, bitsOf w 8 4, g 2, bitsOf w 12 3 + (if five then 0 else 8 * pair), g 3,
    bitsOf w 16 4, g 4, bitsOf w 20 3, g 5, bitsOf w 24 4, g 6, bitsOf w 28 2 + (if five then 8 * pair else 0), g 7 ]

/-- The user data words of an ATC packet: the groups in bits 7 to 4, the distributed binary bits in bit 3, DBB1 `kind` with the first eight. -/
def atcUdw (five : Bool) (kind w ub : Nat) : List Nat :=
  (upFrom 0 16).map (fun k => parity10 ((tcNibbles five w ub).getD k 0 * 16 + (if k < 8 then bitsOf kind k 1 else 0) * 8))

/-- The ATC packet of a timecode (R367): DID and SDID 0x60; `kind` 0 LTC, 1 VITC1. -/
def atcPacket (five : Bool) (kind w ub : Nat) : List Nat := ancPacket 0x60 0x60 (atcUdw five kind w ub)

/-- The INP.TC word, without VALID, that 16 groups spell. -/
def tcWordOf (five : Bool) (g : Nat → Nat) : Nat :=
  g 0 + bitsOf (g 2) 0 2 * 16 + bitsOf (g 2) 2 1 * 2 ^ 30 + bitsOf (g 2) 3 1 * 2 ^ 23 + g 4 * 2 ^ 8 + bitsOf (g 6) 0 3 * 2 ^ 12
    + bitsOf (g (if five then 14 else 6)) 3 1 * 2 ^ 15 + g 8 * 2 ^ 16 + bitsOf (g 10) 0 3 * 2 ^ 20 + g 12 * 2 ^ 24 + bitsOf (g 14) 0 2 * 2 ^ 28

/-- The timecode a received packet carries, if it is one: 1 ATC_LTC or 2 ATC_VITC1 as INP.TCCFG names them, the INP.TC word and the user bits. -/
def atcOf (five : Bool) (p : AncPkt) : Option (Nat × Nat × Nat) :=
  let u := p.udw
  let dbb := (upFrom 0 8).foldl (fun a k => a + bitsOf (u.getD k 0) 3 1 * 2 ^ k) 0
  if p.did ≠ 0x60 ∨ p.sdid ≠ 0x60 ∨ u.length ≠ 16 ∨ 2 ≤ dbb then none
  else
    let g := fun (k : Nat) => bitsOf (u.getD k 0) 4 4
    some (dbb + 1, tcWordOf five g, (upFrom 0 8).foldl (fun a k => a + g (2 * k + 1) * 16 ^ k) 0)

/-! ### What a link measures of a format (R161) -/

/-- The raster lines of a format that one line of the link carries: 1, or 2 and 4 for the pictures on the 1125-line structure. -/
def lineFold (f : Format) : Nat := if f.lines = 2250 then 2 else if f.lines = 4500 then 4 else 1

/-- Lines per frame and words per line of one data stream, as LNE.SDI_MEAS reports them. Structures 1 to 4 take two words a sample on level A
and above; at level B-DL each link takes one. -/
def linkMeas (c struct : Nat) (levelB : Bool) : Nat × Nat :=
  let f := fmtD c
  let m := lineFold f
  (f.lines / m, if f.lines ≤ 625 then 2 * f.spl else if struct = 0 ∨ levelB then f.spl / m else 2 * f.spl / m)

/-- The data streams of a link (R161): one at 270 Mbit/s; a luma and a chroma stream for each sub-image of a picture of 2160 lines or of the
sub-picture of a quad-link; both links of level B-DL. PRESUMED (assumption 143): a 4320p picture of at most 30 frames a second at structure 0, which
R161 carries on four links of 11.88 Gbit/s, fills each with as many black streams again. -/
def linkStreams (c struct : Nat) (levelB : Bool) : Nat :=
  let f := fmtD c
  if f.lines ≤ 625 then 1 else if levelB then 4
  else (if lineFold f = 1 then 2 else 8) * (if struct = 0 ∧ 0x50 ≤ c ∧ c ≤ 0x54 then 2 else 1)

/-- Whether the line structure of a format on its link has two fields: interlaced and PsF formats, and the two links of level B-DL, each of which
carries every other line of a progressive picture. -/
def linkFields (c struct : Nat) (levelB : Bool) : Bool :=
  (fmtD c).scan != 2 || (levelB && struct == 0)

/-- Every format code (R161). -/
def formatCodes : List Nat :=
  [0x01, 0x02] ++ upFrom 0x10 3 ++ upFrom 0x20 3 ++ upFrom 0x28 3 ++ upFrom 0x30 11 ++ upFrom 0x40 8 ++ upFrom 0x50 8

/-- The format codes of a scan that a measurement allows at structure 0, or at structures 1 to 4 (R161, R205): `rate` is the rate code, `streams` the
data streams of a link (R164), `quad` whether four links are assembled. -/
def codesOf (rate lines words streams : Nat) (fields quad levelB multi psf : Bool) : List Nat :=
  formatCodes.filter (fun c => rateFor c (b2n multi) == rate && linkMeas c (b2n multi) levelB == (lines, words)
    && linkStreams c (b2n multi) levelB == streams && linkFields c (b2n multi) levelB == fields && is4320 c == quad && ((fmtD c).scan == 1) == psf)

/-- What a measurement names (R205): structure 0 wherever it fits, else structures 1 to 4. -/
def measure205 (rate lines words streams : Nat) (fields quad levelB : Bool) : Meas :=
  let one := fun (multi psf : Bool) => (codesOf rate lines words streams fields quad levelB multi psf).headD 0
  if one false false ≠ 0 ∨ one false true ≠ 0 then ⟨one false false, one false true, false⟩
  else ⟨one true false, one true true, one true false != 0 || one true true != 0⟩

/-! ### The payload ID (R170, R174, R205, R206) -/

/-- Byte 1 of the payload ID: the payload and its interface. -/
def vpidByte1 (c struct : Nat) (levelB : Bool) : Nat :=
  let r := rateFor c struct
  let f := fmtD c
  if r = 1 then 0x81
  else if is4320 c then 0xD2
  else if r ≤ 3 then (if f.lines = 750 then 0x84 else 0x85)
  else if r ≤ 5 then (if levelB then 0x8A else if f.lines = 750 then 0x88 else 0x89)
  else if r ≤ 7 then (if f.lines = 2250 then 0xC0 else 0xC1)
  else if f.lines = 2250 then 0xCE else 0xCF

/-- The picture rate code of byte 2. -/
def vpidRate (f : Format) : Nat :=
  if f.den = 1001 then (if f.num = 24000 then 2 else if f.num = 30000 then 6 else if f.num = 60000 then 0xA else 0xE)
  else if f.num = 24 then 3 else if f.num = 25 then 5 else if f.num = 30 then 7 else if f.num = 50 then 9 else if f.num = 60 then 0xB
  else if f.num = 100 then 0xD else 0xF

/-- The payload ID of a format and structure as one word, byte 1 lowest: picture scan and rate, transfer characteristic, colorimetry, sampling,
bit depth and link number `link` (0 first). -/
def vpidFor (c struct transfer color link : Nat) (levelB : Bool) : Nat :=
  let f := fmtD c
  let b2 := (if f.scan = 2 ∧ !linkFields c struct levelB then 128 else 0) + (if f.scan = 0 then 0 else 64) + transfer % 4 * 16 + vpidRate f
  let b3 := (if color = 1 then 2 else 0) * 16 + (if struct = 0 then 0 else if struct = 1 ∨ struct = 3 then 1 else 2)
  let b4 := link % 8 * 32 + (if 3 ≤ struct then 2 else 1)
  vpidByte1 c struct levelB + b2 * 2 ^ 8 + b3 * 2 ^ 16 + b4 * 2 ^ 24

/-- The link number of a payload ID, 0 first. -/
def vpidLink (v : Nat) : Nat := bitsOf v 29 3

/-- The sample structure of a payload ID. -/
def vpidStruct (v : Nat) : Nat :=
  let smp := bitsOf v 16 4
  let deep := bitsOf v 24 2 == 2
  if smp = 0 then 0 else if smp = 1 then (if deep then 3 else 1) else if smp = 2 then (if deep then 4 else 2) else 0

/-- Whether a payload ID agrees with a measured format on raster and rate (R206): its payload and interface, whether its transport has two fields,
its picture rate. `level` is LNE.SDI_STAT.LEVEL; a stream of level B-DS names its own payload and interface. -/
def vpidAgrees (v c level : Nat) : Bool :=
  bitsOf v 0 8 == (if level = 3 then (if (fmtD c).lines = 750 then 0x8B else 0x8C) else vpidByte1 c (vpidStruct v) (level == 2))
    && bitAt v 15 != linkFields c (vpidStruct v) (level == 2)
    && bitsOf v 8 4 == vpidRate (fmtD c)

/-- What a payload ID says beside a measurement (R205, R206): its own scan is PsF when the transport has fields and the picture none. -/
def vpidRead (v : Nat) (m : Meas) (level : Nat) : Vpid :=
  let psf := !bitAt v 15 && bitAt v 14
  let c := if psf ∧ m.fmtPsF ≠ 0 then m.fmtPsF else m.fmt
  ⟨vpidAgrees v c level, psf, vpidStruct v, if bitsOf v 12 2 ≤ 2 then bitsOf v 12 2 else 0, b2n (bitsOf v 20 2 == 2)⟩

/-- The payload ID that a received packet carries, when it is one with a right checksum (R170): DID 0x41, SDID 0x01, four words. -/
def vpidOfWords (ws : List Nat) : Option Nat :=
  let p : AncPkt := ⟨1, 1, 0, true, 0, ws⟩
  if p.parityOk && p.csumOk && p.did == 0x41 && p.sdid == 1 && p.udw.length == 4 then some (leVal (p.udw.map (· % 256))) else none

/-- The packet that carries a payload ID. -/
def vpidPacket (v : Nat) : List Nat := ancPacket 0x41 1 ((leBytes 4 v).map parity10)

end Sys2Proof.Machine
end

