-- ==== Sys2Proof/Machine/SdiWords.lean ====
section
/-! DEFINITION. The words of an SDI transmitter (R172 to R180): timing references, line numbers, CRCs, EDH packets, the sample words of each
structure on its link, the multiplex, scrambler and NRZI, and the packets of embedded audio (R385, R388, R402). PRESUMED (assumption 143): these
codings are those of the SMPTE standards that R159 and R385 name. -/

namespace Sys2Proof.Machine

open Sys2Proof

/-! ### Timing references, line numbers and checks -/

/-- The fourth word of a timing reference: the F, V and H bits and their protection. -/
def xyzWord (f v h : Nat) : Nat :=
  512 + 256 * f + 128 * v + 64 * h + 32 * (v ^^^ h) + 16 * (f ^^^ h) + 8 * (f ^^^ v) + 4 * (f ^^^ v ^^^ h)

/-- EAV (`h` 1) or SAV (`h` 0). -/
def trsWords (f v h : Nat) : List Nat := [1023, 0, 0, xyzWord f v h]

/-- The two line-number words. -/
def lnWords (line : Nat) : List Nat := [inv10 (line % 128 * 4), inv10 (line / 128 % 16 * 4)]

/-- One 10-bit word of a reflected CRC. -/
def crcWord (poly c w : Nat) : Nat := (upFrom 0 10).foldl (fun c _ => crcBit poly c) (c ^^^ w % 1024)

/-- The line CRC of a data stream, x^18 + x^5 + x^4 + 1. -/
def crc18 (c : Nat) (ws : List Nat) : Nat := ws.foldl (crcWord 0x23000) c
/-- The two CRC words. -/
def crcWords (c : Nat) : List Nat := [inv10 (c % 512), inv10 (c / 512)]

/-- The EDH CRC, x^16 + x^12 + x^5 + 1. -/
def crc16 (c : Nat) (ws : List Nat) : Nat := ws.foldl (crcWord 0x8408) c

/-- Eight bits and two zeros above them as the EDH packet carries six bits of a CRC. -/
def edhCrc (c : Nat) : List Nat := [parity10 (c % 64 * 4), parity10 (c / 64 % 64 * 4), parity10 (128 + c / 4096 * 4)]

/-- The EDH packet of a field: the CRCs over its active picture and its full field, and every error flag at 0 (R172, R173). -/
def edhPacket (ap ff : Nat) : List Nat := ancPacket 0xF4 0 (edhCrc ap ++ edhCrc ff ++ List.replicate 10 (parity10 0))

/-- Whether a line carries the EDH packet. -/
def edhLine (f : Format) (line : Nat) : Bool := if f.lines = 525 then line == 9 || line == 272 else line == 5 || line == 318
/-- Whether a line counts for the active-picture CRC. -/
def edhApLine (f : Format) (l : Nat) : Bool :=
  if f.lines = 525 then (decide (21 ≤ l) && decide (l ≤ 262)) || (decide (284 ≤ l) && decide (l ≤ 525))
  else (decide (24 ≤ l) && decide (l ≤ 310)) || (decide (336 ≤ l) && decide (l ≤ 622))
/-- Whether a line counts for the full-field CRC. -/
def edhFfLine (f : Format) (l : Nat) : Bool :=
  if f.lines = 525 then !((decide (9 ≤ l) && decide (l ≤ 11)) || (decide (272 ≤ l) && decide (l ≤ 274)))
  else !((decide (5 ≤ l) && decide (l ≤ 7)) || (decide (318 ≤ l) && decide (l ≤ 320)))

/-! ### Scrambler and NRZI -/

/-- One bit through the scrambler x^9 + x^4 + 1 and the NRZI coder: bits 8 to 0 of the register are the last nine scrambled bits, the newest
lowest, bit 9 the last level sent. -/
def scrBit (r d : Nat) : Nat :=
  let o := (d + bitsOf r 3 1 + bitsOf r 8 1) % 2
  (r * 2 + o) % 512 + 512 * ((bitsOf r 9 1 + o) % 2)

/-- Ten bits of a word, least significant first: the register after them and the levels sent. -/
def scrWord (r w : Nat) : Nat × Nat :=
  (upFrom 0 10).foldl (fun a i => let r := scrBit a.1 (bitsOf w i 1); (r, a.2 + bitsOf r 9 1 * 2 ^ i)) (r, 0)

/-- The levels sent for words, in ten-bit groups, and the register after them (R172). -/
def scrWords : Nat → List Nat → Nat × List Nat
  | r, [] => (r, [])
  | r, w :: ws => let a := scrWord r w; let b := scrWords a.1 ws; (b.1, a.2 :: b.2)

/-! ### Sample words (R161) -/

/-- A pixel as green or luma, blue or Cb, red or Cr. -/
def gbr (struct : Nat) (p : Pixel) : Nat × Nat × Nat := if struct = 2 ∨ struct = 4 then (p.cb, p.cr, p.y) else (p.y, p.cb, p.cr)

/-- The chroma words of a row at structure 0: Cb and Cr of each even pixel. -/
def chromaWords : List Pixel → List Nat
  | p :: _ :: t => p.cb :: p.cr :: chromaWords t
  | [p] => [p.cb]
  | [] => []

/-- The words of a row of one sub-image, as pairs of data streams (the odd-numbered, luma; the even-numbered, chroma). Structures 1 to 4 take two
words a sample and stream on level A and above; at level B-DL link A and link B take one each. -/
def pixWords (struct : Nat) (levelB : Bool) (row : List Pixel) : List (List Nat × List Nat) :=
  if struct = 0 then [(row.map (·.y), chromaWords row)]
  else
    let px := row.map (gbr struct)
    let deep := decide (3 ≤ struct)
    let top := fun (v : Nat) => if deep then v / 4 else v
    if levelB then
      let alt := fun (q : Nat) => (upFrom 0 px.length).map (fun i =>
        let p := px.getD (i / 2 * 2 + q) (0, 0, 0)
        if i % 2 = 0 then top p.2.1 else top p.2.2)
      [(px.map (fun p => top p.1), alt 0),
       (px.map (fun p => if deep then parity10 (p.1 % 4 * 64 + p.2.1 % 4 * 16 + p.2.2 % 4 * 4) else 64), alt 1)]
    else if deep then
      let w := fun (k : Nat) (p : Nat × Nat × Nat) => inv10 (bitsOf p.2.2 k 3 * 64 + bitsOf p.1 k 3 * 8 + bitsOf p.2.1 k 3)
      [(px.flatMap (fun p => [w 9 p, w 6 p]), px.flatMap (fun p => [w 3 p, w 0 p]))]
    else [(px.flatMap (fun p => [p.1, p.2.2]), px.flatMap (fun p => [p.2.1, 64]))]

/-- The order in which `n` data streams leave, word by word. -/
def muxOrder (n : Nat) : List Nat :=
  if n = 2 then [1, 0] else if n = 4 then [3, 1, 2, 0] else if n = 8 then [7, 3, 5, 1, 6, 2, 4, 0] else upFrom 0 n

/-- Data streams of one length as one sequence of words. -/
def muxWords (streams : List (List Nat)) : List Nat :=
  let l := (muxOrder streams.length).map (fun i => streams.getD i [])
  (l.foldr (fun st acc => List.zipWith (fun a b => a :: b) st acc) (List.replicate (streams.headD []).length [])).flatten

/-! ### Two-sample interleave (R161, R180, R263) -/

/-- The pixels of a row `y` that sub-image `j` of four takes. -/
def linkRow (j y : Nat) (row : List Pixel) : List Pixel :=
  if y % 2 ≠ j / 2 then []
  else ((upFrom 0 (row.length / 2)).filter (fun k => k % 2 == j % 2)).flatMap (fun k => [row.getD (2 * k) ⟨0, 0, 0⟩, row.getD (2 * k + 1) ⟨0, 0, 0⟩])

/-- The rows of the four sub-images that the rows of one interface line give. -/
def quarters (rows : List (Nat × List Pixel)) : List (List Pixel) := (upFrom 0 4).map (fun j => rows.flatMap (fun r => linkRow j r.1 r.2))

/-- The rows of the sub-images of a link: one, those of a 2160-line picture, or those of the sub-picture that link `j` of four carries. -/
def subImages (fold j : Nat) (rows : List (Nat × List Pixel)) : List (List Pixel) :=
  if fold = 1 then rows.map (·.2)
  else if fold = 2 then quarters rows
  else quarters ((rows.filter (fun r => r.1 % 2 == j / 2)).map (fun r => (r.1 / 2, linkRow j r.1 r.2)))

/-! ### Embedded audio (R385, R388, R402, R403) -/

/-- A byte of professional channel status (R388): 48 kHz, 24-bit, non-audio on a non-PCM pair. -/
def csBytes (npcm : Bool) : List Nat := [0x85 + 2 * b2n npcm, 0, 0x2C] ++ List.replicate 20 0

/-- The check byte of channel status, x^8 + x^4 + x^3 + x^2 + 1 from ones. -/
def csCheck (npcm : Bool) : Nat := (csBytes npcm).foldl (crcByte 0xB8) 0xFF

/-- Bit `pos` of the 192 of a block of channel status. -/
def csBit (npcm : Bool) (pos : Nat) : Nat := bitsOf ((csBytes npcm ++ [csCheck npcm]).getD (pos / 8) 0) (pos % 8) 1

/-- One channel's sample as embedded: its code, its channel status bit. -/
structure EmbSmp where
  code : Nat
  cs : Nat
deriving DecidableEq, Repr

/-- The four words of a 24-bit sample: `z` starts a block of channel status. -/
def smpWords24 (z : Bool) (x : EmbSmp) : List Nat :=
  let p := (onesIn x.code 24 + x.cs) % 2
  [parity10 (b2n z * 8 + bitsOf x.code 0 4 * 16), parity10 (bitsOf x.code 4 8), parity10 (bitsOf x.code 12 8),
   parity10 (bitsOf x.code 20 4 + x.cs * 64 + p * 128)]

/-- The three words of a 20-bit sample of channel `c` of a group on SD. -/
def smpWords20 (z : Bool) (c : Nat) (x : EmbSmp) : List Nat :=
  let w1 := b2n z + c * 2 + bitsOf x.code 0 6 * 8
  let w2 := bitsOf x.code 6 9
  let w3 := bitsOf x.code 15 5 + x.cs * 128
  [inv10 w1, inv10 w2, inv10 (w3 + (onesIn w1 9 + onesIn w2 9 + onesIn w3 8) % 2 * 256)]

/-- The six check words of an HD audio packet: in each of the low eight bits, x^6 + x^5 + x^3 + 1 over the 24 words before. -/
def eccWords (ws : List Nat) : List Nat :=
  let col := fun (b : Nat) => ws.foldl (fun r w =>
    let o := (bitsOf r 5 1 + bitsOf w b 1) % 2
    (r * 2 % 64) ^^^ (if o = 1 then 0x29 else 0)) 0
  (upFrom 0 6).map (fun k => parity10 ((upFrom 0 8).foldl (fun a b => a + bitsOf (col b) (5 - k) 1 * 2 ^ b) 0))

/-- DID of the HD audio data packet of a group. -/
def hdAudioDid (g : Nat) : Nat := if g < 4 then 0xE7 - g else 0xA7 - (g - 4)
/-- DID of the HD audio control packet of a group. -/
def hdAcpDid (g : Nat) : Nat := if g < 4 then 0xE3 - g else 0xA3 - (g - 4)

/-- The HD audio data packet of a sample frame of a group: `clk` the clock field. -/
def hdAudioPacket (g clk : Nat) (z : Bool) (smp : List EmbSmp) : List Nat :=
  let udw := [parity10 (clk % 256), parity10 (clk / 256 % 16 + clk / 4096 % 2 * 32)] ++ smp.flatMap (smpWords24 z)
  let ecc := eccWords ([0, 1023, 1023, parity10 (hdAudioDid g), parity10 0, parity10 24] ++ udw)
  ancPacket (hdAudioDid g) 0 (udw ++ ecc)

/-- The SD audio data packet of a group: the sample frames of a line, each with whether it starts a block. -/
def sdAudioPacket (g : Nat) (l : List (Bool × List EmbSmp)) : List Nat :=
  ancPacket (0xFF - 2 * g) 0 (l.flatMap (fun f => ((upFrom 0 f.2.length).zip f.2).flatMap (fun e => smpWords20 f.1 e.1 e.2)))

/-- The SD extended data packet of a group: the four low bits of 24, two samples a word. -/
def sdExtPacket (g : Nat) (l : List (Bool × List EmbSmp)) : List Nat :=
  ancPacket (0xFE - 2 * g) 0 (l.flatMap (fun f =>
    let x := fun (c : Nat) => (f.2.getD c ⟨0, 0⟩).code % 16
    [parity10 (x 0 + x 1 * 16), parity10 (x 2 + x 3 * 16)]))

/-- The audio control packet of a group: the audio frame number, 48 kHz synchronous, all channels active, no delay. -/
def acpPacket (sd : Bool) (g num : Nat) : List Nat :=
  if sd then ancPacket (0xEF - g) 0 ([inv10 num, inv10 num, parity10 0, parity10 15] ++ List.replicate 14 (parity10 0))
  else ancPacket (hdAcpDid g) 0 ([inv10 num, parity10 0, parity10 15] ++ List.replicate 8 (parity10 0))

end Sys2Proof.Machine
end

