-- ==== Sys2Proof/Machine/SdiRows.lean ====
section
/-! DEFINITION. What the words of a received SDI line say (R164, R167, R168) and the pixels they carry (R36, R161, R178): the reading of the codings
that Sys2Proof/Machine/SdiWords.lean writes. PRESUMED (assumption 143): these codings are those of the SMPTE standards that R159 names. -/

namespace Sys2Proof.Machine

open Sys2Proof

/-! ### Data streams -/

/-- Every `n`-th word, from the one after the first `k`. -/
def everyNth (n : Nat) : Nat → List Nat → List Nat
  | _, [] => []
  | 0, w :: ws => w :: everyNth n (n - 1) ws
  | k + 1, _ :: ws => everyNth n k ws

/-- The data streams of a line of `w` words a stream, as the words arrive. -/
def lineStreams (w : Nat) (words : List Nat) : List (List Nat) :=
  let n := words.length / max 1 w
  (upFrom 0 n).map (fun j => everyNth n j words)

/-- Whether a data stream starts with a right EAV. -/
def eavOk : List Nat → Bool
  | 1023 :: 0 :: 0 :: x :: _ => x == xyzWord (bitsOf x 8 1) (bitsOf x 7 1) 1
  | _ => false

/-- What follows SAV in a data stream. -/
def afterSav : List Nat → List Nat
  | [] => []
  | a :: t =>
    match a, t with
    | 1023, 0 :: 0 :: x :: r => if bitAt x 6 then afterSav t else r
    | _, _ => afterSav t

/-! ### EDH packets (R168) -/

/-- The format of a 270 Mbit/s signal by its lines. -/
def sdFormat (lines : Nat) : Format := fmtD (if lines = 525 then 1 else 2)

/-- The 16-bit CRC that three words of an EDH packet carry, none where they say that it is not valid. -/
def edhField (u : List Nat) : Option Nat :=
  if bitAt (u.getD 2 0) 7 then some (bitsOf (u.getD 0 0) 2 6 + 64 * bitsOf (u.getD 1 0) 2 6 + 4096 * bitsOf (u.getD 2 0) 2 4) else none

/-- Whether words from a DID on are an EDH packet. -/
def isEdh (words : List Nat) : Bool := words.getD 0 0 % 256 == 0xF4 && words.getD 1 0 % 256 == 0 && decide (10 ≤ words.length)

/-! ### Pixels (R161) -/

/-- A pixel of its green or luma, blue or Cb, red or Cr. -/
def ofGbr (struct g b r : Nat) : Pixel := if struct = 2 ∨ struct = 4 then ⟨r, g, b⟩ else ⟨g, b, r⟩

/-- The row of a pair of data streams at structure 0: a luma and a chroma stream. -/
def row422 : List Nat → List Nat → List Pixel
  | y :: y' :: ys, b :: r :: cs => ⟨y, b, r⟩ :: ⟨y', b, r⟩ :: row422 ys cs
  | _, _ => []

/-- The row of a pair at structures 1 and 2: two words a sample in each stream. -/
def row444 (struct : Nat) : List Nat → List Nat → List Pixel
  | g :: r :: ls, b :: _ :: cs => ofGbr struct g b r :: row444 struct ls cs
  | _, _ => []

/-- A 12-bit component from three bits of each of four words, the highest first. -/
def deepBits (a b c d lo : Nat) : Nat := bitsOf a lo 3 * 512 + bitsOf b lo 3 * 64 + bitsOf c lo 3 * 8 + bitsOf d lo 3

/-- The row of a pair at structures 3 and 4. -/
def rowDeep (struct : Nat) : List Nat → List Nat → List Pixel
  | a :: b :: ls, c :: d :: cs => ofGbr struct (deepBits a b c d 3) (deepBits a b c d 0) (deepBits a b c d 6) :: rowDeep struct ls cs
  | _, _ => []

/-- The row of the two pairs of level B-DL at structures 1 to 4: luma and chroma of link A, then of link B. -/
def rowB (struct : Nat) : List Nat → List Nat → List Nat → List Nat → List Pixel
  | g :: g' :: gs, b :: r :: cs, x :: x' :: xs, b' :: r' :: ds =>
    let c := fun (top low lo : Nat) => if 3 ≤ struct then top * 4 + bitsOf low lo 2 else top
    ofGbr struct (c g x 6) (c b x 4) (c r x 2) :: ofGbr struct (c g' x' 6) (c b' x' 4) (c r' x' 2) :: rowB struct gs cs xs ds
  | _, _, _, _ => []

/-- Two rows of sub-images as one row, two samples of each in turn. -/
def weavePairs : List Pixel → List Pixel → List Pixel
  | a :: a' :: l, b :: b' :: m => a :: a' :: b :: b' :: weavePairs l m
  | _, _ => []

/-- The two rows that a row of each of four sub-images makes. -/
def unquarter : List (List Pixel) → List (List Pixel)
  | [a, b, c, d] => [weavePairs a b, weavePairs c d]
  | l => l

/-- The pairs of data streams of a link, luma and chroma, by their numbers: what follows SAV in each. At 270 Mbit/s the one stream holds both. -/
def rxPairs (bodies : List (List Nat)) : List (List Nat × List Nat) :=
  let at' := fun (k : Nat) => bodies.getD ((muxOrder bodies.length).findIdx (· == k)) []
  if bodies.length = 1 then [(everyNth 2 1 (at' 0), everyNth 2 0 (at' 0))]
  else (upFrom 0 (bodies.length / 2)).map (fun k => (at' (2 * k), at' (2 * k + 1)))

/-- The rows that one line of a link carries: of the picture, or of the sub-picture of one of four links. -/
def linkRows (struct : Nat) (levelB : Bool) (pairs : List (List Nat × List Nat)) : List (List Pixel) :=
  if levelB ∧ struct ≠ 0 then
    match pairs with
    | [(g, c), (x, d)] => [rowB struct g c x d]
    | _ => []
  else
    let subs := pairs.map (fun p => if struct = 0 then row422 p.1 p.2 else if struct ≤ 2 then row444 struct p.1 p.2 else rowDeep struct p.1 p.2)
    if 4 ≤ subs.length then unquarter (subs.take 4) else subs

/-- The rows of the picture that the rows of the four links of a quad-link make (R178). -/
def quadRows (links : List (List (List Pixel))) : List (List Pixel) :=
  (upFrom 0 (links.headD []).length).flatMap (fun k => unquarter (links.map (fun l => l.getD k [])))

/-- The raster lines that a line of the link carries: 1, 2 or 4 of the same frame, or at level B-DL with structure 0 two lines in turn of the frames
that two fields carry. -/
def rxRasters (c struct : Nat) (levelB : Bool) (line : Nat) : List Nat :=
  if levelB ∧ struct = 0 then [(2 * line + 1124) % 1125 + 1, 2 * line % 1125 + 1]
  else let m := lineFold (fmtD c); upFrom (m * (line - 1) + 1) m

end Sys2Proof.Machine
end

