-- ==== Sys2Proof/Machine/LaneOps.lean ====
section
/-! DEFINITION. What a lane reports of itself: the transmit rate and state, the bands and settings in use (R118, R119, R123, R126,
R127, R134 to R138, R148 to R154, R631), as functions of the state, and what else its transmitter carries. -/

namespace Sys2Proof.Machine

open Sys2Proof

/-- The lane states (LNE.STATUS.RX_STATE, R129). -/
def rxDISABLED : Nat := 0
def rxHUNT : Nat := 1
def rxLOCKED : Nat := 2
/-- The framer states (LNE.SDI_STAT.FR_STATE, R164). -/
def frOFF : Nat := 0
def frSEARCH : Nat := 1
def frALIGNED : Nat := 2
/-- The link states (LNE.GL_STAT.LINK_STATE, R195). -/
def glDOWN : Nat := 0
def glTRAIN : Nat := 1
def glUP : Nat := 2

/-- Lane modes (LNE.CTL.MODE). -/
def mdSDI : Nat := 0
def mdGL : Nat := 1
def mdETH : Nat := 2

/-- Whether a lane index names a twin lane. -/
def isTwinLane (i : Nat) : Bool := decide (96 ≤ i) && decide (i < 104)

/-- Whether a lane supports a MODE (R117, R119). -/
def modeOk (i m : Nat) : Bool := if i < 96 then m == 0 || m == 1 else if i < 104 then m == 1 else m == 2

/-- Whether a mode supports an RX_RATE (R118, R119). -/
def rateOk (m r : Nat) : Bool :=
  r == 0 || (m == 0 && (decide (r ≤ 9) || r == 0xF)) || (m == 1 && decide (0xA ≤ r) && decide (r ≤ 0xC))
    || (m == 2 && (r == 0xD || r == 0xE))

/-- Whether a lane counts as RUNNING for R30 (R124). -/
def State.laneRuns (s : State) (i : Nat) : Bool := s.on R.LNE_CTL_ENABLE i || s.rd R.LNE_STATUS_RX_STATE i != rxDISABLED

/-- The nominal code of the AUTO family of a rate code (R130). -/
def familyOf (r : Nat) : Nat := if r == 9 then 8 else if r == 7 then 6 else if r == 5 then 4 else if r == 3 then 2 else r

/-- The family tried after another (R130). -/
def nextFamily (r : Nat) : Nat := if r == 8 then 6 else if r == 6 then 4 else if r == 4 then 2 else if r == 2 then 1 else 8

/-- The rate code that the format and sample structure of pipeline `p` ask for (R123, R161). -/
def State.pipeRate (s : State) (p : Nat) : Nat :=
  rateFor (s.rd R.OUT_TMG_FMT_FMT (s.governor p)) (s.rd R.OUT_TMG_FMT_STRUCT (s.governor p))

/-- Whether an output at a format and structure is level B-DL (R161, R176): LEVEL_B_TX at 1, at 2.97 Gbit/s. DESIGN CHOICE (assumption 145): a
750-line format, which R161 carries on level A only, stays on level A. -/
def levelBTx (on : Bool) (c struct : Nat) : Bool :=
  on && (rateFor c struct == 4 || rateFor c struct == 5) && decide (0x20 ≤ c)

/-- Whether LIMP black is sent: BLACK at 1 and FMT a single-link format (R154). -/
def State.limpBlack (s : State) (i : Nat) : Bool :=
  s.on R.LNE_LIMP_CFG_BLACK i && (formatOf (s.rd R.LNE_LIMP_CFG_FMT i)).isSome && !is4320 (s.rd R.LNE_LIMP_CFG_FMT i)

/-- Whether a video lane's transmitter is a bypass target's (R146, R148). -/
def State.bypassed (s : State) (i : Nat) : Bool := decide (i < 96) && s.on R.LNE_BYPASS_STAT_ACTIVE i

/-- The transmit rate in use (R123): by mode; 0 while the lane is disabled (assumption 159). A bypass target sends at its source's rate (R150), in every mode of
its own; in LIMP a video lane sends black at LIMP_CFG.FMT or nothing (R154). -/
def State.txRate (s : State) (i : Nat) : Nat :=
  if !s.on R.LNE_CTL_ENABLE i then 0
  else if s.bypassed i then s.rd R.LNE_STATUS_RX_RATE_DET (s.rd R.LNE_BYPASS_STAT_SRC i)
  else if s.modeCode = mLIMP ∧ i < 96 then (if s.limpBlack i then rateFor (s.rd R.LNE_LIMP_CFG_FMT i) 0 else 0)
  else if s.rd R.LNE_CTL_MODE i = mdGL then s.rd R.LNE_GL_STAT_RATE i
  else if s.rd R.LNE_CTL_MODE i = mdETH then s.rd R.LNE_CTL_RX_RATE i
  else s.pipeRate (s.driver i)

/-- The transmit state (LNE.STATUS.TX_STATE): 0 electrically idle, 1 pipeline or black, 2 bypass, 3 LIMP black
(R126, R127, R143, R148, R149, R154, R363, R631). DESIGN CHOICE (assumption 19): ENABLE at 0 wins over a bypass, over LIMP black (R154) and over a
loopback. -/
def State.txState (s : State) (i : Nat) : Nat :=
  if !s.on R.LNE_CTL_ENABLE i || (s.domain (0x80 + i)).st != 0 then 0
  else if s.bypassed i then (if s.rd R.LNE_STATUS_RX_STATE (s.rd R.LNE_BYPASS_STAT_SRC i) = rxLOCKED then 2 else 0)
  else if s.modeCode = mLIMP ∧ i < 96 then b2n (s.limpBlack i) * 3
  else if s.rd R.LNE_LOOP_SEL i = 3 then (if s.rd R.LNE_STATUS_RX_STATE i = rxLOCKED then 2 else 0)
  else if 96 ≤ i then 1
  else if s.modeCode = mSERVICE && !s.on R.MGT_SVC_TX_EN 0 then 0
  else if s.rd R.LNE_CTL_MODE i = mdGL then (if s.rd R.LNE_GL_STAT_LINK_STATE i = glDOWN then 0 else 1)
  else if !s.tlnRuns (s.rd R.OUT_TMG_FMT_TLN (s.governor (s.driver i))) then 0
  else if s.on R.LNE_CTL_TX_IDLE i && !s.pipeSends (s.driver i) then 0 else 1

/-- Whether a near-end loopback feeds the lane's receiver from its own transmitter (R143, R145). -/
def State.looped (s : State) (i : Nat) : Bool := s.rd R.LNE_LOOP_SEL i == 1 || s.rd R.LNE_LOOP_SEL i == 2

/-- Whether a lock at `rate` can happen on a lane (R129 to R131): its domain is ON; under AUTO within the family tried, else at the rate set only; under
the near-end loopbacks only at the rate that the lane itself sends, and not while it sends nothing (R143, R145; assumption 19). -/
def State.mayLock (s : State) (i rate : Nat) : Bool :=
  if (s.domain (0x80 + i)).st ≠ 0 then false
  else if s.looped i ∧ (rate ≠ s.txRate i ∨ s.txState i = 0) then false
  else if s.rd R.LNE_CTL_MODE i = mdGL then rate == s.rd R.LNE_GL_STAT_RATE i && decide (0xA ≤ rate)
  else if s.rd R.LNE_CTL_RX_RATE i = 0xF then decide (1 ≤ rate) && decide (rate ≤ 9) && familyOf rate == (s.lane i).tryRate
  else rate == s.rd R.LNE_CTL_RX_RATE i && rate != 0

/-- The factory settings of a band as an equalisation entry (R136, R137): its taps are 0. -/
def factoryEq (band : Nat) : Nat :=
  if band = 0 then 10 + 0 * 16 + 2 * 256 + 2 * 8192
  else if band = 1 then 12 + 2 * 16 + 6 * 256 + 6 * 8192
  else 14 + 4 * 16 + 10 * 256 + 10 * 8192

/-- The equalisation entry of a lane and band (R134 to R137). -/
def State.eqEntry (s : State) (i band : Nat) : Nat :=
  match s.eqTable with
  | some t => t.getD (3 * i + band) 0
  | none => factoryEq band

/-- The receive band (R134): of the rate tried or locked; 0 while the receiver is DISABLED. -/
def State.rxBand (s : State) (i : Nat) : Nat :=
  if s.rd R.LNE_STATUS_RX_STATE i = rxDISABLED then 0
  else if s.rd R.LNE_STATUS_RX_STATE i = rxLOCKED then bandOf (s.rd R.LNE_STATUS_RX_RATE_DET i)
  else bandOf (s.lane i).tryRate

/-- The settings in use, laid out as LNE.EQ: CTLE of the receive band, POST, PRE and SWING of the transmit band, or the registers
under EQ_OVR (R134, R138). -/
def State.eqUsed (s : State) (i : Nat) : Nat :=
  if s.on R.LNE_CTL_EQ_OVR i then
    s.rd R.LNE_EQ_CTLE i * 8192 + s.rd R.LNE_EQ_POST i * 256 + s.rd R.LNE_EQ_PRE i * 16 + s.rd R.LNE_EQ_SWING i
  else bitsOf (s.eqEntry i (s.rxBand i)) 13 4 * 8192 + bitsOf (s.eqEntry i (bandOf (s.txRate i))) 0 13

/-- TAP1 to TAP5 that the receive half applies, laid out as LNE.EQ_DFE: of the receive band's entry, or the register under EQ_OVR; none
while the receiver is DISABLED (R134, R138). -/
def State.tapsUsed (s : State) (i : Nat) : Option Nat :=
  if s.rd R.LNE_STATUS_RX_STATE i = rxDISABLED then none
  else if s.on R.LNE_CTL_EQ_OVR i then
    some (s.rd R.LNE_EQ_DFE_TAP1 i + s.rd R.LNE_EQ_DFE_TAP2 i * 2 ^ 6 + s.rd R.LNE_EQ_DFE_TAP3 i * 2 ^ 12 + s.rd R.LNE_EQ_DFE_TAP4 i * 2 ^ 18
      + s.rd R.LNE_EQ_DFE_TAP5 i * 2 ^ 24)
  else some (bitsOf (s.eqEntry i (s.rxBand i)) 17 30)

/-- The bits the transmitter carries are those received on this lane: a bypass's, or the far-end loopback's (R143, R146). -/
def State.passSource (s : State) (i : Nat) : Option Nat :=
  if s.txState i ≠ 2 then none else if s.bypassed i then some (s.rd R.LNE_BYPASS_STAT_SRC i) else some i

/-- What a lane sends, as `Out.lane` kinds: 1 the symbols of a block up to its CRC, 2 ABORT, 3 a skip set, 4 a quality word, 5 a lane identifier, 6 a
line of an SDI signal, scrambled, in ten-bit groups of the serial bits, 7 words received on another lane or on this one, passed on as they came,
8 a training sequence, 9 COMMA as idle fill, 10 EOB. -/
def State.laneOut (s : State) (i kind : Nat) (ws : List Nat) : State := s.send (.lane i kind ws)

/-- Words received on a lane leave again on every lane that carries its bits (R143, R146, R150). -/
def State.passOn (s : State) (src : Nat) (ws : List Nat) : State :=
  if ws.isEmpty then s
  else (upFrom 0 105).foldl (fun s i => if s.passSource i == some src then s.laneOut i 7 ws else s) s

/-- Whether the words of a packet can have arrived (R143, R145): under a near-end loopback they stand in the line that the receiver last took. -/
def holdsPart (ws : List Nat) : List Nat → Bool
  | [] => ws.isEmpty
  | a :: l => (a :: l).take ws.length == ws || holdsPart ws l

/-- As `holdsPart`, in one of the data streams of the lane's last line. -/
def State.packetArrives (s : State) (i : Nat) (ws : List Nat) : Bool :=
  !s.looped i || (lineStreams (s.rd R.LNE_SDI_MEAS_WORDS i) (s.lane i).curLine).any (holdsPart ws)

/-- The lanes a pipeline drives: its own, its clone members, the four of its gang (R258, R262). -/
def State.lanesOfPipe (s : State) (p : Nat) : List Nat :=
  (if s.ganged p then upFrom (p / 4 * 4) 4 else [p]) ++ s.cloneMembers (s.governor p)

/-- LNE.EVT (R157). -/
def evLNE : EvGroup := ⟨R.LNE_EVT_FLAGS, 0x00100024, 0x0101⟩

/-- Raise an event of a lane. -/
def State.lneEvent (s : State) (i bit : Nat) (st : Status) (arg : Nat) : State := s.raise evLNE i 0 bit kInput i st 0 0 arg

/-- The register address of a lane's register. -/
def laneAddr (i off : Nat) : Nat := 0x100000 + 0x1000 * i + off

/-- Set or clear a lane's bypass, raising BYPASS (R146, R157), also where it is set again to the source it has (assumption 161). DESIGN CHOICE (assumption 140): the event of a clear names
source 0. -/
def State.setBypass (s : State) (t src : Nat) (on : Bool) : State :=
  let s := s.wr R.LNE_BYPASS_STAT_ACTIVE t (b2n on)
  let s := s.wr R.LNE_BYPASS_STAT_SRC t (if on then src else 0)
  s.lneEvent t 4 .ok (b2n on * 128 + (if on then src else 0))

/-! ### The end of an eye scan (R142) -/

/-- The end of a point: STATE, STATUS and ESCAN_DONE (R142). -/
def State.escanEnd (s : State) (i st : Nat) (code : Status) : State :=
  ((s.wr R.LNE_ESCAN_STAT_STATE i st).wr R.LNE_ESCAN_STAT_STATUS i code.code).lneEvent i 3 code (s.rd R.LNE_ESCAN_ERRS_ERRS i)

/-- A running point stops ABORTED and ESCAN_ERRS keeps the count so far (R142): a free value, since no command tells how far the point is; at most
the bits of the point. -/
def State.escanAbort (s : State) (i : Nat) (code : Status) : State :=
  let n := min (Config.escanSoFar s.free) (min (2 ^ s.rd R.LNE_ESCAN_CTL_DWELL i) 0xFFFFFFFF)
  ({ s with free := s.free + 1 }.wr R.LNE_ESCAN_ERRS_ERRS i n).escanEnd i 3 code

/-! ### Bypass (R146 to R152) -/

/-- The targets a source lane feeds (R147). -/
def State.bypassTargets (s : State) (src : Nat) : List Nat :=
  (upFrom 0 96).filter (fun t => s.on R.LNE_BYPASS_STAT_ACTIVE t && s.rd R.LNE_BYPASS_STAT_SRC t == src)

/-- The checks of the Set lane bypass operation (R147, R674). -/
def State.bypassChecks (s : State) (t src : Nat) (on : Bool) : Status :=
  check [ (!s.lanePresent t || (on && !s.lanePresent src), .unitAbsent),
          (decide (96 ≤ t) || (on && (decide (96 ≤ src) || s.rd R.LNE_CTL_MODE src != mdSDI)), .decode),
          (on && decide (8 ≤ (s.bypassTargets src).length), .noContext) ]

/-- The Set lane bypass operation (R146, R147, R674): the status, and the state after it. -/
def State.bypassOp (s : State) (t src : Nat) (on : Bool) : State × Status :=
  if s.bypassChecks t src on = .ok then
    (if !on && !s.on R.LNE_BYPASS_STAT_ACTIVE t then (s, .ok) else (s.setBypass t src on, .ok))
  else (s, s.bypassChecks t src on)

end Sys2Proof.Machine
end

