-- ==== Sys2Proof/Machine/Framing.lean ====
section
/-! DEFINITION. The SDI framer (R164 to R171), quad-link assembly (R177 to R179), and their counters (R201). -/

namespace Sys2Proof.Machine

open Sys2Proof

/-- LNE.FR_EVT (R200). -/
def evFR : EvGroup := ⟨R.LNE_FR_EVT_FLAGS, 0x00100184, 0x0110⟩

/-- Raise an event of a port framer; FSN is 0 (R200). -/
def State.frEvent (s : State) (i bit line arg : Nat) : State := s.raise evFR i 0 bit kInput i .ok 0 line arg

/-! ### Quad-link assembly (R178, R179) -/

/-- The payload ID of the lane as one word (R171). -/
def State.vpidWord (s : State) (n : Nat) : Nat :=
  s.rd R.LNE_SDI_VPID_BYTE4 n * 2 ^ 24 + s.rd R.LNE_SDI_VPID_BYTE3 n * 2 ^ 16 + s.rd R.LNE_SDI_VPID_BYTE2 n * 2 ^ 8 + s.rd R.LNE_SDI_VPID_BYTE1 n

/-- The links of the group headed by lane `h` that carry link number `n` (1 to 4), as the payload IDs say. -/
def State.quadLinks (s : State) (h n : Nat) : List Nat :=
  (upFrom h 4).filter (fun i => s.rd R.LNE_SDI_STAT_FR_STATE i == frALIGNED && s.on R.LNE_SDI_STAT_VPID_VALID i
    && s.rd R.LNE_SDI_STAT_QUAD_LINK i + 1 == n)

/-- A bit for each link number that satisfies `p`. -/
def linkBits (p : Nat → Bool) : Nat := b2n (p 1) + 2 * b2n (p 2) + 4 * b2n (p 3) + 8 * b2n (p 4)

/-- The ARG of QUAD_FAULT: missing links, duplicate links, skew (R179, R200). 0 when the assembly is whole. -/
def State.quadArg (s : State) (h : Nat) : Nat :=
  linkBits (fun n => (s.quadLinks h n).length == 0) + 16 * linkBits (fun n => decide (2 ≤ (s.quadLinks h n).length))
    + 256 * b2n ((upFrom h 4).any (fun i => decide (16000 < (sext 16 (s.rd R.LNE_SDI_QSKEW_SKEW i)).natAbs)))

/-- Judge the assembly of a group: its loss raises QUAD_FAULT and takes the signal from IN(4k), its return gives it (R179). -/
def State.quadJudge (s : State) (i : Nat) : State :=
  let h := i / 4 * 4
  let a := s.quadArg h
  if !s.quadOn i then s
  else if a = 0 && !(s.lane h).quadOk then
    ((s.setLane h fun x => { x with quadOk := true }).wr R.LNE_SDI_STAT_QUAD_STATE h 2).inpAlign h
  else if a ≠ 0 && (s.lane h).quadOk then
    (((s.setLane h fun x => { x with quadOk := false }).wr R.LNE_SDI_STAT_QUAD_STATE h 1).frEvent h 5 0 a).inpSignalLost h
  else s

/-- QUAD of a group changes (R178): the head begins to assemble by the link numbers of the payload IDs that its lanes hold, its members have no picture
of their own and show 3; or every lane of the group is on its own again, and a port whose framer is ALIGNED measures anew. -/
def State.quadChange (s : State) (h : Nat) : State :=
  let on := s.on R.LNE_SDI_CFG_QUAD h
  let s := s.setLane h fun x => { x with quadOk := false }
  let s := (upFrom h 4).foldl (fun s i =>
    ((s.wr R.LNE_SDI_STAT_QUAD_STATE i (if !on then 0 else if i = h then 1 else 3)).wr R.LNE_SDI_STAT_QUAD_LINK i
      (if on && s.on R.LNE_SDI_STAT_VPID_VALID i then vpidLink (s.vpidWord i) else 0)).inpSignalLost i) s
  if on then s.quadJudge h
  else (upFrom h 4).foldl (fun s i => if s.rd R.LNE_SDI_STAT_FR_STATE i = frALIGNED then s.inpAlign i else s) s

/-! ### The framer (R164) -/

/-- The framer's stream reaches the input port, or the group's assembly. -/
def State.framerFound (s : State) (i : Nat) : State :=
  if 96 ≤ i then s else if s.quadOn i then s.quadJudge i else s.inpAlign i

/-- The framer's stream is lost to the input port, or to the group's assembly. -/
def State.framerLost (s : State) (i : Nat) : State :=
  if 96 ≤ i then s else if s.quadOn i then s.quadJudge i else s.inpSignalLost i

/-- The framer leaves ALIGNED for `st`: MISALIGN with the last good line, and the input port is told (R164). -/
def State.misalign (s : State) (i st : Nat) : State :=
  let s := s.wr R.LNE_SDI_STAT_FR_STATE i st
  let s := s.wr R.LNE_SDI_STAT_LEVEL i 0
  let s := s.frEvent i 1 (s.lane i).lastGood 0
  let s := s.setLane i fun x => { x with misses := 0, crcLines := 0, crcFirst := 0, rxCrc := none, rxEdh := none }
  s.framerLost i

/-- The lane leaves LOCKED: the framer goes OFF (R164). -/
def State.framerOff (s : State) (i : Nat) : State :=
  let s := s.setLane i fun x => { x with rxBits := [], vidSeen := false }
  if s.rd R.LNE_SDI_STAT_FR_STATE i = frALIGNED then s.misalign i frOFF else s.wr R.LNE_SDI_STAT_FR_STATE i frOFF

/-- The lane is LOCKED: TRS search starts (R164). -/
def State.framerSearch (s : State) (i : Nat) : State :=
  if i < 96 ∧ s.rd R.LNE_SDI_STAT_FR_STATE i = frOFF then s.wr R.LNE_SDI_STAT_FR_STATE i frSEARCH else s

/-- The SDI rate code of the signal a framer works on (R164, R189); under loopback 2 it is the lane's own transmit signal (R143, R145). -/
def State.sdiRate (s : State) (i : Nat) : Nat :=
  if s.rd R.LNE_LOOP_SEL i = 2 then s.pipeRate (s.driver i)
  else if s.rd R.LNE_CTL_MODE i = mdGL then (s.lane i).rxStream else s.rd R.LNE_STATUS_RX_RATE_DET i

/-- What the aligned signal of a lane measures as (R161, R205); the stream of a level B-DS signal that is passed on is one of 1.485 Gbit/s (R166). -/
def State.laneMeas (s : State) (i : Nat) : Meas :=
  let ds := s.rd R.LNE_SDI_STAT_LEVEL i == 3
  measure205 (if ds then s.sdiRate i - 2 else s.sdiRate i) (s.rd R.LNE_SDI_MEAS_LINES i) (s.rd R.LNE_SDI_MEAS_WORDS i)
    (if ds then 2 else (s.lane i).streams) (s.lane i).fields (s.quadOn i) (s.rd R.LNE_SDI_STAT_LEVEL i == 2)

/-- The sample structure of the aligned signal (LNE.SDI_STAT.STRUCT, R160, R205): 0 where rate and raster fix it; else that of a valid payload ID,
or 1. -/
def State.laneStruct (s : State) (i : Nat) : Nat :=
  if !(s.laneMeas i).multi then 0
  else
    let v := vpidStruct (s.vpidWord i)
    if s.on R.LNE_SDI_STAT_VPID_VALID i && decide (1 ≤ v) && decide (v ≤ 4) then v else 1

/-- Whether the framer can find TRS in what arrives (R143, R145): under the near-end loopbacks only the raster that the lane itself sends. -/
def State.trsFits (s : State) (i lines words streams : Nat) : Bool :=
  if s.looped i then
    let g := s.governor (s.driver i)
    let c := s.rd R.OUT_TMG_FMT_FMT g
    let st := s.rd R.OUT_TMG_FMT_STRUCT g
    let lb := levelBTx (s.on R.LNE_SDI_CFG_LEVEL_B_TX (s.driver i)) c st
    s.txState i == 1 && linkMeas c st lb == (lines, words) && linkStreams c st lb == streams
  else true

/-- Two equally spaced EAVs: ALIGNED (R164). `lines`, `words`, `streams` and `fields` are the line and data-stream structure measured, `level` what the
TRS structure says (R166). -/
def sdiTrsAlign (i lines words streams level : Nat) (fields : Bool) (s : State) : State :=
  if i < 96 ∧ s.rd R.LNE_SDI_STAT_FR_STATE i = frSEARCH ∧ s.trsFits i lines words streams then
    let s := s.wr R.LNE_SDI_STAT_FR_STATE i frALIGNED
    let s := s.wr R.LNE_SDI_STAT_LEVEL i (if s.sdiRate i = 4 ∨ s.sdiRate i = 5 then level else 0)
    let s := s.wr R.LNE_SDI_MEAS_LINES i lines
    let s := s.wr R.LNE_SDI_MEAS_WORDS i words
    let s := s.setLane i fun x => { x with misses := 0, lastGood := 0, crcLines := 0, crcFirst := 0, rxCrc := none, rxEdh := none, fields := fields, streams := streams }
    let s := s.wr R.LNE_SDI_STAT_STRUCT i (s.laneStruct i)
    (s.frEvent i 0 0 (s.rd R.LNE_SDI_STAT_LEVEL i)).framerFound i
  else s

/-! ### What the words of a line say (R164, R167) -/

/-- The data streams of the words of a line on a lane. -/
def State.rxStreams (s : State) (i : Nat) (words : List Nat) : List (List Nat) := lineStreams (s.rd R.LNE_SDI_MEAS_WORDS i) words

/-- Whether every data stream of a line has its EAV where the line timing expects it (R164). -/
def State.lineEavOk (s : State) (i : Nat) (words : List Nat) : Bool :=
  !(s.rxStreams i words).isEmpty && (s.rxStreams i words).all eavOk

/-- Whether the CRC words of every data stream are right (R167): over what followed SAV in the line before, EAV and the line-number words. The first
line after alignment has no line before it to check. -/
def State.lineCrcOk (s : State) (i : Nat) (words : List Nat) : Bool :=
  match (s.lane i).rxCrc with
  | none => true
  | some l => ((l ++ List.replicate (s.rxStreams i words).length 0).zip (s.rxStreams i words)).all
      (fun e => (e.2.drop 6).take 2 == crcWords (crc18 e.1 (e.2.take 6)))

/-- Whether the line-number words of every data stream are those of the framer's own line count (R167). -/
def State.lineLnOk (s : State) (i line : Nat) (words : List Nat) : Bool := (s.rxStreams i words).all (fun st => (st.drop 4).take 2 == lnWords line)

/-- The CRC and line-number checks of a line at 1.485 Gbit/s and above (R167); at 270 Mbit/s the CRCs of the field go on (R168). -/
def State.lineChecks (s : State) (i line : Nat) (words : List Nat) : State :=
  if s.sdiRate i ≤ 1 then
    let f := sdFormat (s.rd R.LNE_SDI_MEAS_LINES i)
    s.setLane i fun x => { x with rxEdh := x.rxEdh.map fun c =>
      (if edhApLine f line then crc16 c.1 (afterSav words) else c.1, if edhFfLine f line then crc16 c.2 words else c.2) }
  else
    let crcOk := s.lineCrcOk i words
    let lnOk := s.lineLnOk i line words
    let bodies := (s.rxStreams i words).map (fun st => crc18 0 (afterSav st))
    let s := if crcOk then s else
      (s.inc R.LNE_SDI_CRC_LINES_COUNT i).setLane i fun x =>
        { x with crcLines := x.crcLines + 1, crcFirst := if x.crcLines = 0 then line else x.crcFirst }
    let s := if lnOk then s else s.inc R.LNE_SDI_LN_ERR_COUNT i
    s.setLane i fun x => { x with rxCrc := some bodies }

/-- The EAV of a line: a missing one counts; the fourth in a row ends ALIGNED (R164). -/
def State.lineEav (s : State) (i line : Nat) (eav : Bool) : State :=
  if eav then s.setLane i fun x => { x with misses := 0, lastGood := line }
  else
    let s := (s.inc R.LNE_SDI_TRS_ERR_COUNT i).setLane i fun x => { x with misses := x.misses + 1 }
    if 4 ≤ (s.lane i).misses then s.misalign i frSEARCH else s

/-- The end of a frame: one CRC_ERR for its mismatched lines (R169); a payload ID that waits for its repeat grows a frame older (R171). -/
def State.frameEnd (s : State) (i : Nat) : State :=
  let n := (s.lane i).crcLines
  let s := if n = 0 then s else s.frEvent i 2 (s.lane i).crcFirst n
  s.setLane i fun x => { x with crcLines := 0, crcFirst := 0, vpidNew := x.vpidNew.map (· + 2 ^ 32) }

/-- The port that the framer of a lane serves: that of the group's head where QUAD is 1 (R178). -/
def State.framerPort (s : State) (i : Nat) : Nat := if s.quadOn i then i / 4 * 4 else i

/-- The determination of a frame (R205, R206): what the measurement names, and what only the payload ID or INP.DEFS can say. -/
def State.determine (s : State) (n : Nat) (m : Meas) (v : Option Vpid) : Det :=
  let from' := v.any (·.agrees)
  let psf := if from' then v.any (·.psf) else s.on R.INP_DEFS_PSF n
  let defStruct := if s.rd R.INP_DEFS_STRUCT n = 0 ∨ 4 < s.rd R.INP_DEFS_STRUCT n then 1 else s.rd R.INP_DEFS_STRUCT n
  let struct := if !m.multi then 0 else match v with
    | some x => if x.agrees ∧ 1 ≤ x.struct ∧ x.struct ≤ 4 then x.struct else defStruct
    | none => defStruct
  { fmt := if psf ∧ m.fmtPsF ≠ 0 then m.fmtPsF else m.fmt
    struct := struct
    transfer := if from' then (v.map (·.transfer)).getD 0 else s.rd R.INP_DEFS_TRANSFER n
    color := if from' then (v.map (·.color)).getD 0 else s.rd R.INP_DEFS_COLOR n
    fromVpid := from'
    conflict := v.any (fun x => !x.agrees) }

/-- What the payload ID that the lane holds says beside the measurement (R205, R206); none while it is not valid. -/
def State.portVpid (s : State) (n : Nat) : Option Vpid :=
  if s.on R.LNE_SDI_STAT_VPID_VALID n then some (vpidRead (s.vpidWord n) (s.laneMeas n) (s.rd R.LNE_SDI_STAT_LEVEL n)) else none

/-- The determination of the signal that a port receives now. -/
def State.detOf (s : State) (n : Nat) : Det := s.determine n (s.laneMeas n) (s.portVpid n)

/-- The rows that the words of a line on a lane carry, as its port takes the signal (R161). -/
def State.rowsOf (s : State) (i : Nat) (words : List Nat) : List (List Pixel) :=
  linkRows (s.detOf (s.framerPort i)).struct (s.rd R.LNE_SDI_STAT_LEVEL i == 2) (rxPairs ((s.rxStreams i words).map afterSav))

/-- Rows of the picture reach a port (R36): the frame being written, and the line FIFO, newest first, which keeps 64 of them, the most that a street
path reads (R250). -/
def State.portTake (s : State) (n line : Nat) (rows : List (List Pixel)) : State :=
  let d := s.detOf n
  let f := fmtD d.fmt
  let l := ((rxRasters d.fmt d.struct (s.rd R.LNE_SDI_STAT_LEVEL n == 2) line).zip rows).filterMap (fun e => (activeRow f e.1).map (fun y => (y, e.2)))
  s.setPort n fun x => { x with fifo := (l.reverse ++ x.fifo).take 64, rows := l.foldl (fun t e => tput t e.1 e.2) x.rows }

/-- A line of a lane goes to the port that its framer serves. With QUAD 1 the lines of four links that carry distinct link numbers make the rows of
the picture (R178); each link's last four wait for the others, since the skew allowed is more than a line (R179). -/
def State.fifoTake (s : State) (i line : Nat) (words : List Nat) : State :=
  if !s.quadOn i then s.portTake i line (s.rowsOf i words)
  else
    let h := i / 4 * 4
    let s := s.setLane i fun x => { x with qLine := (x.qLine ++ [(line, s.rowsOf i words)]).drop (x.qLine.length - 3) }
    let links := (upFrom 1 4).map (fun n => match s.quadLinks h n with | [k] => (s.lane k).qLine | _ => [])
    if links.all (fun l => l.any (fun x => x.1 == line)) then
      let s := (upFrom h 4).foldl (fun (s : State) k => s.setLane k fun x => { x with qLine := x.qLine.filter (fun y => y.1 != line) }) s
      s.portTake h line (quadRows (links.map (fun l => ((l.find? (fun x => x.1 == line)).map (·.2)).getD [])))
    else s

/-- The bits of words, least significant bit first. -/
def wordBits (ws : List Nat) : List Bool := ws.flatMap (fun w => (upFrom 0 10).map (bitAt w))

/-- What follows the first place where `pat` stands in a bit sequence. -/
def afterBits (pat : List Bool) : List Bool → Option (List Bool)
  | [] => if pat.isEmpty then some [] else none
  | b :: bs => if (b :: bs).take pat.length == pat then some ((b :: bs).drop pat.length) else afterBits pat bs

/-- The state once a line is taken, if it arrives (R189, R191, R143, R145): on a Gistra-link lane its words stand in the bits of the video stream, and
what comes before them is no line; under a near-end loopback it is a line that the lane itself has sent, and those before it are lost. -/
def State.lineArrives (s : State) (i : Nat) (words : List Nat) : Option State :=
  if s.rd R.LNE_CTL_MODE i = mdGL then (afterBits (wordBits words) (s.lane i).rxBits).map (fun b => s.setLane i fun x => { x with rxBits := b, curLine := words })
  else if !s.looped i then some s
  else match (s.lane i).sentLines.dropWhile (· != words) with
    | [] => none
    | _ :: l => some (s.setLane i fun x => { x with sentLines := l, curLine := words })

/-- A line of an aligned framer (R164, R166, R167, R169, R179). `line` is the framer's own count; `ds` the link of a level B-DS signal that the line
belongs to; `words` the words as they arrive. The bits of a lane in SDI mode pass on to its bypass targets whether the framer is aligned or not
(R146, R150). -/
def sdiLineReceived (i line ds : Nat) (skewNs : Int) (words : List Nat) (s : State) : State :=
  match if 96 ≤ i then none else s.lineArrives i words with
  | none => s
  | some s =>
    let s := if s.rd R.LNE_CTL_MODE i = mdGL then s else s.passOn i words
    if s.rd R.LNE_SDI_STAT_FR_STATE i ≠ frALIGNED then s
    else if s.rd R.LNE_SDI_STAT_LEVEL i = 3 ∧ ds ≠ s.rd R.LNE_SDI_CFG_DS_LINK i then s.inc R.LNE_SDI_DS_DROP_COUNT i
    else
      let eav := s.lineEavOk i words
      let s := s.lineChecks i line words
      let s := s.wr R.LNE_SDI_QSKEW_SKEW i (if s.quadOn i then twos 16 (clampInt (-32767) 32767 skewNs) else 0)
      let s := s.fifoTake i line words
      let s := if line = s.rd R.LNE_SDI_MEAS_LINES i then s.frameEnd i else s
      (s.quadJudge i).lineEav i line eav

/-- Whether the active-picture and the full-field CRC of an EDH packet differ from those of the field received (R168). `packet` is the packet's
words from its DID; a field that did not begin under alignment has no CRC to compare. -/
def State.edhBad (s : State) (i : Nat) (packet : Option (List Nat)) : Bool × Bool :=
  match packet, (s.lane i).rxEdh with
  | some ws, some c =>
    let u := ws.drop 3
    let bad := fun (v : Option Nat) (crc : Nat) => v.isSome && v != some crc
    if isEdh ws then (bad (edhField u) c.1, bad (edhField (u.drop 3)) c.2) else (false, false)
  | _, _ => (false, false)

/-- An EDH packet of a field at 270 Mbit/s, or a field without one (R168, R169). -/
def edhPacketReceived (i line : Nat) (packet : Option (List Nat)) (s : State) : State :=
  if 96 ≤ i ∨ s.rd R.LNE_SDI_STAT_FR_STATE i ≠ frALIGNED ∨ s.sdiRate i ≠ 1 ∨ !s.packetArrives i (packet.getD []) then s
  else
    let bad := s.edhBad i packet
    let s := s.setLane i fun x => { x with rxEdh := some (0, 0) }
    let s := s.wr R.LNE_SDI_STAT_EDH_SEEN i (b2n (packet.any isEdh))
    let s := if bad.1 then s.inc R.LNE_SDI_EDH_AP_COUNT i else s
    let s := if bad.2 then s.inc R.LNE_SDI_EDH_FF_COUNT i else s
    if bad.1 || bad.2 then s.frEvent i 3 line (2 * b2n bad.1 + b2n bad.2) else s

/-- What a captured payload ID does to the wait for its repeat (R171): the value captured before it; the value that differed from the one before
and waits, its age in frames above bit 32; and whether VPID_CHANGE is raised. -/
def vpidStep (prev waiting : Option Nat) (v : Nat) : Option Nat × Option Nat × Bool :=
  if waiting = some (v + 2 ^ 32) then (some v, none, true)
  else if prev = some v then (some v, if waiting = some v then some v else none, false)
  else (some v, some v, false)

/-- A payload ID packet: a good one is captured (R170, R171). `words` are the packet's words from its DID to its checksum. -/
def vpidPacketReceived (i line : Nat) (words : List Nat) (s : State) : State :=
  match vpidOfWords words with
  | none => s
  | some v =>
    if 96 ≤ i ∨ s.rd R.LNE_SDI_STAT_FR_STATE i ≠ frALIGNED ∨ !s.packetArrives i words then s
    else
      let r := vpidStep (s.lane i).vpidPrev (s.lane i).vpidNew v
      let s := s.wr R.LNE_SDI_VPID_BYTE4 i (v / 2 ^ 24)
      let s := s.wr R.LNE_SDI_VPID_BYTE3 i (v / 2 ^ 16)
      let s := s.wr R.LNE_SDI_VPID_BYTE2 i (v / 2 ^ 8)
      let s := s.wr R.LNE_SDI_VPID_BYTE1 i v
      let s := s.wr R.LNE_SDI_STAT_VPID_VALID i 1
      let s := s.wr R.LNE_SDI_STAT_QUAD_LINK i (if s.quadOn i then vpidLink v else 0)
      let s := s.wr R.LNE_SDI_STAT_STRUCT i (s.laneStruct i)
      let s := s.setLane i fun x => { x with vpidPrev := r.1, vpidNew := r.2.1 }
      (if r.2.2 then s.frEvent i 4 line v else s).quadJudge i

/-- No valid payload ID for 2 frames (R170). -/
def vpidTimeout (i : Nat) (s : State) : State :=
  if 96 ≤ i ∨ s.rd R.LNE_SDI_STAT_VPID_VALID i = 0 then s
  else
    let s := s.wr R.LNE_SDI_STAT_VPID_VALID i 0
    let s := s.wr R.LNE_SDI_STAT_STRUCT i (s.laneStruct i)
    (s.setLane i fun x => { x with vpidPrev := none, vpidNew := none }).quadJudge i

/-- The SDI error counters of a lane (R201). -/
def State.clearSdiCounters (s : State) (i : Nat) : State := s.clearUnit 0x100120 0x100138 i
/-- The Gistra error counters of a lane (R201). -/
def State.clearGlCounters (s : State) (i : Nat) : State := s.clearUnit 0x100160 0x100180 i

/-- A write to LNE.CNT_CLR (R201). On a twin lane the SDI bit does nothing; on the timing lane nothing does. -/
def cntClr (p i data : Nat) (s : State) : State :=
  s.gate p (laneAddr i 0x1FC) true [] fun s =>
    if i = 104 then s
    else
      let s := if bitAt data 0 && decide (i < 96) then s.clearSdiCounters i else s
      if bitAt data 1 then s.clearGlCounters i else s

/-- SDI_TRS_ALIGN. -/
def execSdiTrsAlign (lane lines words streams level : Nat) (fields : Bool) (s : State) : Res :=
  .next (sdiTrsAlign lane lines words streams level fields s)
/-- SDI_LINE_RECEIVED. -/
def execSdiLineReceived (lane line ds : Nat) (skewNs : Int) (words : List Nat) (s : State) : Res :=
  .next (sdiLineReceived lane line ds skewNs words s)
/-- EDH_PACKET_RECEIVED. -/
def execEdhPacketReceived (lane line : Nat) (packet : Option (List Nat)) (s : State) : Res := .next (edhPacketReceived lane line packet s)
/-- VPID_PACKET_RECEIVED. -/
def execVpidPacketReceived (lane line : Nat) (words : List Nat) (s : State) : Res := .next (vpidPacketReceived lane line words s)
/-- VPID_TIMEOUT. -/
def execVpidTimeout (lane : Nat) (s : State) : Res := .next (vpidTimeout lane s)
/-- CNT_CLR. -/
def execCntClr (p lane data : Nat) (s : State) : Res := .next (s.regRec (laneAddr lane 0x1FC) data (cntClr p lane data s))

end Sys2Proof.Machine
end

