-- ==== Sys2Proof/Machine/Symbols.lean ====
section
/-! DEFINITION. The symbols of the Gistra link (R181): the 8b/10b code with running disparity. A symbol is its data byte, or 256 more than the byte
of a control symbol; a code group is its ten bits a to j, a highest. PRESUMED (assumption 139): the code's tables, which R181 names only. -/

namespace Sys2Proof.Machine

open Sys2Proof

/-- K28.5, alignment and idle fill. -/
def kCOMMA : Nat := 256 + 0xBC
/-- K27.7, start of block. -/
def kSOB : Nat := 256 + 0xFB
/-- K29.7, end of block. -/
def kEOB : Nat := 256 + 0xFD
/-- K28.0, quality word. -/
def kQW : Nat := 256 + 0x1C
/-- K28.1, training sequence. -/
def kTS : Nat := 256 + 0x3C
/-- K28.3, lane identifier. -/
def kLID : Nat := 256 + 0x7C
/-- K23.7, second symbol of a skip set. -/
def kSKIP : Nat := 256 + 0xF7
/-- K30.7, a block ends void. -/
def kABORT : Nat := 256 + 0xFE

/-- The control symbols of the link; there are no others (R181). -/
def kAll : List Nat := [kCOMMA, kSOB, kEOB, kQW, kTS, kLID, kSKIP, kABORT]

/-- The six bits a to i of the low five bits of a byte, at negative running disparity. -/
def code6 : List Nat :=
  [ 0b100111, 0b011101, 0b101101, 0b110001, 0b110101, 0b101001, 0b011001, 0b111000, 0b111001, 0b100101, 0b010101, 0b110100, 0b001101, 0b101100,
    0b011100, 0b010111, 0b011011, 0b100011, 0b010011, 0b110010, 0b001011, 0b101010, 0b011010, 0b111010, 0b110011, 0b100110, 0b010110, 0b110110,
    0b001110, 0b101110, 0b011110, 0b101011 ]

/-- The four bits f to j of the high three bits of a data byte, at negative running disparity. -/
def code4 : List Nat := [0b1011, 0b1001, 0b0101, 0b1100, 0b1101, 0b1010, 0b0110, 0b1110]
/-- The same of K28.y, after its six bits 001111. -/
def codeK28 : List Nat := [0b0100, 0b1001, 0b0101, 0b0011, 0b0010, 0b1010, 0b0110, 0b1000]

/-- The six bits of a symbol. -/
def sym6 (rd : Bool) (v : Nat) : Nat :=
  let x := v % 32
  let c := if 256 ≤ v ∧ x = 28 then 0b001111 else code6.getD x 0
  if rd && (onesIn c 6 != 3 || x == 7) then 63 - c else c

/-- Whether a byte takes the alternate form of y = 7, so that no comma arises across symbols. -/
def altSeven (rd : Bool) (x : Nat) : Bool := if rd then [11, 13, 14].contains x else [17, 18, 20].contains x

/-- The four bits of a symbol; `rd` is the running disparity before the symbol. -/
def sym4 (rd : Bool) (v : Nat) : Nat :=
  let x := v % 32
  let y := v % 256 / 32
  if 256 ≤ v then
    (if x = 28 then (if rd then 15 - codeK28.getD y 0 else codeK28.getD y 0) else if rd then 0b0111 else 0b1000)
  else
    let mid := rd != (onesIn (code6.getD x 0) 6 != 3)
    let c := if y = 7 ∧ altSeven mid x then 0b0111 else code4.getD y 0
    if mid && (onesIn c 4 != 2 || y == 3) then 15 - c else c

/-- The code group of a symbol at a running disparity. -/
def codeGroup (rd : Bool) (v : Nat) : Nat := sym6 rd v * 16 + sym4 rd v

/-- The running disparity after a code group. -/
def rdAfter (rd : Bool) (c : Nat) : Bool := if onesIn c 10 = 5 then rd else decide (5 < onesIn c 10)

/-- Symbols as code groups from a running disparity, and the disparity after them. -/
def codeGroups : List Nat → Bool → List Nat × Bool
  | [], rd => ([], rd)
  | v :: vs, rd =>
    let c := codeGroup rd v
    let r := codeGroups vs (rdAfter rd c)
    (c :: r.1, r.2)

/-- Every symbol of the link: the 256 bytes and its control symbols. -/
def symAll : List Nat := upFrom 0 256 ++ kAll

/-- What a received code group is at a running disparity (R181): a symbol; a symbol of the other disparity; or a code error, a control
symbol that the link does not use included. -/
inductive RxSym where
  | sym (v : Nat)
  | disp (v : Nat)
  | code
deriving DecidableEq, Repr

/-- Read a code group. -/
def readGroup (rd : Bool) (c : Nat) : RxSym :=
  match symAll.find? (fun v => codeGroup rd v == c) with
  | some v => .sym v
  | none =>
    match symAll.find? (fun v => codeGroup (!rd) v == c) with
    | some v => .disp v
    | none => .code

end Sys2Proof.Machine
end

