-- ==== Sys2Proof/Machine/Gistra.lean ====
section
/-! DEFINITION. The Gistra link: blocks and streams (R181 to R191), the quality word (R192, R193), training, retraining and widths
(R194 to R199). The lanes of the twin bundle move together and their events stand on TL0 (R195). -/

namespace Sys2Proof.Machine

open Sys2Proof

/-- The lanes whose link states move with lane `i`: the twin bundle, or the lane alone (R195, R198). -/
def bundleOf (i : Nat) : List Nat := if isTwinLane i then upFrom 96 8 else [i]
/-- The lane that carries the link's events and counters: TL0 of the bundle, or the lane itself (R191, R195). -/
def bundleHead (i : Nat) : Nat := if isTwinLane i then 96 else i

/-- Apply an operation to each lane of a list. -/
def State.eachLane (s : State) (l : List Nat) (f : Nat → State → State) : State := l.foldl (fun s i => f i s) s

/-! ### Symbols (R181, R182, R186) -/

/-- Symbols leave a lane as code groups (R181); the symbols since the last skip set are counted (R186). They do not leave a lane that is electrically
idle or carries other bits: disabled, a bypass target, in LIMP, under the far-end loopback (R126, R143, R148, R149, R154). Under a near-end loopback
they reach the lane's own receiver (R145). -/
def State.laneSyms (s : State) (i kind : Nat) (ss : List Nat) : State :=
  let r := codeGroups ss (s.lane i).rd
  let sends := s.txState i == 1
  let s := if sends then s.laneOut i kind r.1 else s
  let word := kind == 4 || kind == 8
  s.setLane i fun x => { x with
    rd := r.2, sinceSkip := if ss.contains kSKIP then 0 else x.sinceSkip + ss.length
    sentGroups := if !s.looped i then [] else if sends && !word then x.sentGroups ++ r.1 else x.sentGroups
    sentWords := if !s.looped i then [] else if sends && word then x.sentWords ++ [ss.filter (· != kCOMMA)] else x.sentWords }

/-- The state once the groups of a lane have arrived, if they can (R143, R145): under a near-end loopback they are those it sent. -/
def State.groupsArrive (s : State) (i : Nat) (groups : List Nat) : Option State :=
  if !s.looped i then some s
  else if (s.lane i).sentGroups.take groups.length = groups then some (s.setLane i fun x => { x with sentGroups := x.sentGroups.drop groups.length })
  else none

/-- As `groupsArrive`, for a quality word or a training sequence. -/
def State.wordArrives (s : State) (i : Nat) (ss : List Nat) : Option State :=
  if !s.looped i then some s
  else match (s.lane i).sentWords.dropWhile (· != ss) with
    | [] => none
    | _ :: l => some (s.setLane i fun x => { x with sentWords := l })

/-- Received symbols pass on as code groups of the disparity received (R143, R146, R181), and the receiver's running disparity follows them. -/
def State.symsHeard (s : State) (i : Nat) (ss : List Nat) (rd : Bool) : State :=
  let r := codeGroups ss rd
  (s.passOn i r.1).setLane i fun x => { x with rxRd := r.2 }

/-- The block in progress on a lane ends: with EOB at a boundary (R183), with ABORT where it cannot go on (R185, R195). -/
def State.endBlock (s : State) (i kind sym : Nat) : State :=
  if (s.lane i).midBlock then (s.laneSyms i kind [sym]).setLane i fun x => { x with midBlock := false } else s

/-- A skip set goes first where the next block, a quality word and a lane identifier would leave more than 4,096 symbols since the last (R186). -/
def State.skipFirst (s : State) (i : Nat) : State :=
  if 4096 < (s.lane i).sinceSkip + 2 + 266 + 7 then s.laneSyms i 3 [kCOMMA, kSKIP] else s

/-- The LID byte of a lane (R193): its logical position, or in training the physical one. -/
def State.lidOf (s : State) (i : Nat) : Nat := if isTwinLane i then 0x80 + s.rd R.LNE_GL_STAT_POS i else i

/-- A training sequence leaves (R193, R194): COMMA, TS, the rate offered, the width requested, the LID, this side's ACK and two zeros. The COMMA before TS
leaves in its negative-disparity form. -/
def State.tsSend (s : State) (i : Nat) : State :=
  if s.rd R.LNE_GL_STAT_LINK_STATE i ≠ glTRAIN then s
  else
    let body := [kCOMMA, kTS, min (s.rd R.LNE_CTL_RX_RATE (bundleHead i)) (s.rd R.LNE_GL_STAT_RATE i),
      if isTwinLane i then s.rd R.LNE_GL_CFG_WIDTH 96 else 1, s.lidOf i, b2n (decide (8 ≤ (s.lane i).tsGood)), 0, 0]
    s.laneSyms i 8 (if (s.lane i).rd then kCOMMA :: body else body)

/-! ### Training (R194 to R199) -/

/-- The receiver leaves LOCKED: a running eye scan ends ABORTED with the count so far, LOSS is raised (in this order: assumption 160), the input port
is told (R129, R142). -/
def State.rxLeave (s : State) (i st : Nat) : State :=
  let was := s.rd R.LNE_STATUS_RX_STATE i
  let s := s.wr R.LNE_STATUS_RX_STATE i st
  let s := if s.rd R.LNE_ESCAN_STAT_STATE i = 1 then s.escanAbort i .notReady else s
  let s := if was = rxLOCKED then s.lneEvent i 1 .ok 0 else s
  s.framerOff i

/-- Whether a lane takes part in training: enabled, its domain ON, and its receiver not off by an RX_RATE of 0 (R129, R195). -/
def State.mayTrain (s : State) (i : Nat) : Bool :=
  s.on R.LNE_CTL_ENABLE i && (s.domain (0x80 + i)).st == 0 && s.rd R.LNE_CTL_RX_RATE i != 0

/-- A lane of a link takes a rate to train at: a receiver locked to another rate hunts again (R195), and training sequences leave (R194). -/
def trainLane (rate i : Nat) (s : State) : State :=
  let s := if s.rd R.LNE_STATUS_RX_STATE i = rxLOCKED ∧ s.rd R.LNE_STATUS_RX_RATE_DET i = rate then s
    else if s.rd R.LNE_STATUS_RX_STATE i = rxLOCKED then s.rxLeave i rxHUNT
    else s.wr R.LNE_STATUS_RX_STATE i (if s.mayTrain i then rxHUNT else rxDISABLED)
  let s := s.wr R.LNE_GL_STAT_LINK_STATE i (if s.mayTrain i then glTRAIN else glDOWN)
  let s := s.wr R.LNE_GL_STAT_RATE i rate
  let s := s.setLane i fun x => { x with tsGood := 0, tsPos := 0, tsAck := false, tsWidth := 0, tsComma := false, retry := false, tryRate := rate }
  s.tsSend i

/-- The rate at which a bundle enters TRAIN: RX_RATE of TL0, or of the lane where that is 0. -/
def State.trainRate (s : State) (i : Nat) : Nat :=
  if s.rd R.LNE_CTL_RX_RATE (bundleHead i) = 0 then s.rd R.LNE_CTL_RX_RATE i else s.rd R.LNE_CTL_RX_RATE (bundleHead i)

/-- A lane enters TRAIN afresh: width and order are open again (R195). -/
def State.trainAnew (s : State) (rate j : Nat) : State :=
  let s := s.wr R.LNE_GL_STAT_WIDTH j 0
  let s := s.wr R.LNE_GL_STAT_POL_FLIP j 0
  let s := s.wr R.LNE_GL_STAT_REVERSED j 0
  let s := s.wr R.LNE_GL_STAT_SPARE j 0
  let s := s.wr R.LNE_GL_STAT_POS j (if isTwinLane j then j - 96 else 0)
  trainLane rate j s

/-- Enter TRAIN at RX_RATE with every lane of the link (R195). -/
def State.startTrain (s : State) (i : Nat) : State := s.eachLane (bundleOf i) fun j s => s.trainAnew (s.trainRate i) j

/-- A lane of a link is enabled (R129, R195). It joins a bundle that is in TRAIN; where the bundle is UP its state moves with the others, and it lies
beyond the agreed width until the next training (R198). -/
def State.linkEnable (s : State) (i : Nat) : State :=
  let st := s.rd R.LNE_GL_STAT_LINK_STATE (bundleHead i)
  if isTwinLane i ∧ st = glUP ∧ i ≠ 96 then
    let s := (s.wr R.LNE_STATUS_RX_STATE i (if s.mayTrain i then rxHUNT else rxDISABLED)).wr R.LNE_GL_STAT_RATE i (s.rd R.LNE_GL_STAT_RATE 96)
    let s := ((s.wr R.LNE_GL_STAT_LINK_STATE i glUP).wr R.LNE_GL_STAT_SPARE i 1).wr R.LNE_GL_STAT_WIDTH i (s.rd R.LNE_GL_STAT_WIDTH 96)
    (s.wr R.LNE_GL_STAT_POS i (i - 96)).setLane i fun x => { x with tryRate := s.rd R.LNE_GL_STAT_RATE 96, noComma := 0, errs := [], rxBlk := none, rxBad := false }
  else if isTwinLane i ∧ st = glTRAIN ∧ i ≠ 96 then s.trainAnew (s.rd R.LNE_GL_STAT_RATE 96) i
  else s.startTrain i

/-- Whether a lane meets the UP conditions on both sides (R195, R198): CDR locked, comma alignment held, ACK from the far end and given to it. -/
def State.laneReady (s : State) (i : Nat) : Bool :=
  s.rd R.LNE_GL_STAT_LINK_STATE i == glTRAIN && s.rd R.LNE_STATUS_RX_STATE i == rxLOCKED && (s.lane i).tsComma && (s.lane i).tsAck
    && decide (8 ≤ (s.lane i).tsGood)

/-- Whether the first `w` physical lanes of the bundle are ready in the identity order (R197). -/
def State.orderId (s : State) (w : Nat) : Bool :=
  (upFrom 0 w).all (fun k => s.laneReady (96 + k) && s.rd R.LNE_GL_STAT_FAR_LID (96 + k) == 0x80 + k)
/-- Whether they are ready fully reversed, and AUTO_REV accepts that (R197). -/
def State.orderRev (s : State) (w : Nat) : Bool :=
  decide (1 < w) && s.on R.LNE_GL_CFG_AUTO_REV 96
    && (upFrom 0 w).all (fun k => s.laneReady (96 + k) && s.rd R.LNE_GL_STAT_FAR_LID (96 + k) == 0x80 + (w - 1 - k))

/-- The width that neither side exceeds (R198): the far end's is what its training sequences ask on any lane. -/
def State.widthAsked (s : State) (i : Nat) : Nat :=
  if isTwinLane i then min (s.rd R.LNE_GL_CFG_WIDTH 96) ((bundleOf i).foldl (fun a j => max a (s.lane j).tsWidth) 0) else 1

/-- The first of the widths that meets the conditions of R198. -/
def State.widthMet (s : State) (i : Nat) (ws : List Nat) : Option Nat :=
  ws.find? (fun w => if isTwinLane i then s.orderId w || s.orderRev w else s.laneReady i)

/-- A lane of a link that has reached UP at width `w` (R195, R198): what lies beyond the width is SPARE. -/
def upLane (w : Nat) (rev : Bool) (i : Nat) (s : State) : State :=
  let k := if isTwinLane i then i - 96 else 0
  let spare := decide (w ≤ k)
  let s := s.wr R.LNE_GL_STAT_LINK_STATE i (if s.on R.LNE_CTL_ENABLE i then glUP else glDOWN)
  let s := s.wr R.LNE_GL_STAT_WIDTH i w
  let s := s.wr R.LNE_GL_STAT_REVERSED i (b2n rev)
  let s := s.wr R.LNE_GL_STAT_SPARE i (b2n spare)
  let s := s.wr R.LNE_GL_STAT_POS i (if spare then k else if rev then w - 1 - k else k)
  let s := s.inc R.LNE_GL_STAT_TRAIN_COUNT i
  s.setLane i fun x => { x with rxSeq := [], early := [], txSeq := [], lastSent := [], noComma := 0, errs := [], rxBlk := none, rxBad := false }

/-- Whether the trained rate of a lane's link carries its video stream (R190). -/
def State.rateCarries (s : State) (i : Nat) : Bool :=
  decide (sdiPayload (s.lane i).txStream ≤ usablePayload (s.rd R.LNE_GL_STAT_RATE i))

/-- A video stream that the trained rate does not carry is held under RATE_SHORT (R190). -/
def State.rateCheck (s : State) (i : Nat) : State :=
  if s.rateCarries i || (s.lane i).txHeld then s
  else (s.setLane i fun x => { x with txHeld := true, txBits := [] }).frEvent i 8 0 (s.lane i).txStream

/-- The first line of a frame to send (R190): the stream is the pipeline's, held while the trained rate of an UP link does not carry it, and sent again
from this frame once it does. -/
def State.rateFrame (s : State) (i : Nat) : State :=
  let s := s.setLane i fun x => { x with txStream := s.pipeRate (s.driver i) }
  if s.rd R.LNE_GL_STAT_LINK_STATE i ≠ glUP then s
  else if s.rateCarries i then s.setLane i fun x => { x with txHeld := false }
  else s.rateCheck i

/-- The link enters UP (R195). -/
def State.linkUp (s : State) (i w : Nat) : State :=
  let rev := isTwinLane i && !s.orderId w
  let s := s.eachLane (bundleOf i) (upLane w rev)
  let s := s.frEvent (bundleHead i) 6 0 (s.rd R.LNE_GL_STAT_RATE (bundleHead i) * 16 + w)
  if isTwinLane i then s.xfFit
  else (s.setLane i fun x => { x with txStream := s.pipeRate (s.driver i), txHeld := x.txHeld, txBits := [] }).rateCheck i

/-- Enter UP when one of the widths meets the conditions. -/
def State.tryUp (s : State) (i : Nat) (ws : List Nat) : State :=
  match s.widthMet i ws with
  | some w => s.linkUp i w
  | none => s

/-- The link leaves UP with a cause: the block in progress ends with ABORT, LINK_DOWN is raised (R185, R195). -/
def State.linkDown (s : State) (i cause : Nat) : State :=
  if s.rd R.LNE_GL_STAT_LINK_STATE (bundleHead i) = glUP then
    let s := s.frEvent (bundleHead i) 7 0 cause
    s.eachLane (bundleOf i) fun j s => ((s.endBlock j 2 kABORT).wr R.LNE_GL_STAT_LINK_STATE j glDOWN).framerOff j
  else s

/-- A training sequence arrives (R194 to R198); which one is good is the model's choice (assumption 162). -/
def tsReceived (i offered width lid : Nat) (ack posDisp commaHeld : Bool) (s : State) : State :=
  if 104 ≤ i ∨ s.rd R.LNE_GL_STAT_LINK_STATE i ≠ glTRAIN ∨ s.rd R.LNE_STATUS_RX_STATE i ≠ rxLOCKED then s
  else
    let seq := [kTS, offered, width, lid, b2n ack, 0, 0]
    match s.wordArrives i seq with
    | none => s
    | some s =>
    let good := decide (0xA ≤ offered) && decide (offered ≤ 0xC) && [1, 2, 4, 8].contains width
    let s := (s.symsHeard i (kCOMMA :: seq) posDisp).wr R.LNE_GL_STAT_FAR_LID i lid
    let s := s.setLane i fun x =>
      { x with tsGood := if good then x.tsGood + 1 else 0, tsPos := if posDisp then x.tsPos + 1 else 0, tsAck := x.tsAck || ack,
               tsWidth := if good then width else x.tsWidth, tsComma := commaHeld }
    let s := if s.on R.LNE_GL_CFG_AUTO_POL i ∧ 8 ≤ (s.lane i).tsPos then
        (s.wr R.LNE_GL_STAT_POL_FLIP i 1).setLane i fun x => { x with tsPos := 0 }
      else s
    let s := s.tsSend i
    if isTwinLane i then s.tryUp i ([8, 4, 2, 1].filter (fun w => w == s.widthAsked i)) else s.tryUp i [1]

/-- 2 ms at one rate without UP (R195, R198): the largest width that meets the conditions is taken; else the rate steps down, or at
4.0 Gbit/s the retry time starts. -/
def trainRateTimeout (i : Nat) (s : State) : State :=
  let h := bundleHead i
  if 104 ≤ i ∨ s.rd R.LNE_GL_STAT_LINK_STATE h ≠ glTRAIN then s
  else
    match s.widthMet i ([8, 4, 2, 1].filter (fun w => decide (w ≤ s.widthAsked i))) with
    | some w => s.linkUp i w
    | none =>
      if 0xA < s.rd R.LNE_GL_STAT_RATE h then s.eachLane (bundleOf i) (trainLane (s.rd R.LNE_GL_STAT_RATE h - 1))
      else s.eachLane (bundleOf i) fun j s => (s.wr R.LNE_GL_STAT_LINK_STATE j glDOWN).setLane j fun x => { x with retry := true }

/-- The retry time has passed (R195). -/
def trainRetryTimeout (i : Nat) (s : State) : State :=
  if i < 104 ∧ s.rd R.LNE_GL_STAT_LINK_STATE (bundleHead i) = glDOWN ∧ (s.lane (bundleHead i)).retry then s.startTrain i else s

/-- A retrain condition on an UP link (R195, R199): 1 errors, 2 comma loss, 3 lane loss. A lane beyond the agreed width is not part of the link. -/
def retrainCondition (i cause : Nat) (s : State) : State :=
  if i < 104 ∧ s.rd R.LNE_GL_STAT_LINK_STATE i = glUP ∧ ¬ s.on R.LNE_GL_STAT_SPARE i ∧ 1 ≤ cause ∧ cause ≤ 3 then (s.linkDown i cause).startTrain i
  else s

/-! ### Blocks and streams (R183 to R191) -/

/-- The priority class of a stream (R189, R576). -/
def streamClass (i st : Nat) : Nat :=
  if !isTwinLane i then 0 else if st ≤ 1 then 0 else if st ≤ 3 then 1 else if 8 ≤ st ∧ st ≤ 15 then 2 else 3

/-- Whether a stream is open on a lane's link (R189, R576, R577). CONTROL carries IDENT itself, so it is open while the link is UP. -/
def State.streamOpen (s : State) (i st : Nat) : Bool :=
  if !isTwinLane i then st == 0
  else st == 0 || (decide (st ≤ 3) && s.on R.TWN_STAT_IDENT 0)
    || (decide (8 ≤ st) && decide (st ≤ 15) && s.rdk R.TWN_XF_CFG_STATE 0 (st - 8) == 1)

/-- Whether a stream may be sent on a lane's link: one that is open; a crossfeed stream, which the peer opens, in a JOINED pair (R256, R577). -/
def State.streamSends (s : State) (i st : Nat) : Bool :=
  if isTwinLane i ∧ 8 ≤ st ∧ st ≤ 15 then s.on R.TWN_STAT_IDENT 0 && s.rd R.TWN_STAT_PAIR_STATE 0 == 8 else s.streamOpen i st

/-- The bits of bytes, least significant bit first. -/
def byteBits (bs : List Nat) : List Bool := bs.flatMap (fun b => (upFrom 0 8).map (bitAt b))

/-- Bits packed into bytes, least significant bit first. -/
def bitsBytes : Nat → List Bool → List Nat
  | 0, _ => []
  | n + 1, bs => (bs.take 8).foldr (fun b a => b2n b + 2 * a) 0 :: bitsBytes n (bs.drop 8)

/-- The content of a video block reaches the framer as descrambled bits (R189); a change of its rate ends ALIGNED (R164). -/
def State.videoBlock (s : State) (i rate : Nat) (pay : List Nat) : State :=
  let s := if s.rd R.LNE_SDI_STAT_FR_STATE i = frALIGNED ∧ (s.lane i).rxStream ≠ rate then s.misalign i frSEARCH else s
  (s.setLane i fun x => { x with rxStream := rate, vidSeen := true, rxBits := x.rxBits ++ byteBits pay }).framerSearch i

/-- A crossfeed frame that the last block of it completes (R256): the peer's FSN f, its format code and picture; it is offered at local FSN f + 1. -/
def State.xfeedFrame (s : State) (k : Nat) (xf : Option (Nat × Nat × List (List Pixel))) : State :=
  match xf with
  | none => s
  | some (f, fmt, p) =>
    let x := tget ⟨true, fmt, [], false⟩ s.xfeed k
    { s with xfeed := tput s.xfeed k { x with fmt := fmt, frames := ((x.frames.filter (fun e => e.1 != (f + 1) % 2 ^ 32)) ++ [((f + 1) % 2 ^ 32, p)]) } }

/-- A good block of an open stream is delivered; one with LEN 0 delivers nothing (R184, R188, R189). -/
def State.deliver (s : State) (i : Nat) (e : Early) : State :=
  if e.pay.isEmpty then s
  else if isTwinLane i then (if 8 ≤ e.st ∧ e.st ≤ 15 then s.xfeedFrame (e.st - 8) e.xf else s)
  else s.videoBlock i e.rate e.pay

/-- The blocks of a stream that wait for SEQ `seq` and what follows it, delivered in SEQ order (R191); `fuel` bounds their number. -/
def State.drainEarly (s : State) (i st : Nat) : Nat → State
  | 0 => s
  | fuel + 1 =>
    let h := bundleHead i
    match (s.lane h).early.find? (fun e => e.st == st && e.seq == tget e.seq (s.lane h).rxSeq st) with
    | none => s
    | some e =>
      let s := s.setLane h fun x => { x with early := x.early.erase e, rxSeq := tput x.rxSeq st ((e.seq + 1) % 256) }
      (s.deliver i e).drainEarly i st fuel

/-- A SEQ has arrived or counts as used (R185, R191): in order it is delivered at once, with what waited behind it; one ahead of a missing SEQ waits
for it, at most 1 µs; one that the receiver has moved on from, up to half of the SEQ numbers behind, is not delivered any more. -/
def State.takeSeq (s : State) (i : Nat) (e : Early) : State :=
  let h := bundleHead i
  if tget e.seq (s.lane h).rxSeq e.st = e.seq then
    let s := s.setLane h fun x => { x with rxSeq := tput x.rxSeq e.st ((e.seq + 1) % 256) }
    (s.deliver i e).drainEarly i e.st 256
  else if 128 ≤ (e.seq + 256 - tget e.seq (s.lane h).rxSeq e.st) % 256 then s
  else s.setLane h fun x => { x with early := x.early ++ [e] }

/-- The end of a received block (R184, R185, R188, R191): `body` is its data symbols, `aborted` that ABORT ended it, `bad` that an error fell inside. -/
def State.blockEnd (s : State) (i : Nat) (body : List Nat) (aborted bad : Bool) (xf : Option (Nat × Nat × List (List Pixel))) : State :=
  let header := leVal (body.take 4)
  let st := bitsOf header 25 7
  let len := bitsOf header 0 9
  let pay := (body.drop 4).take len
  if aborted then
    let s := s.inc R.LNE_GL_ABORT_COUNT i
    if bad ∨ body.length < 4 then s else s.takeSeq i ⟨st, bitsOf header 13 8, bitsOf header 21 4, [], none⟩
  else if bad ∨ 256 < len ∨ body.length ≠ len + 8 ∨ leVal (body.drop (4 + len)) ≠ crc32c (body.take (4 + len)) then s.inc R.LNE_GL_CRC_ERR_COUNT i
  else if !s.streamOpen i st then s.inc R.LNE_GL_STREAM_DROP_COUNT i
  else s.takeSeq i ⟨st, bitsOf header 13 8, bitsOf header 21 4, pay, xf⟩

/-- A code or a disparity error (R181, R199): counted, void for the block it falls into; the sixteenth within 1 ms is a retrain condition. -/
def State.symError (s : State) (i : Nat) (disp : Bool) : State :=
  let s := if disp then s.addSat R.LNE_GL_DISP_ERR_COUNT i 0 1 else s.addSat R.LNE_GL_CODE_ERR_COUNT i 0 1
  let s := s.setLane i fun x => { x with errs := (s.now :: x.errs).take 16, rxBad := true }
  if (s.lane i).errs.length = 16 ∧ s.now ≤ (s.lane i).errs.getLastD 0 + 1000000 then retrainCondition i 1 s else s

/-- One more symbol since the last COMMA; the 8,192nd without one is a retrain condition (R199). -/
def State.commaCount (s : State) (i : Nat) (comma : Bool) : State :=
  let s := s.setLane i fun x => { x with noComma := if comma then 0 else x.noComma + 1 }
  if 8192 ≤ (s.lane i).noComma then retrainCondition i 2 s else s

/-- A received symbol (R181 to R185, R199). -/
def State.rxSymbol (s : State) (i : Nat) (xf : Option (Nat × Nat × List (List Pixel))) (v : Nat) : State :=
  let s :=
    match (s.lane i).rxBlk with
    | none => if v = kSOB then s.setLane i fun x => { x with rxBlk := some [], rxBad := false } else s
    | some body =>
      if v < 256 then s.setLane i fun x => { x with rxBlk := some (body ++ [v]) }
      else
        let bad := (s.lane i).rxBad || (v != kEOB && v != kABORT)
        let s := s.setLane i fun x => { x with rxBlk := if v = kSOB then some [] else none, rxBad := false }
        s.blockEnd i body (v == kABORT) bad xf
  s.commaCount i (v == kCOMMA)

/-- A received code group of an UP link; one that the code does not have is a symbol without COMMA too. -/
def State.rxGroup (s : State) (i : Nat) (xf : Option (Nat × Nat × List (List Pixel))) (c : Nat) : State :=
  if s.rd R.LNE_GL_STAT_LINK_STATE i ≠ glUP then s
  else
    let r := readGroup (s.lane i).rxRd c
    let s := s.setLane i fun x => { x with rxRd := rdAfter x.rxRd c }
    match r with
    | .sym v => s.rxSymbol i xf v
    | .disp v => (s.symError i true).rxSymbol i xf v
    | .code => (s.symError i false).commaCount i false

/-- Symbols arrive on a lane, those of a block among them where it is UP; its bits pass on in any state (R181 to R186, R188, R191, R199): `groups` are the code groups, `skipDel` and
`skipIns` the skip sets that the elastic buffer deleted and the idle symbols it inserted, `xf` the crossfeed frame that the block completes, if it
does. -/
def gistraBlockReceived (i : Nat) (groups : List Nat) (skipDel skipIns : Nat) (xf : Option (Nat × Nat × List (List Pixel))) (s : State) : State :=
  match if 104 ≤ i then none else s.groupsArrive i groups with
  | none => s
  | some s =>
    let s := s.passOn i groups
    if s.rd R.LNE_GL_STAT_LINK_STATE i ≠ glUP then s.setLane i fun x => { x with rxRd := groups.foldl rdAfter x.rxRd }
    else
      let s := s.addSat R.LNE_GL_SKIP_DEL_COUNT i 0 skipDel
      let s := s.addSat R.LNE_GL_SKIP_INS_COUNT i 0 skipIns
      groups.foldl (fun s c => s.rxGroup i xf c) s

/-- The lowest SEQ that waits behind a gap of a stream, counted from the SEQ expected (R191). -/
def nextEarly (want : Nat) (l : List Early) : Option Nat :=
  l.foldl (fun a e => match a with
    | none => some e.seq
    | some b => if (e.seq + 256 - want) % 256 < (b + 256 - want) % 256 then some e.seq else some b) none

/-- 1 µs after a later SEQ: the missing ones are recorded, and the stream goes on at the first that waits (R191). -/
def seqGapTimeout (i : Nat) (s : State) : State :=
  if 104 ≤ i then s
  else
    let h := bundleHead i
    ((s.lane h).early.map (·.st)).eraseDups.foldl (fun s st =>
      match nextEarly (tget 0 (s.lane h).rxSeq st) ((s.lane h).early.filter (fun e => e.st == st)) with
      | none => s
      | some q =>
        let s := s.addSat R.LNE_GL_SEQ_GAP_COUNT h 0 ((q + 256 - tget q (s.lane h).rxSeq st) % 256)
        (s.setLane h fun x => { x with rxSeq := tput x.rxSeq st q }).drainEarly i st 256) s

/-- The next ready block: the highest class; within it the stream after the one last served in it (R188). -/
def pickBlock (i : Nat) (last : Tab Nat) (ready : List (Nat × List Nat)) : Option (Nat × List Nat) :=
  let key := fun (b : Nat × List Nat) => streamClass i b.1 * 256 + (b.1 + 127 - tget 127 last (streamClass i b.1)) % 128
  ready.foldl (fun a b => match a with
    | none => some b
    | some c => if key b < key c then some b else some c) none

/-- The header of a block (R183). -/
def blockHeader (st rate seq len : Nat) : Nat := st * 2 ^ 25 + rate * 2 ^ 21 + seq * 2 ^ 13 + len

/-- What is ready on a video lane: 256 bytes of the bits that the transmit framer made (R189), unless the stream is held (R190). -/
def State.videoReady (s : State) (i : Nat) : List (Nat × List Nat) :=
  if (s.lane i).txHeld || decide ((s.lane i).txBits.length < 2048) then [] else [(0, bitsBytes 256 (s.lane i).txBits)]

/-- A block starts: SOB, header, payload and CRC; where the source cannot supply the whole payload, what there is and ABORT (R183, R185). -/
def State.blockSend (s : State) (i rate : Nat) (b : Nat × List Nat) (complete : Bool) : State :=
  let h := bundleHead i
  let seq := tget 0 (s.lane h).txSeq b.1
  let hd := leBytes 4 (blockHeader b.1 rate seq b.2.length)
  let s := s.setLane h fun x =>
    { x with txSeq := tput x.txSeq b.1 ((seq + 1) % 256), lastSent := tput x.lastSent (streamClass i b.1) b.1 }
  let s := s.laneSyms i 1 (kSOB :: hd ++ b.2 ++ (if complete then leBytes 4 (crc32c (hd ++ b.2)) else []))
  let s := s.setLane i fun x => { x with midBlock := true }
  if complete then s else s.endBlock i 2 kABORT

/-- A block boundary (R182, R185, R186, R188 to R190): the block in progress ends with EOB; a skip set goes where one is due; then the next ready
block, or COMMA as idle fill. `ready` is what the streams of a twin lane have ready; a video lane sends the bits of its transmit framer. `complete`
says that the source supplies the whole payload. -/
def gistraBlockSend (i : Nat) (ready : List (Nat × List Nat)) (complete : Bool) (s : State) : State :=
  if 104 ≤ i ∨ s.rd R.LNE_GL_STAT_LINK_STATE i ≠ glUP ∨ s.on R.LNE_GL_STAT_SPARE i then s
  else
    let h := bundleHead i
    let s := (s.endBlock i 10 kEOB).skipFirst i
    let avail := if isTwinLane i then ready.filter (fun b => s.streamSends i b.1 && decide (b.2.length ≤ 256)) else s.videoReady i
    match pickBlock i (s.lane h).lastSent avail with
    | none => s.laneSyms i 9 [kCOMMA]
    | some b =>
      if isTwinLane i then s.blockSend i 0 b complete
      else (s.setLane i fun x => { x with txBits := x.txBits.drop 2048 }).blockSend i (s.lane i).txStream b complete

/-! ### Quality word and lane identifier (R192, R193) -/

/-- The quality word without its check (R192). -/
def State.qwBody (s : State) (i : Nat) : Nat :=
  (s.lane i).qwSeq % 256 * 2 ^ 16 + s.rd R.LNE_GL_CRC_ERR_COUNT i % 256 * 2 ^ 8
    + b2n (s.rd R.REF_STAT_DPLL 0 == 2) * 16 + b2n (s.rd R.REF_STAT_DPLL 0 == 3) * 8 + s.rd R.REF_STAT_OUT_QL 0

/-- CHECK of a quality word (R192). -/
def qwCheck (w : Nat) : Nat := bitsOf w 0 8 ^^^ bitsOf w 8 8 ^^^ bitsOf w 16 8 ^^^ 0x5A

/-- A video stream without a block for 1 ms does not arrive: the framer goes OFF (R164). DESIGN CHOICE (assumption 141): the 1 ms. -/
def State.videoStops (s : State) (i : Nat) : State :=
  if isTwinLane i then s
  else (if (s.lane i).vidSeen then s else s.framerOff i).setLane i fun x => { x with vidSeen := false }

/-- The 1 ms of an UP lane: a QW and an LID are sent between blocks (R182, R192, R193). A lane beyond the agreed
width sends COMMA idle only (R198). -/
def qwSend (i : Nat) (s : State) : State :=
  if 104 ≤ i ∨ s.rd R.LNE_GL_STAT_LINK_STATE i ≠ glUP then s
  else if s.on R.LNE_GL_STAT_SPARE i then s.laneSyms i 9 [kCOMMA]
  else
    let b := s.qwBody i
    let s := (s.endBlock i 10 kEOB).setLane i fun x => { x with qwSeq := (x.qwSeq + 1) % 256 }
    let s := s.laneSyms i 4 (kQW :: leBytes 4 (qwCheck b * 2 ^ 24 + b))
    (s.laneSyms i 5 [kLID, s.lidOf i]).videoStops i

/-- A quality word arrives: one with a good CHECK is loaded, and its age starts again (R192). -/
def qwReceived (i word : Nat) (s : State) : State :=
  let w := word % 2 ^ 32
  let ss := kQW :: leBytes 4 w
  match if 104 ≤ i then none else s.wordArrives i ss with
  | none => s
  | some s =>
    let s := s.symsHeard i ss (s.lane i).rxRd
    if s.rd R.LNE_GL_STAT_LINK_STATE i ≠ glUP ∨ bitsOf w 24 8 ≠ qwCheck w then s
    else ((s.wr R.LNE_GL_QW_QW i w).wr R.LNE_GL_QW_AGE_AGE_MS i 0).setLane i fun x => { x with qwLost := false, qwAt := some s.now }

/-- LNE.GL_QW_AGE (R192): whole milliseconds since the last good quality word, whatever the link's state; the reset value before the first. -/
def State.qwAge (s : State) (i : Nat) : Nat :=
  match (s.lane i).qwAt with
  | some t => min 0xFFFF ((s.now - t) / 1000000)
  | none => s.rd R.LNE_GL_QW_AGE_AGE_MS i

/-- No good quality word for 3 ms: QW_LOSS once (R192). -/
def qwLoss (i : Nat) (s : State) : State :=
  if 104 ≤ i ∨ s.rd R.LNE_GL_STAT_LINK_STATE i ≠ glUP ∨ (s.lane i).qwLost then s
  else (s.setLane i fun x => { x with qwLost := true }).frEvent i 9 0 (bitsOf (s.rd R.LNE_GL_QW_QW i) 16 8)

/-- GISTRA_BLOCK_RECEIVED. -/
def execGistraBlockReceived (lane : Nat) (groups : List Nat) (skipDel skipIns : Nat) (xf : Option (Nat × Nat × List (List Pixel))) (s : State) : Res :=
  .next (gistraBlockReceived lane groups skipDel skipIns xf s)
/-- SEQ_GAP_TIMEOUT. -/
def execSeqGapTimeout (lane : Nat) (s : State) : Res := .next (seqGapTimeout lane s)
/-- QW_SEND. -/
def execQwSend (lane : Nat) (s : State) : Res := .next (qwSend lane s)
/-- QW_LOSS. -/
def execQwLoss (lane : Nat) (s : State) : Res := .next (qwLoss lane s)
/-- TS_RECEIVED. -/
def execTsReceived (lane offered width lid : Nat) (ack posDisp commaHeld : Bool) (s : State) : Res :=
  .next (tsReceived lane offered width lid ack posDisp commaHeld s)
/-- TRAIN_RATE_TIMEOUT. -/
def execTrainRateTimeout (lane : Nat) (s : State) : Res := .next (trainRateTimeout lane s)
/-- TRAIN_RETRY_TIMEOUT. -/
def execTrainRetryTimeout (lane : Nat) (s : State) : Res := .next (trainRetryTimeout lane s)
/-- RETRAIN_CONDITION. -/
def execRetrainCondition (lane cause : Nat) (s : State) : Res := .next (retrainCondition lane cause s)

end Sys2Proof.Machine
end

