-- ==== Sys2Proof/Machine/Lanes.lean ====
section
/-! DEFINITION. The lanes: enable and disable (R119, R124 to R129), lock and loss (R129 to R132), AUTO hunting (R130), eye scans
(R139 to R142). -/

namespace Sys2Proof.Machine

open Sys2Proof

/-- The fields of a write to LNE.CTL that change a RUNNING lane (R125). -/
def State.ctlRws (s : State) (i data : Nat) : Bool :=
  bitsOf data 24 4 != s.rd R.LNE_CTL_RX_RATE i || bitsOf data 18 2 != s.rd R.LNE_CTL_MODE i
    || bitsOf data 17 1 != s.rd R.LNE_CTL_RX_INV i || bitsOf data 16 1 != s.rd R.LNE_CTL_TX_INV i
    || bitsOf data 8 1 != s.rd R.LNE_CTL_EQ_OVR i

/-- ENABLE written to 1 (R129, R195): the receiver hunts at RX_RATE, or the link trains. A lane whose domain is not ON does not start (R634). -/
def State.laneStart (s : State) (i : Nat) : State :=
  let s := s.setLane i fun x => { x with vpidPrev := none, vpidNew := none }
  if (s.domain (0x80 + i)).st ≠ 0 then s
  else if s.rd R.LNE_CTL_MODE i = mdGL then s.linkEnable i
  else if s.rd R.LNE_CTL_RX_RATE i = 0 then s
  else
    (s.wr R.LNE_STATUS_RX_STATE i rxHUNT).setLane i fun x =>
      { x with tryRate := if s.rd R.LNE_CTL_RX_RATE i = 0xF then 8 else s.rd R.LNE_CTL_RX_RATE i }

/-- ENABLE written to 0 (R126, R129, R195, R207). -/
def State.laneStop (s : State) (i : Nat) : State :=
  let s := if s.rd R.LNE_CTL_MODE i = mdGL then
      (s.linkDown i 4).eachLane (bundleOf i) fun j s => (s.wr R.LNE_GL_STAT_LINK_STATE j glDOWN).setLane j fun x => { x with retry := false }
    else s
  let s := if s.rd R.LNE_STATUS_RX_STATE i = rxDISABLED then s else s.rxLeave i rxDISABLED
  s.framerLost i

/-- The fields of LNE.CTL as written; the fields of SDI read 0 on the other lanes and ignore the write. -/
def State.ctlStore (s : State) (i data : Nat) : State :=
  let s := s.wr R.LNE_CTL_ENABLE i (bitsOf data 31 1)
  let s := s.wr R.LNE_CTL_RX_RATE i (bitsOf data 24 4)
  let s := s.wr R.LNE_CTL_MODE i (bitsOf data 18 2)
  let s := s.wr R.LNE_CTL_RX_INV i (bitsOf data 17 1)
  let s := s.wr R.LNE_CTL_TX_INV i (bitsOf data 16 1)
  let s := s.wr R.LNE_CTL_EQ_OVR i (bitsOf data 8 1)
  if i < 96 then s.wr R.LNE_CTL_TX_IDLE i (bitsOf data 0 1) else s

/-- A write to LNE.CTL (R119, R124, R125, R129, R177). -/
def laneCtlWrite (p i data : Nat) (s : State) : State :=
  s.gate p (laneAddr i 0) true
    [ (!modeOk i (bitsOf data 18 2) || !rateOk (bitsOf data 18 2) (bitsOf data 24 4)
        || (s.quadOn i && bitsOf data 18 2 != s.rd R.LNE_CTL_MODE i), .decode),
      (s.laneRuns i && s.ctlRws i data, .unitRunning) ]
    fun s =>
      let was := s.on R.LNE_CTL_ENABLE i
      let s := s.ctlStore i data
      if !was && bitAt data 31 then s.laneStart i else if was && !bitAt data 31 then s.laneStop i else s

/-- The CDR has held lock for 20 µs at a rate (R129). `freqOfs` is the measured offset as LNE.STATUS.FREQ_OFS codes it. -/
def laneLock (i rate freqOfs : Nat) (s : State) : State :=
  if s.lanePresent i ∧ s.rd R.LNE_STATUS_RX_STATE i = rxHUNT ∧ s.mayLock i rate ∧ (sext 8 freqOfs).natAbs ≤ 125 then
    let old := s.rd R.LNE_STATUS_RX_RATE_DET i
    let s := s.wr R.LNE_STATUS_RX_STATE i rxLOCKED
    let s := s.wr R.LNE_STATUS_RX_RATE_DET i rate
    let s := s.wr R.LNE_STATUS_FREQ_OFS i freqOfs
    let s := s.wr R.LNE_STATUS_SIG_DET i 1
    let s := s.lneEvent i 0 .ok rate
    let s := if old ≠ 0 ∧ old ≠ rate then s.lneEvent i 2 .ok (old * 16 + rate) else s
    if s.rd R.LNE_CTL_MODE i = mdSDI then s.framerSearch i else s
  else s

/-- SIG_DET low, loss of phase lock or frequency out of range (R129, R130, R199). -/
def laneLoss (i : Nat) (amplitude : Bool) (s : State) : State :=
  if s.rd R.LNE_STATUS_RX_STATE i = rxLOCKED then
    let s := s.wr R.LNE_STATUS_SIG_DET i (b2n amplitude)
    let s := s.rxLeave i rxHUNT
    let r := if s.rd R.LNE_CTL_RX_RATE i = 0xF then familyOf (s.rd R.LNE_STATUS_RX_RATE_DET i) else (s.lane i).tryRate
    let s := s.setLane i fun x => { x with tryRate := r }
    if s.rd R.LNE_CTL_MODE i = mdGL then retrainCondition i 3 s else s
  else s

/-- 1 ms at one family without lock (R130). -/
def autoHuntTimeout (i : Nat) (s : State) : State :=
  if s.rd R.LNE_STATUS_RX_STATE i = rxHUNT ∧ s.rd R.LNE_CTL_RX_RATE i = 0xF then
    s.setLane i fun x => { x with tryRate := nextFamily x.tryRate }
  else s

/-! ### Eye scan (R139 to R142) -/

/-- The checks of a START (R141). -/
def State.escanChecks (s : State) (i data : Nat) : Status :=
  check [ (s.modeCode == mBOOT || s.modeCode == mLIMP, .mode),
          (s.modeCode != mSERVICE && (decide (sext 6 (bitsOf data 16 6) < -24) || decide (23 < sext 6 (bitsOf data 16 6))), .mode),
          (s.rd R.LNE_STATUS_RX_STATE i != rxLOCKED, .notReady),
          (decide (bitsOf data 24 6 < 20) || decide (40 < bitsOf data 24 6), .lenExceeds),
          (s.rd R.LNE_ESCAN_STAT_STATE i == 1, .busy) ]

/-- Keep the values of a write to LNE.ESCAN_CTL. -/
def State.escanStore (s : State) (i data : Nat) : State :=
  let s := s.wr R.LNE_ESCAN_CTL_DWELL i (bitsOf data 24 6)
  let s := s.wr R.LNE_ESCAN_CTL_TIME i (bitsOf data 16 6)
  let s := s.wr R.LNE_ESCAN_CTL_VSIGN i (bitsOf data 15 1)
  s.wr R.LNE_ESCAN_CTL_VMAG i (bitsOf data 8 7)

/-- A write to LNE.ESCAN_CTL (R141, R142): ABORT wins over START. A refused START changes nothing but STATUS (R22, R141). -/
def escanWrite (p i data : Nat) (s : State) : State :=
  s.gate p (laneAddr i 0x40) true [] fun s =>
    let st := s.escanChecks i data
    if bitAt data 30 then
      let s := if s.rd R.LNE_ESCAN_STAT_STATE i = 1 then s.escanAbort i .ok else s
      s.escanStore i data
    else if !bitAt data 31 then s.escanStore i data
    else
      let s := s.wr R.LNE_ESCAN_STAT_STATUS i st.code
      if st = .ok then ((s.escanStore i data).wr R.LNE_ESCAN_ERRS_ERRS i 0).wr R.LNE_ESCAN_STAT_STATE i 1 else s

/-- The point has compared 2^DWELL bits, `errs` of them different (R140, R142). -/
def escanDwellDone (i errs : Nat) (s : State) : State :=
  if s.rd R.LNE_ESCAN_STAT_STATE i = 1 then
    (s.wr R.LNE_ESCAN_ERRS_ERRS i (min errs 0xFFFFFFFF)).escanEnd i 2 .ok
  else s

/-- LANE_ENABLE: a write of LNE.CTL with ENABLE 1. -/
def execLaneEnable (p lane data : Nat) (s : State) : Res := .next (s.regRec (laneAddr lane 0) (setBit data 31) (laneCtlWrite p lane (setBit data 31) s))
/-- LANE_DISABLE: a write of LNE.CTL with ENABLE 0. -/
def execLaneDisable (p lane data : Nat) (s : State) : Res := .next (s.regRec (laneAddr lane 0) (clearBits data 0x80000000) (laneCtlWrite p lane (clearBits data 0x80000000) s))
/-- LANE_LOCK. -/
def execLaneLock (lane rate freqOfs : Nat) (s : State) : Res := .next (laneLock lane rate freqOfs s)
/-- LANE_LOSS. -/
def execLaneLoss (lane : Nat) (amplitude : Bool) (s : State) : Res := .next (laneLoss lane amplitude s)
/-- AUTO_HUNT_TIMEOUT. -/
def execAutoHuntTimeout (lane : Nat) (s : State) : Res := .next (autoHuntTimeout lane s)
/-- ESCAN_START: a write of LNE.ESCAN_CTL with START. -/
def execEscanStart (p lane data : Nat) (s : State) : Res := .next (s.regRec (laneAddr lane 0x40) (setBit data 31) (escanWrite p lane (setBit data 31) s))
/-- ESCAN_ABORT: a write of LNE.ESCAN_CTL with ABORT. -/
def execEscanAbort (p lane data : Nat) (s : State) : Res := .next (s.regRec (laneAddr lane 0x40) (setBit data 30) (escanWrite p lane (setBit data 30) s))
/-- ESCAN_DWELL_DONE. -/
def execEscanDwellDone (lane errs : Nat) (s : State) : Res := .next (escanDwellDone lane errs s)

end Sys2Proof.Machine
end

