-- ==== Sys2Proof/Machine/Sync.lean ====
section
/-! DEFINITION. Frame synchronisation (R214 to R224, R248): which contexts are active, the decision a context makes at a switch line,
and what its readers see; the start and release of an input port (R203, R204, R210, R211). -/

namespace Sys2Proof.Machine

open Sys2Proof

/-- The job at a destination, if its index holds one (R235). -/
def State.jobAt (s : State) (d : Nat) : Option Job := if d < 96 then none else tfind s.jobs (d - 96)

/-- The timeline of a destination; none for an Arcade destination without a job. -/
def State.destTln (s : State) (d : Nat) : Option Nat :=
  if d < 96 then some (s.rd R.OUT_TMG_FMT_TLN (s.governor d)) else (s.jobAt d).map (·.tln)

/-- The frame-rate mode of a job (R279): 0 NONE, 1 NEAREST, 2 BLEND, 3 MCFRC. -/
def Job.frc (j : Job) : Nat := bitsOf j.mode 1 2

/-- Whether destination `d` reads port `n` through the sync context of timeline `t` (R214, R254, R289). -/
def State.readsCtx (s : State) (n t d : Nat) : Bool :=
  s.selNames n d && s.destTln d == some t && (decide (d < 96) || (s.jobAt d).any (fun j => j.frc == 0))

/-- Whether context `t` of port `n` is active (R214). -/
def State.ctxActive (s : State) (n t : Nat) : Bool := (upFrom 0 352).any (s.readsCtx n t)

/-- The published frame of port `n` with a number, if it is still stored. -/
def State.frameAt (s : State) (n ifc : Nat) : Option Frame := (s.port n).frames.find? (fun f => f.ifc == ifc)

/-- The newest frame of port `n` that completed at or before `t` less the guard (R215). -/
def State.newestEligible (s : State) (n t : Nat) : Option Nat :=
  ((s.port n).frames.filter (fun f => decide (f.done + s.rd R.INP_SYNC_GUARD_US n * 1000 ≤ t))).getLast?.map (·.ifc)

/-- E − DELAY, when it names a frame of the current store (R215, R224). -/
def State.target (s : State) (n t : Nat) : Option Nat :=
  match s.newestEligible n t with
  | none => none
  | some e =>
    let d := s.rd R.INP_CFG_DELAY n
    if d ≤ e ∧ (s.port n).first.any (fun f => decide (f ≤ e - d)) then some (e - d) else none

/-- The FALLBACK plane (R221). -/
def State.fallbackPlane (s : State) (n : Nat) : Shown := if s.on R.INP_LOSS_FALLBACK n then .undercoat else .black

/-- Whether the freeze of a loss has ended (R221). -/
def State.freezeOver (s : State) (n : Nat) : Bool :=
  !s.on R.INP_LOSS_FREEZE_HOLD n && ((s.port n).fellBack || s.rd R.INP_LOSS_FREEZE_MS n == 0)

/-- A decision of the timeline passes: the frames for which a drop or a repeat is forbidden run out (R216). -/
def SyncCtx.frameOn (c : SyncCtx) : SyncCtx := { c with noDrop := c.noDrop - 1, noRepeat := c.noRepeat - 1 }

/-- A context follows FREEZE at a switch line (R218): going live it freezes the frame last picked in the current store, ending it lets go. -/
def State.freezeTrack (s : State) (n t : Nat) (c : SyncCtx) : SyncCtx :=
  if s.rdk R.INP_SYNC_STG_FREEZE_LIVE n t = 1 then
    (if c.freezing then c else { c with freezing := true, frozen := c.pick.bind (s.frameAt n) })
  else { c with freezing := false, frozen := none }

/-- What the readers of a context see in loss (R221, R222, R224): `hasFrame` says that the context has a frame to freeze. -/
def State.lossPlane (s : State) (n : Nat) (hasFrame : Bool) (last : Shown) : Shown :=
  if s.rd R.INP_LOSS_POLICY n = 2 then .undercoat
  else if s.rd R.INP_LOSS_POLICY n ≠ 0 then .black
  else if hasFrame && !s.freezeOver n then last
  else s.fallbackPlane n

/-- The frame a context shows when its last pick is still stored. -/
def State.pickShown (s : State) (n : Nat) (c : SyncCtx) : Shown :=
  match c.pick.bind (s.frameAt n) with
  | some f => .frame f
  | none => c.shown

/-- The frame picked between the bounds of R215 and R216: the pick, the frames dropped, whether it repeats. -/
def State.bounded (s : State) (n : Nat) (c : SyncCtx) (p tgt : Nat) : Nat × Nat × Bool :=
  if tgt ≤ p then
    (if 0 < c.noRepeat && (s.frameAt n (p + 1)).isSome then (p + 1, 0, false) else (p, 0, true))
  else if tgt = p + 1 then (tgt, 0, false)
  else if 0 < c.noDrop then (p + 1, 0, false)
  else (tgt, tgt - p - 1, false)

/-- A pick becomes what the context shows. -/
def State.takePick (s : State) (n t k : Nat) (c : SyncCtx) : State :=
  let c' := { c with pick := some k, started := true, inLoss := false,
                     shown := match s.frameAt n k with | some f => Shown.frame f | none => c.shown }
  let c' := if c.freezing then { c' with frozen := s.frameAt n k } else c'
  (s.setCtx n t c').wrk R.INP_SYNC_PICK_IFC n t k

/-- A slip (R217): counted and raised, FSN on the context's timeline. -/
def State.slip (s : State) (n t drops : Nat) (rep : Bool) : State :=
  let s := if rep then s.addSat R.INP_SYNC_SLIPS_REPEATS n t 1 else s.addSat R.INP_SYNC_SLIPS_DROPS n t drops
  s.raise evINP n 0 6 kInput n .ok (s.fsn t) 0 (t * 2 ^ 28 + b2n rep * 2 ^ 27 + drops % 256)

/-- Whether a context has made no decision since a loss of its port ended (R223): it made its last in the loss, or picked a frame from before it. -/
def State.afterLoss (s : State) (n : Nat) (c : SyncCtx) : Bool := c.inLoss || c.pick.any (fun p => decide (p < (s.port n).resumed))

/-- The first decision after a loss (R223): under R215 and R216, counted as neither drop nor repeat; HOLD counts on from it. -/
def State.resumeDecision (s : State) (n t : Nat) (c : SyncCtx) (p tgt : Nat) : State :=
  let r := s.bounded n c p tgt
  let hold := s.rd R.INP_SYNC_HOLD n
  s.takePick n t r.1 { c with noDrop := if r.2.2 then hold + 1 else 0, noRepeat := if 0 < r.2.1 then hold + 1 else 0 }

/-- The decision of a context of an input that is not in loss (R215, R216, R222 to R224). -/
def State.liveDecision (s : State) (n t now : Nat) (c : SyncCtx) : State :=
  match s.target n now with
  | none => s.setCtx n t { c with shown := s.lossPlane n false c.shown }
  | some tgt =>
    if s.afterLoss n c && decide (tgt < (s.port n).resumed) then
      s.setCtx n t (if c.inLoss then c else { c with inLoss := true, shown := s.lossPlane n c.pick.isSome (s.pickShown n c) })
    else
      match c.pick with
      | none => s.takePick n t tgt { c with noDrop := 0, noRepeat := 0 }
      | some p =>
        if !c.started then s.takePick n t tgt { c with noDrop := 0, noRepeat := 0 }
        else if s.afterLoss n c then s.resumeDecision n t c p tgt
        else
          let r := s.bounded n c p tgt
          let hold := s.rd R.INP_SYNC_HOLD n
          let c := { c with noDrop := if r.2.2 then hold + 1 else c.noDrop, noRepeat := if 0 < r.2.1 then hold + 1 else c.noRepeat }
          let s := s.takePick n t r.1 c
          if r.2.2 then s.slip n t 0 true else if 0 < r.2.1 then s.slip n t r.2.1 false else s

/-- The decision of a context whose FREEZE is not live, or that has nothing to freeze yet (R215 to R224). -/
def State.freeDecision (s : State) (n t now : Nat) (c : SyncCtx) : State :=
  if s.inLoss n then
    s.setCtx n t { c with inLoss := true, shown := s.lossPlane n c.pick.isSome (s.pickShown n c) }
  else s.liveDecision n t now c

/-- The decision of an active context at the scheduled start of a switch line (R215, R218, R248). -/
def State.syncDecide (s : State) (n t now : Nat) : State :=
  let c := (s.freezeTrack n t (s.ctx n t)).frameOn
  let c := if (s.rdk R.INP_SYNC_STAT_ACTIVE n t) = 1 then c else { c with started := false }
  let s := s.wrk R.INP_SYNC_STAT_ACTIVE n t 1
  match c.frozen with
  | some f => s.setCtx n t { c with shown := .frame f }
  | none => s.freeDecision n t now c

/-- What a decision was, as a SYNC record names it (R582): `p` is the pick before, none for a decision that counts as neither drop nor repeat. -/
def State.syncBody (s : State) (n t : Nat) (p : Option Nat) : DetBody :=
  let c := s.ctx n t
  match c.shown with
  | .frame f =>
    let kind := if c.freezing || c.inLoss then 3 else match p with
      | some q => if f.ifc = q then 1 else if f.ifc = q + 1 then 0 else 2
      | none => 0
    .sync n kind (f.ifc % 2 ^ 32) (frameSig f.det.struct f.pic)
  | _ => .sync n 4 0 0

/-- A decision of the primary's is followed (R220, R584). The frames for which a drop or a repeat is forbidden count on as on the primary (R216), so that
a decision of this card's own keeps them. -/
def State.syncFollow (s : State) (n t kind ifc sig : Nat) : State :=
  let c := (s.ctx n t).frameOn
  let hold := s.rd R.INP_SYNC_HOLD n
  let resumes := s.afterLoss n c
  if kind = 4 then s.setCtx n t { c with inLoss := true, started := true, shown := s.lossPlane n false c.shown }
  else
    match s.mappedFrame n ifc sig with
    | (s, none) => s.setCtx n t { c with inLoss := true, started := true, shown := s.lossPlane n false c.shown }
    | (s, some f) =>
      let live := kind == 3 && s.rdk R.INP_SYNC_STG_FREEZE_LIVE n t == 1
      let c' := { c with freezing := live, frozen := if live then some f else none, started := true, inLoss := kind == 3 && !live, shown := .frame f,
                         noDrop := if kind = 1 then hold + 1 else if resumes && kind != 3 then 0 else c.noDrop,
                         noRepeat := if kind = 2 then hold + 1 else if resumes && kind != 3 then 0 else c.noRepeat }
      if kind = 3 then s.setCtx n t c'
      else
        let s := (s.setCtx n t { c' with pick := some f.ifc }).wrk R.INP_SYNC_PICK_IFC n t f.ifc
        if kind = 1 then s.slip n t 0 true
        else if kind = 2 then s.slip n t (f.ifc - (c.pick.getD f.ifc) - 1) false else s

/-- The decision of one active context at the switch line of FSN `k`: the primary's where this card follows one, else its own, recorded for a
secondary (R215, R220, R582). -/
def State.syncOne (s : State) (n t now : Nat) : State :=
  let k := s.fsn t
  let mine := s.recFor (fun r => r.tln == t && r.fsn == k && (match r.body with | .sync p _ _ _ => p == n | _ => false))
  match (if s.follows then mine else none) with
  | some r =>
    (match r.body with
     | .sync _ kind ifc sig => ((s.recUse r).wrk R.INP_SYNC_STAT_ACTIVE n t 1).syncFollow n t kind ifc sig
     | _ => s)
  | none =>
    let c := s.ctx n t
    let p := if s.afterLoss n c || !c.started then none else c.pick
    let s := s.syncDecide n t now
    s.sendDet t k (s.syncBody n t p)

/-- The decisions of every port's context `t` at a switch line of TLNt (R215); a context without readers is not active (R214). -/
def State.syncDecisions (s : State) (t now : Nat) : State :=
  (upFrom 0 s.lanes).foldl (fun s n =>
    if s.ctxActive n t then s.syncOne n t now
    else if s.rdk R.INP_SYNC_STAT_ACTIVE n t = 1 then
      (s.wrk R.INP_SYNC_STAT_ACTIVE n t 0).setCtx n t { (s.freezeTrack n t (s.ctx n t)).frameOn with started := false }
    else if (tfind s.sync (16 * n + t)).isSome then s.setCtx n t (s.freezeTrack n t (s.ctx n t)).frameOn
    else s) s

/-! ### Slots (R219) -/

/-- Whether a stored frame's slot is pinned or being read: a context freezes or shows it, or a job's reader holds it (R218, R219, R290). -/
def State.slotHeld (s : State) (n ifc : Nat) : Bool :=
  (upFrom 0 16).any (fun t =>
    (s.ctx n t).frozen.any (fun f => f.ifc == ifc)
      || (s.rdk R.INP_SYNC_STAT_ACTIVE n t == 1 && (match (s.ctx n t).shown with | .frame f => f.ifc == ifc | _ => false)))
    || s.jobs.any (fun e => s.selNames n (96 + e.1) && e.2.frc != 0 && e.2.held.contains ifc)

/-- The slot for a new frame: a slot that holds none, else that of the oldest frame that is neither pinned nor read (R219). -/
def State.freeSlot (s : State) (n : Nat) : Option Nat :=
  let x := s.port n
  match (upFrom 0 x.slots).find? (fun k => !x.frames.any (fun f => f.slot == k)) with
  | some k => some k
  | none => (x.frames.find? (fun f => !s.slotHeld n f.ifc)).map (·.slot)

/-! ### Start and stop (R203, R204, R210, R211) -/

/-- The charge of a port's store writes (R265). -/
def State.portCharge (s : State) (n : Nat) : Nat :=
  let c := s.rd R.INP_CFG_MAX_CLASS n
  Sys2Proof.Machine.chargeOf (picBytes (classDims c).1 (classDims c).2 (s.rd R.INP_CFG_MAX_STRUCT n))
    (if c = 0 then 30 else if c = 1 then 120 else 60)

/-- The register address of a port's register. -/
def inpAddr (n off : Nat) : Nat := 0x200000 + 0x1000 * n + off

/-- The slots a start asks for (R210). -/
def State.slotsAsked (s : State) (n : Nat) : Nat := s.rd R.INP_CFG_DEPTH n + s.rd R.INP_CFG_DELAY n
/-- The slot size a start asks for (R209). -/
def State.slotSize (s : State) (n : Nat) : Nat := slotBytesOf (s.rd R.INP_CFG_MAX_CLASS n) (s.rd R.INP_CFG_MAX_STRUCT n)

/-- The checks of a start request to a port (R41, R203, R204, R630, R670). -/
def State.inpStartChecks (s : State) (p n : Nat) : List (Bool × Status) :=
  [ (!s.holds p kInput n && p != pTwin, .protected'),
    (s.quadMember n || (s.rd R.INP_CFG_MAX_CLASS n == 3 && !s.quadOn n), .decode),
    (s.modePending || !(s.modeCode == mIDLE || s.modeCode == mRUN || (s.modeCode == mMIRROR && p == pTwin)), .mode),
    (s.rd R.INP_STAT_LC_STATE n != lcSTOPPED, .unitRunning),
    (!s.tlnRuns (s.rd R.INP_CFG_REF_TLN n), .timeline),
    (decide (0 < (s.port n).slots) && ((s.port n).slots != s.slotsAsked n || (s.port n).slotBytes != s.slotSize n), .draining) ]

/-- The store of a starting port: reused, or allocated afresh (R210, R211). -/
def State.storeFor (s : State) (n : Nat) : Option State :=
  if 0 < (s.port n).slots then some s
  else
    match s.allocate (s.slotsAsked n * s.slotSize n) 65536 (storeKey n) true false with
    | none => none
    | some (_, s1) =>
      let s1 := s1.setPort n fun x => { x with slots := s.slotsAsked n, slotBytes := s.slotSize n, frames := [], first := none }
      let s1 := { s1 with sync := s1.sync.map (fun (e : Nat × SyncCtx) => if e.1 / 16 = n then (e.1, { e.2 with pick := none, frozen := none }) else e) }
      some (s1.wr R.INP_STORE_KIB n (s.slotsAsked n * s.slotSize n / 1024))

/-- The effect of a start request that passed its checks (R203, R210, R386): nothing stays allocated when it fails. -/
def State.inpArm (s : State) (n : Nat) : State × Status :=
  match (s.storeFor n).bind (fun s => s.histAlloc n) with
  | none => (s, .noMemory)
  | some s1 =>
    if s1.admits [(cInput n, s.portCharge n)] then
      (((s1.takeCharges [(cInput n, s.portCharge n)]).wr R.INP_STAT_LC_STATE n lcARMED), .ok)
    else (s.inc R.PLZ_ISO_REFUSED_COUNT 0, .bandwidth)

/-- A start request to an input port. -/
def inpStart (p n : Nat) (s : State) : State := s.gateM p (inpAddr n 0) (s.inpStartChecks p n) (fun s => s.inpArm n)

/-- The effect of a stop request (R41, R203, R670). -/
def State.inpStopReq (s : State) (n : Nat) : State :=
  if s.rd R.INP_STAT_LC_STATE n = lcARMED then s.inpStopped n
  else if s.rd R.INP_STAT_LC_STATE n = lcRUNNING then
    let s := ((s.portAudioLoss n).beginLoss n).wr R.INP_STAT_LC_STATE n lcSTOPPING
    if (s.port n).writing.isSome then s else s.inpStopped n
  else s

/-- A stop request to an input port. -/
def inpStop (p n : Nat) (s : State) : State :=
  s.gate p (inpAddr n 0) true [(!s.holds p kInput n && p != pTwin, .protected')] (fun s => s.inpStopReq n)

/-- INP_START. -/
def execInpStart (p n : Nat) (s : State) : Res := .next (s.regRec (inpAddr n 0) 1 (inpStart p n s))
/-- INP_STOP. -/
def execInpStop (p n : Nat) (s : State) : Res := .next (s.regRec (inpAddr n 0) 2 (inpStop p n s))

end Sys2Proof.Machine
end

