-- ==== Sys2Proof/Machine/Inputs.lean ====
section
/-! DEFINITION. The input port: detection (R205 to R207), publication (R208), the frame store (R219), loss (R221), the FIFO fault
(R225), ANC capture (R226 to R231) and timecode (R232, R233). -/

namespace Sys2Proof.Machine

open Sys2Proof

/-! ### Detection (R205 to R207) -/

/-- Whether two determinations name the same signal. -/
def Det.same (a b : Det) : Bool := a.fmt == b.fmt && a.struct == b.struct && a.transfer == b.transfer && a.color == b.color

/-- Whether a determination fits the store (R209): its picture and its bytes per pixel. -/
def State.detFits (s : State) (n : Nat) (d : Det) : Bool :=
  let f := fmtD d.fmt
  let c := classDims (s.rd R.INP_CFG_MAX_CLASS n)
  decide (f.w ≤ c.1) && decide (f.h ≤ c.2) && decide (quarterBytes d.struct ≤ quarterBytes (s.rd R.INP_CFG_MAX_STRUCT n))

/-- A code for a determination in the lists of those reported. -/
def Det.code (d : Det) : Nat := d.fmt * 2 ^ 16 + d.struct * 2 ^ 8 + d.transfer * 16 + d.color

/-- FMT_DET as a determination. -/
def State.loadDet (s : State) (n : Nat) (d : Det) : State :=
  let s := s.wr R.INP_FMT_DET_FMT n d.fmt
  let s := s.wr R.INP_FMT_DET_STRUCT n d.struct
  let s := s.wr R.INP_FMT_DET_TRANSFER n d.transfer
  let s := s.wr R.INP_FMT_DET_COLOR n d.color
  let s := s.wr R.INP_FMT_DET_FROM_VPID n (b2n d.fromVpid)
  s.wr R.INP_FMT_DET_CONFLICT n (b2n d.conflict)

/-- A payload ID that disagrees: CONFLICT is set and VPID_CONFLICT raised once for each value (R206). -/
def State.conflict (s : State) (n : Nat) (d : Det) : State :=
  if !d.conflict then s
  else
    let s := s.wr R.INP_FMT_DET_CONFLICT n 1
    if (s.port n).conflTold.contains (s.vpidWord n) then s
    else (s.setPort n fun x => { x with conflTold := s.vpidWord n :: x.conflTold }).inpEvent n 4 .ok 0 (s.vpidWord n)

/-- A determination held for LOCK_FRAMES frames that does not fit, or is not the one expected (R207). -/
def State.tellMisfit (s : State) (n : Nat) (d : Det) : State :=
  let s := if !s.detFits n d ∧ !(s.port n).fitTold.contains d.code then
      (s.setPort n fun x => { x with fitTold := d.code :: x.fitTold }).inpEvent n 3 .lenExceeds 0 d.fmt
    else s
  if s.rd R.INP_CFG_EXP_FMT n ≠ 0 ∧ d.fmt ≠ s.rd R.INP_CFG_EXP_FMT n ∧ !(s.port n).mismTold.contains d.code then
    (s.setPort n fun x => { x with mismTold := d.code :: x.mismTold }).inpEvent n 2 .ok 0 d.fmt
  else s

/-- A complete frame counts toward VALID (R207). -/
def State.acquire (s : State) (n : Nat) (d : Det) : State :=
  let run := if (s.port n).cand.any (Det.same d) then (s.port n).run + 1 else 1
  let s := s.setPort n fun x => { x with cand := some d, run := run }
  if run < s.rd R.INP_CFG_LOCK_FRAMES n then s
  else if d.fmt ≠ 0 ∧ s.detFits n d ∧ (s.rd R.INP_CFG_EXP_FMT n = 0 ∨ d.fmt = s.rd R.INP_CFG_EXP_FMT n) then
    ((s.wr R.INP_STAT_IN_STATE n inVALID).loadDet n d).inpEvent n 0 .ok 0 (d.struct * 256 + d.fmt)
  else s.tellMisfit n d

/-- The judgement of a complete frame by the detection state machine (R207). -/
def State.judge (s : State) (n : Nat) (d : Det) : State :=
  let s := s.conflict n d
  if s.rd R.INP_STAT_IN_STATE n = inVALID then
    if (s.port n).cand.any (Det.same d) then s.loadDet n { d with conflict := d.conflict || s.on R.INP_FMT_DET_CONFLICT n }
    else
      let s := ((s.portAudioLoss n).beginLoss n).inpEvent n 1 .ok 0 2
      let s := s.setPort n fun x => { x with cand := some d, run := 0, skipping := true }
      (s.wr R.INP_STAT_IN_STATE n inACQUIRING).acquire n d
  else s.acquire n d

/-! ### Timecode (R232, R233) -/

/-- A BCD byte as a number. -/
def bcd (x : Nat) : Nat := x / 16 * 10 + x % 16
/-- A number below 100 as BCD. -/
def toBcd (x : Nat) : Nat := x / 10 * 16 + x % 10

/-- The counting part of an INP.TC word: hours, minutes, seconds, frames and the pair flag. -/
def tcParts (w : Nat) : Nat × Nat × Nat × Nat × Nat :=
  (bcd (bitsOf w 24 6), bcd (bitsOf w 16 7), bcd (bitsOf w 8 7), bcd (bitsOf w 0 6), bitsOf w 15 1)

/-- One frame count on (R233): `per` counts a second, drop-frame numbering skipping 0 and 1 at each minute but the tenths. -/
def tcNextFrame (h m sec f per : Nat) (df : Bool) : Nat × Nat × Nat × Nat :=
  if f + 1 < per then (h, m, sec, f + 1)
  else if sec + 1 < 60 then (h, m, sec + 1, 0)
  else
    let f0 := if df && (m + 1) % 10 != 0 then 2 else 0
    if m + 1 < 60 then (h, m + 1, 0, f0) else ((h + 1) % 24, 0, 0, if df then 0 else f0)

/-- Whether timecode `w` is the previous one plus one frame, at `fps` frames a second (R233). Above 30 frames a second the count is of
frame pairs and the flag tells the two; above 60 it is one of several frames of a pair that may repeat it. -/
def tcFollows (prev w fps : Nat) : Bool :=
  let (h, m, sec, f, q) := tcParts prev
  let (h', m', s', f', q') := tcParts w
  let df := bitAt prev 30
  let next := tcNextFrame h m sec f (if fps ≤ 30 then fps else if fps ≤ 60 then fps / 2 else fps / 4) df
  if fps ≤ 30 then (h', m', s', f') == next
  else if fps ≤ 60 then (if q = 0 then (h', m', s', f', q') == (h, m, sec, f, 1) else ((h', m', s', f') == next && q' == 0))
  else (h', m', s', f') == next || (h', m', s', f') == (h, m, sec, f)

/-- An INP.TC word into its register. -/
def State.loadTc (s : State) (n w : Nat) : State :=
  let s := s.wr R.INP_TC_DF n (bitsOf w 30 1)
  let s := s.wr R.INP_TC_HOURS n (bitsOf w 24 6)
  let s := s.wr R.INP_TC_CF n (bitsOf w 23 1)
  let s := s.wr R.INP_TC_MINUTES n (bitsOf w 16 7)
  let s := s.wr R.INP_TC_PAIR n (bitsOf w 15 1)
  let s := s.wr R.INP_TC_SECONDS n (bitsOf w 8 7)
  s.wr R.INP_TC_FRAMES n (bitsOf w 0 6)

/-- The timecode of a published frame (R233). -/
def State.publishTc (s : State) (n : Nat) : State :=
  let x := s.port n
  if s.rd R.INP_TCCFG_TC_SRC n ≠ 1 ∧ s.rd R.INP_TCCFG_TC_SRC n ≠ 2 then
    (s.wr R.INP_TC_VALID n 0).setPort n fun y => { y with tcMiss := 0, tcPrev := none }
  else
    match x.tcNow with
    | none =>
      let s := (s.wr R.INP_TC_VALID n 0).setPort n fun y => { y with tcMiss := y.tcMiss + 1, tcPrev := none }
      if x.tcMiss + 1 = 2 then s.inpEvent n 8 .ok 0 0 else s
    | some (w, ub) =>
      let s := ((s.wr R.INP_TC_VALID n 1).loadTc n w).wr R.INP_TC_UB_UB n ub
      let s := s.setPort n fun y => { y with tcMiss := 0, tcPrev := some w }
      if x.tcPrev.any (fun q => !tcFollows q w (ceilRate (fmtD (s.rd R.INP_FMT_DET_FMT n)))) then s.inpEvent n 9 .ok 0 (setBit w 31) else s

/-! ### Frames (R208, R219) -/

/-- INP.PHASE (R249): line 1 of the input against line 1 of REF_TLN, when the frame rates are equal. -/
def State.measurePhase (s : State) (n : Nat) : State :=
  let t := s.rd R.INP_CFG_REF_TLN n
  let f := fmtD (s.rd R.REF_TLN_CFG_FMT t)
  let g := fmtD (s.rd R.INP_FMT_DET_FMT n)
  let x := tget Tln.reset s.tln t
  if s.rd R.INP_STAT_IN_STATE n = inVALID ∧ s.tlnRuns t ∧ f.num * g.den = g.num * f.den then
    let d : Int := (s.epoch : Int) - (lineStart f x.phase x.n 1 : Nat)
    let p : Int := (periodNs f : Nat)
    let d := if p < 2 * d then d - p else if 2 * d < -p then d + p else d
    (s.wr R.INP_PHASE_OFFSET n (twos 32 d)).wr R.INP_STAT_PHASE_VALID n 1
  else s.wr R.INP_STAT_PHASE_VALID n 0

/-- The filters in force (R227). -/
def State.latchFilters (s : State) (n : Nat) : List (Nat × Nat × Nat) :=
  (upFrom 0 16).map (fun f =>
    (s.rdk R.INP_ANCF_MATCH_ENABLE n f * 2 ^ 31 + s.rdk R.INP_ANCF_MATCH_SDID_ANY n f * 2 ^ 30 + s.rdk R.INP_ANCF_MATCH_STREAM n f * 2 ^ 28
      + s.rdk R.INP_ANCF_MATCH_LINE_ALL n f * 2 ^ 27 + s.rdk R.INP_ANCF_MATCH_CAP_BAD n f * 2 ^ 26 + s.rdk R.INP_ANCF_MATCH_DID n f * 256
      + s.rdk R.INP_ANCF_MATCH_SDID n f,
     s.rdk R.INP_ANCF_LINES_LINE_FIRST n f * 2 ^ 16 + s.rdk R.INP_ANCF_LINES_LINE_LAST n f, s.rdk R.INP_ANCF_RING_RING n f))

/-- The raw audio samples of the input frame before, if it was not published: they belong to no frame (R405). -/
def State.rawDrop (s : State) (n : Nat) : State :=
  { s with grpX := s.grpX.map (fun (e : Nat × GrpX) => if e.1 / 8 = n then (e.1, { e.2 with raw := tdel e.2.raw ((s.port n).ifcN + 1) }) else e) }

/-- Line 1 of a new input frame (R203, R219, R227). -/
def inputFrameStart (n : Nat) (s : State) : State :=
  if s.lanes ≤ n ∨ s.rd R.INP_STAT_IN_STATE n = inNO_SIGNAL ∨ !s.portOn n then s
  else
    let s := (s.measurePhase n).rawDrop n
    let fs := s.latchFilters n
    let s := s.setPort n fun x => { x with line1 := s.epoch, seen := true, writing := none, skipping := false, tcNow := none, filters := fs, rows := [] }
    if s.rd R.INP_STAT_LC_STATE n ≠ lcRUNNING then s
    else
      match s.freeSlot n with
      | some k => s.setPort n fun x => { x with writing := some k, frames := x.frames.filter (fun f => f.slot != k) }
      | none =>
        ((s.setPort n fun x => { x with skipping := true }).inc R.INP_CNT_WR_SKIP_COUNT n).inpEvent n 10 .ok 0 (s.rd R.INP_IFC_COUNT n)

/-- Publish the frame in a slot (R208, R223, R233). -/
def State.publish (s : State) (n k : Nat) (d : Det) (pic : Pic) : State :=
  let x := s.port n
  let num := x.ifcN + 1
  let f : Frame := ⟨num, s.epoch, k, d, x.tcNow.isSome, (x.tcNow.getD (0, 0)).1, (x.tcNow.getD (0, 0)).2, pic⟩
  let s := s.setPort n fun y =>
    { y with frames := y.frames ++ [f], ifcN := num, first := some (y.first.getD num), writing := none,
             resumed := if y.lossAt.isSome then num else y.resumed, lossAt := none, fellBack := false }
  let s := (s.wr R.INP_IFC_COUNT n num).wr R.INP_STAT_LOSS_PHASE n 0
  s.publishTc n

/-- The picture of the rows of a frame, down to the last that came. -/
def framePic (rows : Tab (List Pixel)) : Pic :=
  (upFrom 0 (rows.foldl (fun m e => max m (e.1 + 1)) 0)).map (fun y => (tfind rows y).getD [])

/-- The last active line of an input frame has been written (R207, R208): its picture is the rows that came. A frame whose line 1 came before detection could start
does not count (R675). -/
def inputFrameDone (n : Nat) (s : State) : State :=
  if s.lanes ≤ n ∨ s.rd R.INP_STAT_IN_STATE n = inNO_SIGNAL ∨ !s.portOn n ∨ !(s.port n).seen then s
  else
    let d := s.detOf n
    let pic := framePic (s.port n).rows
    let s := s.judge n d
    let x := s.port n
    let s := match x.writing with
      | some k =>
        if s.rd R.INP_STAT_IN_STATE n = inVALID ∧ !x.skipping ∧ (s.rd R.INP_STAT_LC_STATE n = lcRUNNING ∨ s.rd R.INP_STAT_LC_STATE n = lcSTOPPING)
        then s.publish n k d pic else s
      | none => s
    (s.dropFrame n).inpStopLost n

/-- FREEZE_MS has elapsed in a loss (R221): LOSS_FALLBACK once. -/
def freezeMsExpiry (n : Nat) (s : State) : State :=
  if (s.port n).lossAt.isSome ∧ !(s.port n).fellBack ∧ s.rd R.INP_LOSS_POLICY n = 0 ∧ !s.on R.INP_LOSS_FREEZE_HOLD n then
    ((s.setPort n fun x => { x with fellBack := true }).wr R.INP_STAT_LOSS_PHASE n 2).inpEvent n 5 .ok 0 0
  else s

/-- The 12 argument bytes of an uncorrectable error in an on-die store (R640, R679). -/
def sramArg (store inst word : Nat) : List Nat := leBytes 5 (2 ^ 39 + store * 2 ^ 32 + inst * 2 ^ 24 + word % 2 ^ 24)

/-- An uncorrectable FIFO error (R225): the frame is discarded and the port stops. Its FIFO gives nothing more: each street-path reader takes the rest
of its frame under R253, with cause 4 from its next line on (State.streetMiss). DESIGN CHOICE (assumption 128): the fault stops the port in ARMED and
STOPPING as in RUNNING, where the table of R41 names RUNNING. -/
def inputFifoEccFault (n addr : Nat) (s : State) : State :=
  if s.lanes ≤ n ∨ s.rd R.INP_STAT_LC_STATE n = lcSTOPPED then s
  else
    let s := s.inpEvent n 11 .eccUncorr 0 0
    let s := s.flog (0x100 + n) 0x10 .eccUncorr false (sramArg 1 n addr)
    let s := s.setPort n fun x => { x with fifo := [] }
    (s.beginLoss n).inpStopped n

/-! ### ANC capture (R226 to R231) -/

/-- Whether a latched filter matches a packet (R227). -/
def ancMatches (f : Nat × Nat × Nat) (p : AncPkt) : Bool :=
  bitAt f.1 31 && bitsOf f.1 8 8 == p.did && (bitAt f.1 30 || bitsOf f.1 0 8 == p.sdid)
    && (bitsOf f.1 28 2 == 0 || bitsOf f.1 28 2 == p.stream)
    && (bitAt f.1 27 || (decide (bitsOf f.2.1 16 13 ≤ p.line) && decide (p.line ≤ bitsOf f.2.1 0 13)))

/-- The lowest-numbered filter that a packet matches (R227). -/
def ancFilter (fs : List (Nat × Nat × Nat)) (p : AncPkt) : Option Nat :=
  (upFrom 0 fs.length).find? (fun i => ancMatches (fs.getD i (0, 0, 0)) p)

/-- 10-bit words packed least significant bit first. -/
def packWords (ws : List Nat) : Nat := ws.foldr (fun w a => w % 1024 + 1024 * a) 0

/-- The entries a captured packet takes (R229). -/
def ancEntries (dc : Nat) : Nat := ceilDiv (32 + ceilDiv ((dc + 1) * 10) 8) 128

/-- The record of a captured packet (R229), filled with zeros to whole entries. -/
def State.ancRecord (s : State) (n f : Nat) (p : AncPkt) : List Nat :=
  let dc := p.udw.length
  let link := if s.quadOn n then p.link else 1
  let r := [ancEntries dc, b2n p.csumOk + 2 * b2n p.hanc + 4 * b2n (p.stream == 2) + 16 * link] ++ leBytes 2 p.line ++ leBytes 2 p.hpos
    ++ [p.did, p.sdid, dc, f, 0, 0] ++ leBytes 4 ((s.port n).ifcN + 1) ++ leBytes 8 s.epochStamp ++ List.replicate 8 0
    ++ leBytes (ceilDiv ((dc + 1) * 10) 8) (packWords (p.udw ++ [p.csum]))
  r ++ List.replicate (128 * ancEntries dc - r.length) 0

/-- Write the entries of a record into a ring, one after another. -/
def State.pushEntries (s : State) (ring : Nat) : Nat → List Nat → State
  | 0, _ => s
  | k + 1, bs => (s.ringPush ring (bs.take 128) false).pushEntries ring k (bs.drop 128)

/-- A matched packet goes to the ring that its filter had at the start of the frame when N entries are free; else it is dropped whole
(R97, R227, R229, R230). -/
def State.ancWrite (s : State) (n f : Nat) (p : AncPkt) : State :=
  let h := ((s.port n).filters.getD f (0, 0, 0)).2.2
  let k := ancEntries p.udw.length
  match tfind s.rings (hIdx h) with
  | none => s
  | some r =>
    if s.badHandle h then s
    else if ringUsed r + k ≤ 2 ^ r.size then
      (s.pushEntries (hIdx h) k (s.ancRecord n f p)).inc R.INP_CNT_ANC_CAPT_COUNT n
    else
      let s := s.setRing (hIdx h) { r with overflow := true, occ := satAdd 16 r.occ 1, drops := satAdd 32 r.drops k }
      (s.inc R.INP_CNT_ANC_OVF_COUNT n).inpEvent n 7 .ok p.line f

/-- An ANC packet arrives; it is captured, and its timecode extracted, only while the port is RUNNING (R204, R226 to R232). -/
def ancPacketReceived (n : Nat) (p : AncPkt) (s : State) : State :=
  if s.lanes ≤ n ∨ s.rd R.INP_STAT_LC_STATE n ≠ lcRUNNING ∨ !s.packetArrives n p.words then s
  else if !p.parityOk then s.inc R.INP_CNT_ANC_HDR_COUNT n
  else
    let s := if p.csumOk then s else s.inc R.INP_CNT_ANC_CSUM_COUNT n
    let s := match atcOf (tcFive (s.rd R.INP_FMT_DET_FMT n)) p with
      | some (k, w, ub) =>
        if p.csumOk ∧ k = s.rd R.INP_TCCFG_TC_SRC n then s.setPort n fun x => { x with tcNow := some (w, ub) } else s
      | none => s
    match ancFilter (s.port n).filters p with
    | none => s
    | some f => if p.csumOk ∨ bitAt ((s.port n).filters.getD f (0, 0, 0)).1 26 then s.ancWrite n f p else s

/-- The checks of a write that binds a ring a unit writes or reads (R228, R368, R407): owner session, or for a ring the unit consumes a session
with a grant of it (R79), direction and entry size asked. -/
def State.ringChecks (s : State) (h owner : Nat) (hostProduces : Bool) (esize : Nat) : List (Bool × Status) :=
  let r := tfind s.rings (hIdx h)
  let good := !s.badHandle h && hKind h == kRing
  [ (s.absentHandle h, .unitAbsent), (s.badHandle h, .badHandle), (!s.badHandle h && hKind h != kRing, .wrongKind),
    (!s.badHandle h && (if hostProduces && hKind h != kSession then !s.mayRead owner h else s.foreign owner h), .protected'),
    (!s.badHandle h && s.isDraining h, .draining),
    (good && r.any (fun x => x.hostProduces != hostProduces), .wrongKind),
    (good && r.any (fun x => x.esize != esize), .lenExceeds) ]

/-- A write of INP.ANCF_RING (R202, R228). -/
def ancfRingWrite (p n filter ring : Nat) (s : State) : State :=
  s.gate p (inpAddr n (0x208 + 0x10 * (filter % 16))) true
    ((!s.holds p kInput n, .protected') :: s.ringChecks (ring % 2 ^ 32) (s.obj kInput n).owner false 3)
    (fun s => s.wrk R.INP_ANCF_RING_RING n (filter % 16) ring)

/-- INPUT_FRAME_START. -/
def execInputFrameStart (n : Nat) (s : State) : Res := .next (inputFrameStart n s)
/-- FREEZE_MS_EXPIRY. -/
def execFreezeMsExpiry (n : Nat) (s : State) : Res := .next (freezeMsExpiry n s)
/-- INPUT_FIFO_ECC_FAULT. -/
def execInputFifoEccFault (n addr : Nat) (s : State) : Res := .next (inputFifoEccFault n addr s)
/-- ANC_PACKET_RECEIVED. -/
def execAncPacketReceived (n : Nat) (pkt : AncPkt) (s : State) : Res := .next (ancPacketReceived n pkt s)
/-- ANCF_RING_WRITE. -/
def execAncfRingWrite (p n filter ring : Nat) (s : State) : Res := .next (s.regRec (0x200208 + 0x1000 * n + 16 * filter) ring (ancfRingWrite p n filter ring s))

end Sys2Proof.Machine
end

