-- ==== Sys2Proof/Machine/Pixels.lean ====
section
/-! DEFINITION. Pixel arithmetic: working values (R340, R677), the scalers (R298, R299, R341, R342), matrices and look-up tables (R310), the
built-in matrices (R344), the blend (R345), the output conversion (R310), the surface formats (R325) and the tile-packed format
(R328 to R331). Everything here is a function of its arguments. -/

namespace Sys2Proof.Machine

open Sys2Proof

/-- A pixel in working values: three components and the alpha, 0 to 1,024. -/
structure W4 where
  a : Int
  b : Int
  c : Int
  al : Int
deriving DecidableEq, Repr

/-- A source of pixels: its size and the pixel at a column and row. -/
structure Src where
  w : Nat
  h : Nat
  pix : Nat → Nat → W4

/-- Saturation to the working range (R677). -/
def satW (x : Int) : Int := clampInt (-65536) 131071 x
/-- An arithmetic right shift. -/
def sar (x : Int) (n : Nat) : Int := x / ((2 ^ n : Nat) : Int)

/-- Whether a sample structure has 12-bit codes (R160). -/
def is12 (struct : Nat) : Bool := decide (3 ≤ struct)
/-- A code as a working value (R340, R677). -/
def codeToW (struct c : Nat) : Int := if is12 struct then (c : Int) * 16 else (c : Int) * 64

/-- Black in working values (R343). -/
def blackW : W4 := ⟨4096, 32768, 32768, 1024⟩
/-- Black of a sample structure in working values: the equivalent of Y 64, Cb 512, Cr 512 (R221), for RGB 64 in each component. -/
def blackOf (struct : Nat) : W4 := if struct = 2 ∨ struct = 4 then ⟨4096, 4096, 4096, 1024⟩ else blackW
/-- A transparent pixel. -/
def clearW : W4 := ⟨0, 0, 0, 0⟩

/-- The chroma of column `x` of a 4:2:2 row of `n` chroma samples (R677): even columns keep the sample, odd ones are interpolated. -/
def upChroma (n : Nat) (c : Nat → Int) (x : Nat) : Int :=
  let m : Int := ((x / 2 : Nat) : Int)
  let at' := fun i : Int => c (clampInt 0 ((n : Int) - 1) i).toNat
  if x % 2 = 0 then at' m else satW (sar (-(at' (m - 1)) + 9 * at' m + 9 * at' (m + 1) - at' (m + 2) + 8) 4)

/-- A pixel of a picture of codes, 0 where the picture has none. -/
def picAt (p : List (List Pixel)) (x y : Nat) : Pixel := (p.getD y []).getD x ⟨0, 0, 0⟩

/-- A picture of codes of a sample structure as a source. Structure 0 carries chroma on its even columns. -/
def picSrc (struct w h : Nat) (p : List (List Pixel)) : Src :=
  ⟨w, h, fun x y =>
    if struct = 0 then
      ⟨codeToW 0 (picAt p x y).y, upChroma (w / 2) (fun k => codeToW 0 (picAt p (2 * k) y).cb) x,
        upChroma (w / 2) (fun k => codeToW 0 (picAt p (2 * k) y).cr) x, 1024⟩
    else ⟨codeToW struct (picAt p x y).y, codeToW struct (picAt p x y).cb, codeToW struct (picAt p x y).cr, 1024⟩⟩

/-- The size of a stored picture. -/
def picDims (p : List (List Pixel)) : Nat × Nat := ((p.headD []).length, p.length)

/-! ### Scalers -/

/-- The first tap and the phase of output position `x` (R298). -/
def phaseOf (inN outN x : Nat) : Int × Nat :=
  let step := inN * 65536 / outN
  let pos : Int := sar ((((2 * x + 1) * step : Nat) : Int) - 65536) 1
  let n := sar pos 16
  let p := ((pos - n * 65536).toNat + 512) / 1024
  if p = 64 then (n + 1, 0) else (n, p)

/-- A filter: taps, the offset of tap 0, the rounding shift, and the coefficient of a phase and tap. -/
structure Filt where
  taps : Nat
  first : Int
  shift : Nat
  coef : Nat → Nat → Int

/-- One pass over positions `lo` to `lo + n - 1` (R298, R299, R341). -/
def filt1 (f : Filt) (n : Nat) (inN outN x : Nat) (s : Int → Int) : Int :=
  let (k, p) := phaseOf inN outN x
  satW (sar ((upFrom 0 f.taps).foldl (fun a j => a + f.coef p j * s (clampInt 0 ((n : Int) - 1) (k + f.first + (j : Int)))) 0
    + ((2 ^ (f.shift - 1) : Nat) : Int)) f.shift)

/-- The 4-tap coefficient of R342: w_j times 1,024 × 2 × 64³, rounded half away from zero. -/
def cubic (p j : Nat) : Int :=
  let t : Int := (p : Int)
  let w : Int :=
    if j = 0 then -(t * t * t) + 2 * 64 * (t * t) - 64 * 64 * t
    else if j = 2 then -3 * (t * t * t) + 4 * 64 * (t * t) + 64 * 64 * t
    else t * t * t - 64 * (t * t)
  roundDiv (1024 * w) (2 * 64 * 64 * 64)

/-- The 4-tap polyphase scaler of LY0 and LY1 (R341, R342). -/
def filtCubic : Filt := ⟨4, -1, 10, fun p j => if j = 1 then 1024 - cubic p 0 - cubic p 2 - cubic p 3 else cubic p j⟩
/-- The bilinear scaler of LY2 to LY6 (R341). -/
def filtLinear : Filt := ⟨2, 0, 6, fun p j => if j = 0 then 64 - (p : Int) else (p : Int)⟩

/-- Scale the rectangle (sx, sy, sw, sh) of a source to (dw, dh): the pixel at (x, y) of the result (R299, R341). The alpha is filtered
like a component and clamped after both passes. -/
def scalePix (fh fv : Filt) (src : Src) (sx sy sw sh dw dh x y : Nat) : W4 :=
  let row := fun (g : W4 → Int) (r : Int) => filt1 fh sw sw dw x (fun i => g (src.pix (sx + i.toNat) (sy + r.toNat)))
  let col := fun (g : W4 → Int) => filt1 fv sh sh dh y (row g)
  ⟨col (·.a), col (·.b), col (·.c), clampInt 0 1024 (col (·.al))⟩

/-- A scaled source: unscaled where the sizes are equal, which is what phase 0 gives (R342). -/
def scaleRect (fh fv : Filt) (src : Src) (sx sy sw sh dw dh : Nat) : Src :=
  ⟨dw, dh, fun x y => if sw = dw ∧ sh = dh then src.pix (sx + x) (sy + y) else scalePix fh fv src sx sy sw sh dw dh x y⟩

/-! ### Matrices and tables (R310, R343, R344) -/

/-- A colour matrix: nine 3.14 coefficients and three offsets. -/
structure Mat where
  c : List Int
  o : List Int
deriving DecidableEq, Repr

/-- One row of a matrix (R310). -/
def matRow (m : Mat) (off : Int → Int) (i : Nat) (p : W4) : Int :=
  satW (sar (m.c.getD (3 * i) 0 * p.a + m.c.getD (3 * i + 1) 0 * p.b + m.c.getD (3 * i + 2) 0 * p.c + 8192) 14 + off (m.o.getD i 0))

/-- A matrix applied to a pixel, its offsets changed by `off` (R310, R343). -/
def matPix (m : Mat) (off : Int → Int) (p : W4) : W4 := ⟨matRow m off 0 p, matRow m off 1 p, matRow m off 2 p, p.al⟩

/-- MSEL 1, full-range RGB to YCbCr (R344). -/
def matFull (bt2020 : Bool) : Mat :=
  if bt2020 then ⟨[3686, 9512, 832, -2004, -5171, 7175, 7175, -6598, -577], [4096, 32768, 32768]⟩
  else ⟨[2983, 10034, 1013, -1644, -5531, 7175, 7175, -6517, -658], [4096, 32768, 32768]⟩
/-- MSEL 2, narrow-range RGB to YCbCr (R344). -/
def matNarrow (bt2020 : Bool) : Mat :=
  if bt2020 then ⟨[4304, 11108, 972, -2340, -6039, 8379, 8379, -7705, -674], [0, 32768, 32768]⟩
  else ⟨[3483, 11718, 1183, -1920, -6459, 8379, 8379, -7611, -768], [0, 32768, 32768]⟩
/-- OM_SEL 1, YCbCr to RGB (R344). -/
def matOut (bt2020 : Bool) : Mat :=
  if bt2020 then ⟨[16384, 0, 23621, 16384, -2636, -9152, 16384, 30137, 0], [-47242, 23576, -60274]⟩
  else ⟨[16384, 0, 25226, 16384, -3001, -7499, 16384, 29724, 0], [-50452, 21000, -59448]⟩

/-- A matrix from its twelve 32-bit words (R311, R334). -/
def matOfWords (ws : List Nat) : Mat := ⟨(ws.take 9).map (sext 32), ((ws.drop 9).take 3).map (sext 32)⟩

/-- The bank checks of a matrix (R311). -/
def matOk (ws : List Nat) : Bool :=
  (ws.take 9).all (fun w => decide (-131072 ≤ sext 32 w) && decide (sext 32 w ≤ 131071))
    && ((ws.drop 9).take 3).all (fun w => decide (-262144 ≤ sext 32 w) && decide (sext 32 w ≤ 262143))

/-- A 1D look-up table (R310). -/
def lut1 (l : Nat → Int) (u : Int) : Int :=
  let v := (clampInt 0 65535 u).toNat
  let i := v / 16
  l i + sar ((l (min (i + 1) 4095) - l i) * ((v % 16 : Nat) : Int) + 8) 4

/-- The 3D look-up table (R310): tetrahedral interpolation, the branches in the order listed. `e` gives the entry of three nodes. -/
def lut3 (e : Nat → Nat → Nat → Int) (x0 x1 x2 : Int) : Int :=
  let q := fun x => (clampInt 0 65535 x).toNat * 32
  let n0 := q x0 / 65536
  let n1 := q x1 / 65536
  let n2 := q x2 / 65536
  let f0 := q x0 % 65536
  let f1 := q x1 % 65536
  let f2 := q x2 % 65536
  let c := fun d0 d1 d2 => e (n0 + d0) (n1 + d1) (n2 + d2)
  let (a, b, w0, w1, w2) :=
    if f0 ≥ f1 ∧ f1 ≥ f2 then (c 1 0 0, c 1 1 0, f0, f1, f2)
    else if f0 ≥ f2 ∧ f2 ≥ f1 then (c 1 0 0, c 1 0 1, f0, f2, f1)
    else if f2 ≥ f0 ∧ f0 ≥ f1 then (c 0 0 1, c 1 0 1, f2, f0, f1)
    else if f1 ≥ f0 ∧ f0 ≥ f2 then (c 0 1 0, c 1 1 0, f1, f0, f2)
    else if f1 ≥ f2 ∧ f2 ≥ f0 then (c 0 1 0, c 0 1 1, f1, f2, f0)
    else (c 0 0 1, c 0 1 1, f2, f1, f0)
  clampInt 0 65535 (sar (c 0 0 0 * 65536 + (w0 : Int) * (a - c 0 0 0) + (w1 : Int) * (b - a) + (w2 : Int) * (c 1 1 1 - b) + 32768) 16)

/-! ### The blend (R345) -/

/-- One component of the blend. `b` is the black point of the component. -/
def blend1 (premult : Bool) (ga al b dst src : Int) : Int :=
  let k := sar (al * ga + 512) 10
  if premult then
    satW (dst + sar (ga * (src - sar (al * b + 512) 10) + 512) 10 - sar (k * (dst - b) + 512) 10)
  else satW (dst + sar (k * (src - dst) + 512) 10)

/-- A layer's pixel over what lies beneath it; a transparent one leaves it unchanged (R345). -/
def blendPix (premult : Bool) (ga : Int) (dst src : W4) : W4 :=
  ⟨blend1 premult ga src.al blackW.a dst.a src.a, blend1 premult ga src.al blackW.b dst.b src.b,
    blend1 premult ga src.al blackW.c dst.c src.c, 1024⟩

/-! ### Output conversion (R310) -/

/-- A working value as a code of a sample structure. -/
def wToCode (struct : Nat) (u : Int) : Nat :=
  if is12 struct then (clampInt 16 4079 (sar (u + 8) 4)).toNat else (clampInt 4 1019 (sar (u + 32) 6)).toNat

/-- Row `y` of a source as codes of a sample structure: 4:2:2 chroma is filtered onto the even columns (R310). -/
def outRow (struct : Nat) (s : Src) (y : Nat) : List Pixel :=
  (upFrom 0 s.w).map (fun x =>
    let l := s.pix (x - 1) y
    let m := s.pix x y
    let r := s.pix (min (x + 1) (s.w - 1)) y
    if struct = 0 then
      (if x % 2 = 0 then ⟨wToCode 0 m.a, wToCode 0 (sar (l.b + 2 * m.b + r.b + 2) 2), wToCode 0 (sar (l.c + 2 * m.c + r.c + 2) 2)⟩
       else ⟨wToCode 0 m.a, 0, 0⟩)
    else ⟨wToCode struct m.a, wToCode struct m.b, wToCode struct m.c⟩)

/-- A source as a picture of codes. -/
def outPic (struct : Nat) (s : Src) : List (List Pixel) := (upFrom 0 s.h).map (outRow struct s)

/-- One colour everywhere. -/
def flatSrc (w h : Nat) (p : W4) : Src := ⟨w, h, fun _ _ => p⟩

/-- A 10-bit YCbCr word ([29:20] Y, [19:10] Cb, [9:0] Cr) as a working pixel (R347). -/
def ycbcrW (v : Nat) : W4 := ⟨(bitsOf v 20 10 : Nat) * 64, (bitsOf v 10 10 : Nat) * 64, (bitsOf v 0 10 : Nat) * 64, 1024⟩

/-- The generated planes (R237, R347): 2 and 3 colour bars, 4 a luminance ramp, others the colour given. -/
def patternSrc (w h pat : Nat) (bt2020 : Bool) (color : W4) : Src :=
  if pat = 2 ∨ pat = 3 then
    ⟨w, h, fun x _ =>
      let bar := min (x / (w / 8)) 7
      let hi : Nat := if pat = 2 then 721 else 940
      let v := fun on : Bool => (((if on then hi else 64) * 64 : Nat) : Int)
      matPix (matNarrow bt2020) id ⟨v ([0, 1, 4, 5].contains bar), v (decide (bar < 4)), v (bar % 2 == 0), 1024⟩⟩
  else if pat = 4 then ⟨w, h, fun x _ => ⟨((64 + 876 * x / (w - 1)) * 64 : Nat), 32768, 32768, 1024⟩⟩
  else flatSrc w h color

/-! ### Surface formats (R325, R340) -/

/-- `n` bits at bit `b` of the bytes from `base` of HBM. -/
def memBits (m : Tab Byte) (base b n : Nat) : Nat :=
  (upFrom 0 6).foldr (fun i a => (tget 0 m (base + b / 8 + i)).toNat + 256 * a) 0 / 2 ^ (b % 8) % 2 ^ n

/-- The start of the chroma plane of format 0x01 (R325). -/
def chromaStart (w h : Nat) : Nat := roundUp (ceilDiv (w * h * 10) 8) 4096

/-- An alpha of 10 bits as 0 to 1,024 (R340). -/
def alpha10 (a : Nat) : Int := ((a + a / 512 : Nat) : Int)
/-- An alpha of 8 bits as 0 to 1,024 (R340). -/
def alpha8 (a : Nat) : Int := alpha10 (a * 4 + a / 64)

/-- A pixel from the raw values of a base format (R340): `fill` is the colour of an A-8 surface. -/
def rawW (fmt : Nat) (c0 c1 c2 al : Nat) (fill : W4) : W4 :=
  if fmt = 1 then ⟨(c0 : Int) * 64, (c1 : Int) * 64, (c2 : Int) * 64, 1024⟩
  else if fmt = 2 then ⟨(c0 : Int) * 16, (c1 : Int) * 16, (c2 : Int) * 16, 1024⟩
  else if fmt = 3 then ⟨(c0 : Int) * 64, (c1 : Int) * 64, (c2 : Int) * 64, alpha10 al⟩
  else if fmt = 4 then ⟨(c0 : Int) * 257, (c1 : Int) * 257, (c2 : Int) * 257, alpha8 al⟩
  else ⟨fill.a, fill.b, fill.c, alpha8 al⟩

/-- An uncompressed surface of a base format (1 to 5) in HBM as a source (R325, R340). -/
def memSrc (m : Tab Byte) (base fmt w h : Nat) (fill : W4) : Src :=
  ⟨w, h, fun x y =>
    if fmt = 1 then
      let ch := fun k => ((memBits m (base + chromaStart w h) ((y * w + k) * 10) 10 : Nat) : Int) * 64
      ⟨((memBits m base ((y * w + x) * 10) 10 : Nat) : Int) * 64, upChroma (w / 2) (fun k => ch (2 * k)) x,
        upChroma (w / 2) (fun k => ch (2 * k + 1)) x, 1024⟩
    else if fmt = 2 then
      rawW 2 (memBits m base ((y * w + x) * 36) 12) (memBits m base ((y * w + x) * 36 + 12) 12) (memBits m base ((y * w + x) * 36 + 24) 12) 0 fill
    else if fmt = 3 then
      let v := memBits m base ((y * w + x) * 40) 40
      rawW 3 (v % 1024) (v / 1024 % 1024) (v / 2 ^ 20 % 1024) (v / 2 ^ 30 % 1024) fill
    else if fmt = 4 then
      let v := memBits m base ((y * w + x) * 32) 32
      rawW 4 (v % 256) (v / 256 % 256) (v / 65536 % 256) (v / 2 ^ 24 % 256) fill
    else rawW 5 0 0 0 (memBits m base ((y * w + x) * 8) 8) fill⟩

/-! ### The tile-packed format (R328 to R331) -/

/-- The raw size of a tile of a base format (R328). -/
def tileRaw (b : Nat) : Nat := if b = 1 then 1280 else if b = 2 then 2304 else if b = 3 then 2560 else if b = 4 then 2048 else 512
/-- The component planes of a tile of a base format: width and sample depth (R329, R330). -/
def tilePlanes (b : Nat) : List (Nat × Nat) :=
  if b = 1 then [(64, 10), (32, 10), (32, 10)] else if b = 2 then [(64, 12), (64, 12), (64, 12)]
  else if b = 3 then [(64, 10), (64, 10), (64, 10), (64, 10)] else if b = 4 then [(64, 8), (64, 8), (64, 8), (64, 8)] else [(64, 8)]
/-- The header area of a TPF surface (R328). -/
def tpfHeader (w h : Nat) : Nat := roundUp (8 * (ceilDiv w 64 * ceilDiv h 8)) 4096
/-- The data area of a TPF surface (R328). -/
def tpfData (b w h : Nat) : Nat := ceilDiv (ceilDiv w 64 * ceilDiv h 8 * tileRaw b * 65) 64

/-- The number of one-bits at bit `pos` of `v`, at most `fuel`. -/
def onesAt (v pos : Nat) : Nat → Nat
  | 0 => 0
  | k + 1 => if bitAt v pos then 1 + onesAt v (pos + 1) k else 0

/-- The samples of one coded plane (R330): `acc` holds those decoded, newest first. None when the stream runs past `len` bits. -/
def tpfSamples (v len d w k : Nat) : Nat → Nat → List Nat → Option (List Nat × Nat)
  | 0, pos, acc => some (acc.reverse, pos)
  | n + 1, pos, acc =>
    let q := onesAt v pos 16
    let used := if q < 16 then q + 1 + k else 16 + d
    let z := if q < 16 then q * 2 ^ k + bitsOf v (pos + q + 1) k else bitsOf v (pos + 16) d
    let i := acc.length
    let p := if i = 0 then 2 ^ (d - 1) else if i % w = 0 then acc.getD (w - 1) 0 else acc.getD 0 0
    let e : Int := if z % 2 = 0 then ((z / 2 : Nat) : Int) else -(((z + 1) / 2 : Nat) : Int)
    if len < pos + used then none
    else tpfSamples v len d w k n (pos + used) ((((p : Int) + e) % ((2 ^ d : Nat) : Int)).toNat :: acc)

/-- The coded planes of a tile (R329, R330); none when one fails (R331). -/
def tpfPlanes (v len : Nat) : List (Nat × Nat) → Nat → Option (List (List Nat))
  | [], _ => some []
  | (w, d) :: t, pos =>
    let k := bitsOf v pos 4
    if d ≤ k ∨ len < pos + 4 then none
    else
      match tpfSamples v len d w k (w * 8) (pos + 4) [] with
      | none => none
      | some (ss, pos') => (tpfPlanes v len t pos').map (fun r => ss :: r)

/-- The planes of a RAW tile (R329): the tile as a 64 × 8 surface, its chroma plane following directly. -/
def rawPlanes (b v : Nat) : List (List Nat) :=
  let pick := fun (n step lo w : Nat) => (upFrom 0 n).map (fun i => bitsOf v (i * step + lo) w)
  if b = 1 then [pick 512 10 0 10, (upFrom 0 256).map (fun i => bitsOf v (5120 + i * 20) 10), (upFrom 0 256).map (fun i => bitsOf v (5120 + i * 20 + 10) 10)]
  else if b = 2 then [pick 512 36 0 12, pick 512 36 12 12, pick 512 36 24 12]
  else if b = 3 then [pick 512 40 0 10, pick 512 40 10 10, pick 512 40 20 10, pick 512 40 30 10]
  else if b = 4 then [pick 512 32 0 8, pick 512 32 8 8, pick 512 32 16 8, pick 512 32 24 8]
  else [pick 512 8 0 8]

/-- Tile `t` of a TPF surface as its component planes; none when it fails to decode (R328 to R331). -/
def tpfTile (m : Tab Byte) (base b w h t : Nat) : Option (List (List Nat)) :=
  let hd := leVal ((upFrom (base + 8 * t) 8).map (fun a => (tget 0 m a).toNat))
  let mode := bitsOf hd 48 2
  let len := bitsOf hd 32 16
  let off := bitsOf hd 0 32
  if 2 ≤ mode ∨ tpfData b w h < 8 * (off + len) ∨ (mode = 0 ∧ len ≠ tileRaw b / 8) then none
  else
    let v := leVal ((upFrom (base + tpfHeader w h + 8 * off) (8 * len)).map (fun a => (tget 0 m a).toNat))
    if mode = 0 then some (rawPlanes b v) else tpfPlanes v (64 * len) (tilePlanes b) 0

/-- The raw value of component `c` of a TPF surface at (x, y) of that component's own raster, `cw` columns to a tile. -/
def tpfAt (m : Tab Byte) (base b w h cw c x y : Nat) : Option Nat :=
  (tpfTile m base b w h (y / 8 * ceilDiv w 64 + x / cw)).map (fun ps => (ps.getD c []).getD (y % 8 * cw + x % cw) 0)

/-- A TPF surface as a source: the pixels of a failed tile are transparent (R331). -/
def tpfSrc (m : Tab Byte) (base b w h : Nat) (fill : W4) : Src :=
  ⟨w, h, fun x y =>
    match tpfTile m base b w h (y / 8 * ceilDiv w 64 + x / 64) with
    | none => clearW
    | some ps =>
      let g := fun c => (ps.getD c []).getD (y % 8 * 64 + x % 64) 0
      if b = 1 then
        ⟨(g 0 : Nat) * 64, upChroma (w / 2) (fun k => (((tpfAt m base b w h 32 1 k y).getD 512 : Nat) : Int) * 64) x,
          upChroma (w / 2) (fun k => (((tpfAt m base b w h 32 2 k y).getD 512 : Nat) : Int) * 64) x, 1024⟩
      else if b = 5 then rawW 5 0 0 0 (g 0) fill else rawW b (g 0) (g 1) (g 2) (g 3) fill⟩

/-- The first tile of the rectangle (x, y, w', h') of a TPF surface that fails to decode, if any (R331). -/
def tpfFirstBad (m : Tab Byte) (base b w h x y w' h' : Nat) : Option Nat :=
  ((upFrom (y / 8) ((y + h' - 1) / 8 + 1 - y / 8)).flatMap (fun ty => (upFrom (x / 64) ((x + w' - 1) / 64 + 1 - x / 64)).map (fun tx => ty * ceilDiv w 64 + tx))).find?
    (fun t => (tpfTile m base b w h t).isNone)

/-! ### Pictures as bytes (R60, R325, R378) -/

/-- Bits of a list of (width, value) fields as one number, least significant first. -/
def packBits (l : List (Nat × Nat)) : Nat := l.foldr (fun e a => e.2 % 2 ^ e.1 + 2 ^ e.1 * a) 0

/-- A picture packed at its sample depth, row by row, with no padding between samples (R60): Y, Cb and Cr of each even pixel and Y of each odd one at
structure 0, else the three components of each pixel. -/
def packPic (struct : Nat) (p : List (List Pixel)) : List Nat :=
  let d := if is12 struct then 12 else 10
  let fs := p.flatMap (fun row => ((upFrom 0 row.length).zip row).flatMap (fun e =>
    if struct = 0 ∧ e.1 % 2 = 1 then [(d, e.2.y)] else [(d, e.2.y), (d, e.2.cb), (d, e.2.cr)]))
  leBytes (ceilDiv (fs.length * d) 8) (packBits fs)

/-- A picture of codes in the layout of a surface format (R325, R348): format 1 for structure 0, 2 for 1 and 3, 3 for 2 and 4. 10-bit values
in format 2 carry two zero low bits (R283); 12-bit ones in format 3 lose theirs. -/
def picBytesOf (fmt struct w h : Nat) (p : List (List Pixel)) : List Nat :=
  let px := (upFrom 0 h).flatMap (fun y => (upFrom 0 w).map (fun x => (x, picAt p x y)))
  if fmt = 1 then
    let luma := leBytes (ceilDiv (w * h * 10) 8) (packBits (px.map (fun e => (10, e.2.y))))
    let chroma := leBytes (ceilDiv (w * h * 10) 8)
      (packBits ((px.filter (fun e => e.1 % 2 == 0)).flatMap (fun e => [(10, e.2.cb), (10, e.2.cr)])))
    luma ++ List.replicate (chromaStart w h - luma.length) 0 ++ chroma
  else if fmt = 2 then
    let k := if is12 struct then 1 else 4
    leBytes (ceilDiv (w * h * 36) 8) (packBits (px.flatMap (fun e => [(12, e.2.y * k), (12, e.2.cb * k), (12, e.2.cr * k)])))
  else
    let k := if is12 struct then 4 else 1
    leBytes (w * h * 5) (packBits (px.flatMap (fun e => [(10, e.2.y / k), (10, e.2.cb / k), (10, e.2.cr / k), (10, 1023)])))

end Sys2Proof.Machine
end

