-- ==== Sys2Proof/Machine/Surfaces.lean ====
section
/-! DEFINITION. Surfaces: creation (R322 to R324), sizes (R326), what a read of one returns (R283, R327, R332, R333, R340), and the charge of
reading one (R349). -/

namespace Sys2Proof.Machine

open Sys2Proof

/-- An empty surface. -/
def Surf.none : Surf := ⟨0, 0, 0, 0, false, 0, Option.none, Option.none, Option.none⟩

/-- The surface at an index. -/
def State.surf (s : State) (i : Nat) : Surf := tget Surf.none s.surfs i
/-- The surface a handle names. -/
def State.surfH (s : State) (h : Nat) : Surf := s.surf (hIdx h)
/-- Change the surface at an index. -/
def State.setSurf (s : State) (i : Nat) (f : Surf → Surf) : State := { s with surfs := tmod Surf.none s.surfs i f }

/-- Whether a format code names a surface format (R323). -/
def surfFmtOk (f : Nat) : Bool := (decide (1 ≤ f) && decide (f ≤ 5)) || (decide (0x11 ≤ f) && decide (f ≤ 0x15)) || f == 0x20
/-- Whether a format is tile-packed. -/
def isTpf (f : Nat) : Bool := decide (0x11 ≤ f) && decide (f ≤ 0x15)

/-- The bytes of one frame of a surface (R326). -/
def surfFrameBytes (fmt w h maxBytes : Nat) : Nat :=
  if fmt = 1 then chromaStart w h + ceilDiv (w * h * 10) 8
  else if fmt = 2 then ceilDiv (w * h * 36) 8
  else if fmt = 3 then w * h * 5
  else if fmt = 4 then w * h * 4
  else if fmt = 5 then w * h
  else if isTpf fmt then tpfHeader w h + tpfData (fmt - 0x10) w h
  else 64 + maxBytes

/-- The arguments of SURFACE_CREATE (R322). -/
structure SurfArgs where
  fmt : Nat
  flags : Nat
  w : Nat
  h : Nat
  maxBytes : Nat
  reserved : Bool
deriving DecidableEq, Repr

/-- SURFACE_CREATE's INLINE bytes read (R322). -/
def surfArgs (b : List Nat) : SurfArgs :=
  ⟨leField b 0 1, leField b 1 1, leField b 4 2, leField b 6 2, leField b 8 4,
    decide (1 < leField b 1 1) || leField b 2 2 != 0 || !allZero ((b.drop 12).take 20)⟩

/-- The checks of SURFACE_CREATE (R323). -/
def surfChecks (a : SurfArgs) : List (Bool × Status) :=
  [ (!surfFmtOk a.fmt || a.w == 0 || a.h == 0 || ((a.fmt == 1 || a.fmt == 0x11) && a.w % 2 == 1)
      || (a.fmt == 0x20) != (a.maxBytes != 0) || (bitAt a.flags 0 && decide (3 < a.fmt)) || a.reserved, .decode),
    (decide (7680 < a.w) || decide (4320 < a.h)
      || (a.fmt == 0x20 && (decide (3840 < a.w) || decide (2160 < a.h) || decide (67108864 < a.maxBytes))), .lenExceeds) ]

/-- Create a surface for a session: the answer of the command (R323, R324). -/
def State.surfCreate (s : State) (owner : Nat) (a : SurfArgs) : AdmAns :=
  match s.freeIndex kSurface 0 with
  | none => ⟨s.refuse 8, .noContext, 0, 0⟩
  | some i =>
    let wb := bitAt a.flags 0
    match s.allocate (roundUp (surfFrameBytes a.fmt a.w a.h a.maxBytes * (if wb then 2 else 1)) 65536) 65536 (objKey kSurface i) false wb with
    | none => ⟨s, .noMemory, 0, 0⟩
    | some (b, s) =>
      let s := s.issue kSurface i owner
      let s := { s with surfs := tput s.surfs i ⟨a.fmt, a.w, a.h, a.maxBytes, wb, b, none, none, none⟩ }
      ⟨s, .ok, s.handleOf kSurface i, b⟩

/-- SURFACE_CREATE, opcode 0x0020. -/
def surfaceCreate (f : Nat) (payload : List Nat) (s : State) : State :=
  s.admin f 0x20 payload [] (fun t => s.admChecks f t 0 0 payload true false ++ surfChecks (surfArgs t.inl))
    (fun t => s.surfCreate t.ss (surfArgs t.inl))

/-! ### Reading (R283, R327, R332, R333, R340) -/

/-- The codestream of a JPEG XS surface and its LENGTH, SEQ (R333). -/
def State.jxsStream (s : State) (x : Surf) : List Nat × Nat × Nat :=
  let len := leVal (memReadBytes s.hbm x.base 4)
  (memReadBytes s.hbm (x.base + 64) (min len x.maxBytes), len, leVal (memReadBytes s.hbm (x.base + 4) 4))

/-- The first row of a JPEG XS surface that fails to decode (R333): all of them where LENGTH, the profile, the level or the size is not one of R332. -/
def State.jxsBad (s : State) (x : Surf) : Option Nat :=
  let (cs, len, _) := s.jxsStream x
  if x.maxBytes < len ∨ 2 ≤ Config.jxsProfile cs ∨ !Config.jxsLevelFits cs ∨ Config.jxsSize cs ≠ (x.w, x.h) then some 0 else Config.jxsBadRow cs

/-- A decoded codestream as a source (R332, R340): 10-bit codes of Main 422.10, 12-bit ones of High 444.12, opaque; chroma of half width is brought to
full width on the working values (R677). -/
def jxsSrc (cs : List Nat) (w h : Nat) : Src :=
  let deep := Config.jxsProfile cs = 1
  let rgb := Config.jxsRgb cs
  let v := fun (c x y : Nat) => if deep then ((Config.jxsSample cs rgb c x y % 4096 * 16 : Nat) : Int) else ((Config.jxsSample cs rgb c x y % 1024 * 64 : Nat) : Int)
  if !deep ∨ Config.jxsHalf cs then ⟨w, h, fun x y => ⟨v 0 x y, upChroma (w / 2) (fun k => v 1 k y) x, upChroma (w / 2) (fun k => v 2 k y) x, 1024⟩⟩
  else ⟨w, h, fun x y => ⟨v 0 x y, v 1 x y, v 2 x y, 1024⟩⟩

/-- Black as a surface of a format reads it: narrow-range black of its components (R221, R283, R327). -/
def surfBlack (fmt : Nat) : W4 := blackOf (if fmt = 3 then 2 else 0)

/-- The frame of an Arcade output surface or a WRITEBACK surface as a read returns it: the codes pass through the format, which keeps 10 bits
of each in format 0x03 (R283, R327). -/
def shownSrc (fmt w h : Nat) (shown : Option (Nat × Pic)) : Src :=
  match shown with
  | none => flatSrc w h (surfBlack fmt)
  | some (struct, p) =>
    if fmt = 3 ∧ struct = 4 then
      ⟨w, h, fun x y => ⟨((picAt p x y).y / 4 * 64 : Nat), ((picAt p x y).cb / 4 * 64 : Nat), ((picAt p x y).cr / 4 * 64 : Nat), 1024⟩⟩
    else picSrc struct w h p

/-- What a surface shows when its frames come from the device: an Arcade job's output or a writeback (R283, R327). -/
def State.frameShown (s : State) (x : Surf) : Option (Nat × Pic) :=
  match x.job with
  | some j => (tfind s.jobs j).bind (fun job => job.shown.map (fun p => (job.outStruct, p)))
  | none => x.shown

/-- A surface as a source of pixels (R325 to R333, R340). With `opaque'`, every pixel that decodes reads with A 1,024. -/
def State.surfSrc (s : State) (x : Surf) (fill : W4) (opaque' : Bool) : Src :=
  let full := fun p : W4 => if opaque' then { p with al := 1024 } else p
  if x.job.isSome ∨ x.writeback then shownSrc x.fmt x.w x.h (s.frameShown x)
  else if isTpf x.fmt then
    let src := tpfSrc s.hbm x.base (x.fmt - 0x10) x.w x.h fill
    ⟨x.w, x.h, fun a b =>
      if (tpfTile s.hbm x.base (x.fmt - 0x10) x.w x.h (b / 8 * ceilDiv x.w 64 + a / 64)).isNone then clearW else full (src.pix a b)⟩
  else if x.fmt = 0x20 then
    let (cs, _, _) := s.jxsStream x
    let bad := s.jxsBad x
    ⟨x.w, x.h, fun a b =>
      if bad.any (fun r => decide (r ≤ b)) then clearW
      else (jxsSrc cs x.w x.h).pix a b⟩
  else
    let src := memSrc s.hbm x.base x.fmt x.w x.h fill
    ⟨x.w, x.h, fun a b => full (src.pix a b)⟩

/-- The B of a surface read over a source rectangle (R349). -/
def surfB (x : Surf) (sx sy sw sh : Nat) : Nat :=
  if x.fmt = 1 then ceilDiv (sw * sh * 10) 4
  else if x.fmt = 2 then ceilDiv (sw * sh * 18) 4
  else if x.fmt = 3 then sw * sh * 5
  else if x.fmt = 4 then sw * sh * 4
  else if x.fmt = 5 then sw * sh
  else if isTpf x.fmt then
    let tx := (sx + sw - 1) / 64 + 1 - sx / 64
    let ty := (sy + sh - 1) / 8 + 1 - sy / 8
    ceilDiv (tx * ty * (tileRaw (x.fmt - 0x10) * 65 + 8 * 64)) 64
  else 64 + x.maxBytes

/-! ### The lock of LY7 and slate surfaces (R352, R511) -/

/-- A region that locks the memory from `b` in HBM. -/
def State.lockOf (s : State) (b r : Nat) : Bool :=
  s.on R.FAB_FW_BASE_HI_ENABLE r && s.on R.FAB_FW_BASE_HI_SPACE r
    && s.rd R.FAB_FW_BASE_LO_BASE r + s.rd R.FAB_FW_BASE_HI_BASE r * 2 ^ 32 == b

/-- Firmware enables a surface-lock region over the whole allocation of surface `i`, with the principal of session `owner` as OWNER (R511). -/
def State.surfLock (s : State) (i owner : Nat) : State :=
  let s := s.setSurf i fun x => { x with locked := some owner }
  match s.allocs.find? (fun a => a.key == objKey kSurface i) with
  | none => s
  | some a =>
    if (upFrom 32 480).any (fun r => s.lockOf a.base r && s.rd R.FAB_FW_BASE_HI_OWNER r == s.prinOf owner) then s
    else
      match firstFree (fun r => !s.on R.FAB_FW_BASE_HI_ENABLE r) 32 480 with
      | none => s
      | some r =>
        let e := a.base + a.len - 1
        let s := ((s.wr R.FAB_FW_BASE_LO_BASE r a.base).wr R.FAB_FW_LIM_LO_LIMIT r e).wr R.FAB_FW_LIM_HI_LIMIT r (e / 2 ^ 32)
        let s := (s.wr R.FAB_FW_BASE_HI_BASE r (a.base / 2 ^ 32)).wr R.FAB_FW_BASE_HI_OWNER r (s.prinOf owner)
        (((s.wr R.FAB_FW_BASE_HI_RD_LOCK r 0).wr R.FAB_FW_BASE_HI_SPACE r 1).wr R.FAB_FW_BASE_HI_ENABLE r 1).fwTake r

/-- The lock ends when the surface is freed (R352, R511). -/
def State.surfUnlock (s : State) (i : Nat) : State :=
  match s.allocs.find? (fun a => a.key == objKey kSurface i) with
  | none => s
  | some a => ((upFrom 32 480).filter (s.lockOf a.base)).foldl (fun (s : State) r => s.wr R.FAB_FW_BASE_HI_ENABLE r 0) s

/-- SURFACE_CREATE. -/
def execSurfaceCreate (f : Nat) (payload : List Nat) (s : State) : Res := .next (surfaceCreate f payload s)

end Sys2Proof.Machine
end

