-- ==== Sys2Proof/Machine/Compose.lean ====
section
/-! DEFINITION. Composition (R317 to R319, R334 to R347, R354): the picture a pipeline sends, row by row, from the values it applied at its
switch line, and the errors of decoding (R331, R333). -/

namespace Sys2Proof.Machine

open Sys2Proof

/-- The state of a pipeline. -/
def State.pipe (s : State) (n : Nat) : PipeX := tget PipeX.reset s.pipeX n
/-- A unit reads HBM: words with one bit in error are corrected and counted (R55). -/
def State.readFixed (s : State) : State := { s.drawn with eccFixed := s.eccFixed + Config.hbmFixed s.free }

/-- Change the state of a pipeline. -/
def State.setPipe (s : State) (n : Nat) (f : PipeX → PipeX) : State := { s with pipeX := tmod PipeX.reset s.pipeX n f }

/-- The format of a pipeline (R357). -/
def State.pipeFmt (s : State) (n : Nat) : Format := fmtD (s.rd R.OUT_TMG_FMT_FMT n)
/-- The sample structure of a pipeline. -/
def State.pipeStruct (s : State) (n : Nat) : Nat := s.rd R.OUT_TMG_FMT_STRUCT n
/-- Whether the working colorimetry is BT.2020 (OUT.CMP_CFG). -/
def State.pipe2020 (s : State) (n : Nat) : Bool := s.on R.OUT_CMP_CFG_COLOR n

/-- Consecutive words of a register array. -/
def State.rdWords (s : State) (f : Fld) (u k n : Nat) : List Nat := (upFrom k n).map (fun i => s.rdk f u i)

/-- The live descriptor of a layer (R334). -/
def State.layerLive (s : State) (n l : Nat) : LayerCfg :=
  ⟨s.rdk R.OUT_LYR_SURF_LIVE_HANDLE n l, s.rdk R.OUT_LYR_CTL_LIVE_ALPHA n l, s.rdk R.OUT_LYR_CTL_LIVE_MSEL n l,
    s.rdk R.OUT_LYR_CTL_LIVE_GA n l, s.rdk R.OUT_LYR_FILL_LIVE_YCBCR n l, s.rdk R.OUT_LYR_SRC_XY_LIVE_XY n l,
    s.rdk R.OUT_LYR_SRC_WH_LIVE_WH n l, s.rdk R.OUT_LYR_DST_XY_LIVE_XY n l, s.rdk R.OUT_LYR_DST_WH_LIVE_WH n l,
    s.rdWords R.OUT_LYR_MAT_LIVE_WORD n (12 * l) 12⟩

/-- The low and high halves of a descriptor word. -/
def lo16 (v : Nat) : Nat := v % 65536
def hi16 (v : Nat) : Nat := v / 65536 % 65536

/-- The Undercoat of a pipeline as a source (R347). -/
def State.undercoatSrc (s : State) (n : Nat) (c : FrameCfg) : Src :=
  patternSrc (s.pipeFmt n).w (s.pipeFmt n).h c.ucPat (s.pipe2020 n) (ycbcrW c.ucColor)

/-- The matrix a selection names (R343, R354). -/
def State.layerMat (s : State) (n msel : Nat) (mat : List Nat) : Option Mat :=
  if msel = 1 then some (matFull (s.pipe2020 n)) else if msel = 2 then some (matNarrow (s.pipe2020 n))
  else if msel = 3 then some (matOfWords mat) else none

/-- A layer's matrix on a pixel; under PREMULT its offsets are scaled by A (R343). -/
def layerColor (m : Option Mat) (premult : Bool) (p : W4) : W4 :=
  match m with
  | none => p
  | some m => matPix m (fun o => if premult then sar (o * p.al + 512) 10 else o) p

/-- The scaler of a layer slot (R317, R341). -/
def slotFilt (l : Nat) : Filt := if l ≤ 1 then filtCubic else filtLinear

/-- A source placed by a descriptor: the pixel at (X, Y) of the active picture, none outside the destination rectangle (R335, R341, R676). -/
def placed (l : Nat) (src : Src) (c : LayerCfg) (x y : Nat) : Option W4 :=
  let sw := if c.srcWH = 0 then src.w else lo16 c.srcWH
  let sh := if c.srcWH = 0 then src.h else hi16 c.srcWH
  let dw := if c.dstWH = 0 then sw else lo16 c.dstWH
  let dh := if c.dstWH = 0 then sh else hi16 c.dstWH
  let rx : Int := (x : Int) - sext 16 (lo16 c.dstXY)
  let ry : Int := (y : Int) - sext 16 (hi16 c.dstXY)
  if rx < 0 ∨ (dw : Int) ≤ rx ∨ ry < 0 ∨ (dh : Int) ≤ ry then none
  else
    let sx := if c.srcWH = 0 then 0 else lo16 c.srcXY
    let sy := if c.srcWH = 0 then 0 else hi16 c.srcXY
    some ((scaleRect (slotFilt l) (slotFilt l) src sx sy sw sh dw dh).pix rx.toNat ry.toNat)

/-- Where a street frame's LY0 reads for row `y` of the active picture: the row of the port's picture that the descriptor places there with a vertical
scale of 1:1 (R251, R253, R335, R676); none where the destination rectangle or the picture has no such row, so that no line is needed. -/
def streetNeed (f : Format) (d : LayerCfg) (y : Nat) : Option Nat :=
  let sw := if d.srcWH = 0 then f.w else lo16 d.srcWH
  let sh := if d.srcWH = 0 then f.h else hi16 d.srcWH
  let dw := if d.dstWH = 0 then sw else lo16 d.dstWH
  let dx := sext 16 (lo16 d.dstXY)
  let ry := (y : Int) - sext 16 (hi16 d.dstXY)
  let r := (if d.srcWH = 0 then 0 else hi16 d.srcXY) + ry.toNat
  if ry < 0 ∨ (sh : Int) ≤ ry ∨ dx + (dw : Int) ≤ 0 ∨ (f.w : Int) ≤ dx ∨ f.h ≤ r then none else some r

/-- A picture from the street FIFO: the line given stands for the row asked (R236, R253). -/
def fifoSrc (struct w h : Nat) (fifo : List Pixel) : Src := picSrc struct w h (List.replicate h fifo)

/-- The source of LY0 in a frame (R236, R237); none when LY0 is transparent. `fifo` is the line a street path reads, in
the sample structure of the port. -/
def State.ly0Src (s : State) (n : Nat) (c : FrameCfg) (fifo : List Pixel) : Option Src :=
  let f := s.pipeFmt n
  match c.ly0 with
  | .clear => none
  | .undercoat => some (s.undercoatSrc n c)
  | .plane pat => some (patternSrc f.w f.h pat (s.pipe2020 n) blackW)
  | .pic st p _ => some (picSrc st (picDims p).1 (picDims p).2 p)
  | .street p _ => some (fifoSrc (s.rd R.INP_FMT_DET_STRUCT p) f.w f.h fifo)
  | .surf h => some (s.surfSrc (s.surfH h) blackW ((c.layers.getD 0 ⟨0, 0, 0, 0, 0, 0, 0, 0, 0, []⟩).alpha == 0))

/-- The pixel a layer contributes at (x, y) with its descriptor: none where it contributes nothing (R317, R334, R337); the
Undercoat colour where the read met an uncorrectable error (R55). -/
def State.layerPix (s : State) (n l : Nat) (c : FrameCfg) (fifo : List Pixel) (x y : Nat) : Option W4 :=
  let d := c.layers.getD l ⟨0, 0, 0, 0, 0, 0, 0, 0, 0, []⟩
  let src := if l = 0 then s.ly0Src n c fifo
    else if d.surf = 0 then none else some (s.surfSrc (s.surfH d.surf) (ycbcrW d.fill) (d.alpha == 0))
  let a8 := l ≠ 0 && ((s.surfH d.surf).fmt == 5 || (s.surfH d.surf).fmt == 0x15)
  if (tget [] s.eccPix (8 * n + l)).contains (x, y) then some (ycbcrW c.ucColor)
  else
  match src.bind (fun q => placed l q d x y) with
  | none => none
  | some p => some (if a8 then p else layerColor (s.layerMat n d.msel d.mat) (d.alpha == 2) p)

/-- The composed pixel at (x, y): the Undercoat, then LY0 to LY7 (R318, R345). -/
def State.composed (s : State) (n : Nat) (c : FrameCfg) (fifo : List Pixel) (x y : Nat) : W4 :=
  (upFrom 0 8).foldl (fun dst l =>
    match s.layerPix n l c fifo x y with
    | none => dst
    | some p =>
      let d := c.layers.getD l ⟨0, 0, 0, 0, 0, 0, 0, 0, 0, []⟩
      let a8 := l ≠ 0 && ((s.surfH d.surf).fmt == 5 || (s.surfH d.surf).fmt == 0x15)
      blendPix (d.alpha == 2 && !a8) d.ga dst p) ((s.undercoatSrc n c).pix x y)

/-- The safe slate's pixel at (x, y) (R354): black where it is null or does not decode. -/
def State.slatePix (s : State) (n : Nat) (c : FrameCfg) (x y : Nat) : W4 :=
  let h := s.rd R.OUT_STN_SLATE_HANDLE n
  let m := s.layerMat n (s.rd R.OUT_STN_CFG_SLATE_MSEL n) (c.layers.getD 7 ⟨0, 0, 0, 0, 0, 0, 0, 0, 0, []⟩).mat
  if h = 0 then blackW
  else if (tget [] s.eccPix (8 * n + 7)).contains (x, y) then ycbcrW c.ucColor
  else
    let p := (s.surfSrc (s.surfH h) blackW true).pix x y
    if p.al = 0 then blackW else layerColor m false p

/-- The output matrix (R346). -/
def State.outMat (s : State) (n : Nat) (c : FrameCfg) (p : W4) : W4 :=
  if c.omSel = 1 then matPix (matOut (s.pipe2020 n)) id p else if c.omSel = 3 then matPix (matOfWords c.omMat) id p else p

/-- A row of the active picture as sent (R346, R354): composed, or the slate; a slate that a failed read made due shows from the next switch line
(R353). -/
def State.rowSent (s : State) (n : Nat) (c : FrameCfg) (fifo : List Pixel) (y : Nat) : List Pixel :=
  let f := s.pipeFmt n
  let src : Src := ⟨f.w, f.h, fun x r =>
    s.outMat n c (if s.on R.OUT_STN_STAT_SLATE n && !(s.pipe n).slateDue then s.slatePix n c x r else s.composed n c fifo x r)⟩
  outRow (s.pipeStruct n) src y

/-- A row of an underrun: the UC_COLOR live in the frame, through the output matrix and conversion (R347, R358, R373). -/
def State.rowUnder (s : State) (n : Nat) (c : FrameCfg) : List Pixel :=
  let f := s.pipeFmt n
  outRow (s.pipeStruct n) (flatSrc f.w f.h (s.outMat n c (ycbcrW c.ucColor))) 0

/-- Black as a pipeline that is not RUNNING sends it, at its format and structure (R113, R363). -/
def blackRow (struct w : Nat) : List Pixel :=
  (upFrom 0 w).map (fun x =>
    let k := if is12 struct then 4 else 1
    if struct = 0 ∧ x % 2 = 1 then ⟨64, 0, 0⟩
    else if struct = 2 ∨ struct = 4 then ⟨64 * k, 64 * k, 64 * k⟩ else ⟨64 * k, 512 * k, 512 * k⟩)

/-! ### The black, planes and frames of a sync context -/

/-- What LY0 shows of a sync context (R221): the frame, black, or the pipeline's Undercoat. -/
def ly0OfShown : Shown → Ly0
  | .frame f => .pic f.det.struct f.pic (if f.tcValid then some (f.tc, f.ub) else none)
  | .black => .plane 0
  | .undercoat => .undercoat

/-! ### Events of the composition stage (R356) -/

/-- OUT.LYR_EVT (R356). -/
def evLYR : EvGroup := ⟨R.OUT_LYR_EVT_FLAGS, 0x005018C4, 0x0501⟩
/-- OUT.EVT (R381). -/
def evOUT : EvGroup := ⟨R.OUT_EVT_FLAGS, 0x00500034, 0x0601⟩

/-- Raise an event of the composition stage, with the FSN of the pipeline's raster. -/
def State.lyrEvent (s : State) (n bit : Nat) (st : Status) (line arg : Nat) : State :=
  s.raise evLYR n 0 bit kPipe n st (s.rd R.OUT_FSN_FSN n) line arg
/-- Raise an event of a pipeline. -/
def State.outEvent (s : State) (n bit : Nat) (st : Status) (fsn line arg : Nat) : State := s.raise evOUT n 0 bit kPipe n st fsn line arg

/-- STENCIL_FAULT with its cause (R353, R356). -/
def State.stencilFault (s : State) (n cause : Nat) : State :=
  s.lyrEvent n 3 .ok (s.pipeFmt n).sw (s.rd R.OUT_STN_LAST_FSN n * 2 ^ 32 + cause)

/-- A TPF_ERR or an uncorrectable read on LY7 (R353): in NORMAL the check goes to SLATE with cause 2, and the slate is due at the next switch line. -/
def State.slateFail (s : State) (n : Nat) : State :=
  if s.on R.OUT_STN_STAT_SLATE n then s
  else ((s.wr R.OUT_STN_STAT_SLATE n 1).setPipe n fun q => { q with slateDue := true, slateFrames := 0 }).stencilFault n 2

/-- The surface a layer of a frame reads, if any: its descriptor's, or LY0's SURFACE select. -/
def FrameCfg.layerSurf (c : FrameCfg) (l : Nat) : Nat :=
  if l = 0 then (match c.ly0 with | .surf h => h | _ => 0) else (c.layers.getD l ⟨0, 0, 0, 0, 0, 0, 0, 0, 0, []⟩).surf

/-- The source rectangle of a layer of a frame. -/
def FrameCfg.layerRect (c : FrameCfg) (l : Nat) (x : Surf) : Nat × Nat × Nat × Nat :=
  let d := c.layers.getD l ⟨0, 0, 0, 0, 0, 0, 0, 0, 0, []⟩
  if d.srcWH = 0 then (0, 0, x.w, x.h) else (lo16 d.srcXY, hi16 d.srcXY, lo16 d.srcWH, hi16 d.srcWH)

/-- The decode errors of one layer of the frame in progress: TPF_ERR and JXS_ERR once a frame (R331, R333); a TPF_ERR on LY7 makes the slate
due (R353). -/
def State.decodeErrors (s : State) (n l : Nat) (c : FrameCfg) : State :=
  let h := c.layerSurf l
  let x := s.surfH h
  let (rx, ry, rw, rh) := c.layerRect l x
  if h = 0 then s
  else if isTpf x.fmt ∧ !bitAt (s.pipe n).tpfTold l then
    match tpfFirstBad s.hbm x.base (x.fmt - 0x10) x.w x.h rx ry rw rh with
    | none => s
    | some t =>
      let s := s.setPipe n fun q => { q with tpfTold := setBit q.tpfTold l }
      let s := s.lyrEvent n 1 .ok (t / ceilDiv x.w 64 * 8) (l * 2 ^ 32 + t)
      if l = 7 then s.slateFail n else s
  else if x.fmt = 0x20 ∧ !bitAt (s.pipe n).jxsTold l then
    match s.jxsBad x with
    | none => s
    | some r => (s.setPipe n fun q => { q with jxsTold := setBit q.jxsTold l }).lyrEvent n 2 .ok r (l * 2 ^ 32 + (s.jxsStream x).2.2)
  else s

end Sys2Proof.Machine
end

