-- ==== Sys2Proof/Machine/Transfer.lean ====
section
/-! DEFINITION. The conversions of the built-in bank (R313): the equations of ITU-R BT.709, BT.2020 and BT.2100 that the rule names, in fixed point,
and the anchors it gives. The constants of those recommendations are not in the spec: PRESUMED (assumption 167). -/

namespace Sys2Proof.Machine

open Sys2Proof

/-- One, in the fixed point of the conversions. -/
def oneQ : Int := 1099511627776

/-- A decimal number of millionths of a millionth as fixed point. -/
def decQ (n : Int) : Int := n * oneQ / 1000000000000

/-- A product in fixed point. -/
def mulQ (x y : Int) : Int := x * y / oneQ

/-- The fraction bits of a base-2 logarithm of a number of 1 to 2, by squaring: as many as `fuel`, `w` the weight of the first. -/
def log2Bits (y w : Int) : Nat → Int
  | 0 => 0
  | k + 1 =>
    let z := mulQ y y
    if 2 * oneQ ≤ z then w + log2Bits (z / 2) (w / 2) k else log2Bits z (w / 2) k

/-- The base-2 logarithm of a positive number in fixed point. -/
def log2Q (x : Nat) : Int :=
  let n := Nat.log2 x
  ((n : Int) - 40) * oneQ + log2Bits ((x : Int) * oneQ / ((2 ^ n : Nat) : Int)) (oneQ / 2) 40

/-- The natural logarithm of 2. -/
def ln2Q : Int := decQ 693147180560

/-- 2 to a power in fixed point: the power series on the fraction, scaled by the whole part; 0 below its range. -/
def exp2Q (x : Int) : Int :=
  let y := mulQ (x % oneQ) ln2Q
  let e := (upFrom 1 20).foldr (fun k a => oneQ + mulQ y a / ((k : Nat) : Int)) oneQ
  let n := x / oneQ
  if 0 ≤ n then e * ((2 ^ (min n.toNat 64) : Nat) : Int) else e / ((2 ^ (min n.natAbs 64) : Nat) : Int)

/-- A power in fixed point; 0 of a number that is not positive. -/
def powQ (x p : Int) : Int := if x ≤ 0 then 0 else exp2Q (mulQ (log2Q x.toNat) p)

/-- The natural logarithm and exponential in fixed point. -/
def lnQ (x : Int) : Int := if x ≤ 0 then 0 else mulQ (log2Q x.toNat) ln2Q
def expQ (x : Int) : Int := exp2Q (x * oneQ / ln2Q)

/-! ### Transfer functions -/

/-- The opto-electronic transfer function of BT.709 and BT.2020, and its inverse. -/
def sdrEncode (e : Int) : Int :=
  if e < decQ 18000000000 then 9 * e / 2 else mulQ (decQ 1099000000000) (powQ e (decQ 450000000000)) - decQ 99000000000
def sdrDecode (v : Int) : Int :=
  if v < decQ 81000000000 then 2 * v / 9 else powQ ((v + decQ 99000000000) * oneQ / decQ 1099000000000) (oneQ * 20 / 9)

/-- The HLG opto-electronic transfer function of BT.2100, and its inverse. -/
def hlgEncode (e : Int) : Int :=
  if 12 * e ≤ oneQ then powQ (3 * e) (oneQ / 2)
  else mulQ (decQ 178832770000) (lnQ (12 * e - decQ 284668920000)) + decQ 559910730000
def hlgDecode (v : Int) : Int :=
  if v ≤ 0 then 0 else if 2 * v ≤ oneQ then mulQ v v / 3
  else (expQ ((v - decQ 559910730000) * oneQ / decQ 178832770000) + decQ 284668920000) / 12

/-- The PQ electro-optical transfer function of BT.2100, as a part of 10,000 cd/m², and its inverse. -/
def pqDecode (v : Int) : Int :=
  let p := powQ v (oneQ * 32 / 2523)
  powQ (max 0 (p - oneQ * 3424 / 4096) * oneQ / (oneQ * 2413 / 128 - mulQ (oneQ * 2392 / 128) p)) (oneQ * 16384 / 2610)
def pqEncode (y : Int) : Int :=
  let p := powQ y (oneQ * 2610 / 16384)
  powQ ((oneQ * 3424 / 4096 + mulQ (oneQ * 2413 / 128) p) * oneQ / (oneQ + mulQ (oneQ * 2392 / 128) p)) (oneQ * 2523 / 32)

/-! ### Colour in linear light -/

/-- A linear colour: R, G, B. -/
abbrev Rgb := Int × Int × Int

/-- One function on each component. -/
def Rgb.map (f : Int → Int) (c : Rgb) : Rgb := (f c.1, f c.2.1, f c.2.2)

/-- A matrix of ten-thousandths on a colour. -/
def rgbMat (m : List Int) (c : Rgb) : Rgb :=
  let row := fun (i : Nat) => (m.getD i 0 * c.1 + m.getD (i + 1) 0 * c.2.1 + m.getD (i + 2) 0 * c.2.2) / 10000
  (row 0, row 3, row 6)

/-- BT.709 primaries in BT.2020 and back. -/
def to2020 : Rgb → Rgb := rgbMat [6274, 3293, 433, 691, 9195, 114, 164, 880, 8956]
def to709 : Rgb → Rgb := rgbMat [16605, -5876, -729, -1246, 11329, -83, -182, -1006, 11188]

/-- The luminance of a BT.2020 colour. -/
def luma2020 (c : Rgb) : Int := (2627 * c.1 + 6780 * c.2.1 + 593 * c.2.2) / 10000

/-- HLG scene light as a part of a nominal peak of 1,000 cd/m² on the display, and back: the system gamma of 1.2 of BT.2100. -/
def hlgDisplay (c : Rgb) : Rgb := c.map (mulQ (powQ (luma2020 c) (oneQ / 5)))
def hlgScene (c : Rgb) : Rgb := c.map (mulQ (powQ (luma2020 c) (-(oneQ / 6))))

/-- The HLG scene light of a signal of 75%, at which SDR 100% stands (R313). -/
def hlg75 : Int := hlgDecode (3 * oneQ / 4)

/-- The highlight roll-off (R313): nothing below SDR 100%; above it Elavo's curve, which the spec does not give and which does not fall below it. -/
def rollOff (x : Int) : Int := if x ≤ oneQ then x else max oneQ (Config.rollOff x)

/-- The soft gamut compression into BT.709 (R313): Elavo's, which the spec does not give, of a colour in BT.709 primaries. -/
def gamutSoft (c : Rgb) : Rgb := (Config.gamutSoft c 0, Config.gamutSoft c 1, Config.gamutSoft c 2)

/-- The conversion of a colour, from one XFER byte to another (R279, R313): transfer 0 SDR, 1 HLG, 2 PQ; bit 2 BT.2020, which HLG and PQ always have. -/
def convert (inX outX : Nat) (v : Rgb) : Rgb :=
  let i := inX % 4
  let o := outX % 4
  let enter := fun (c : Rgb) => if bitAt inX 2 then c else to2020 c
  let leave := fun (c : Rgb) => if bitAt outX 2 then c else gamutSoft (to709 c)
  if i = 0 ∧ o = 0 then
    (if bitAt inX 2 == bitAt outX 2 then v else if bitAt outX 2 then (to2020 (v.map sdrDecode)).map sdrEncode else (leave (v.map sdrDecode)).map sdrEncode)
  else if i = o then v
  else if i = 0 ∧ o = 1 then (enter (v.map sdrDecode)).map (fun x => hlgEncode (mulQ x hlg75))
  else if i = 0 then (enter (v.map sdrDecode)).map (fun x => pqEncode (x * 203 / 10000))
  else if i = 1 ∧ o = 2 then (hlgDisplay (v.map hlgDecode)).map (fun x => pqEncode (x / 10))
  else if i = 2 ∧ o = 1 then (hlgScene (v.map (fun x => min oneQ (10 * pqDecode x)))).map hlgEncode
  else if i = 1 then (leave (v.map (fun x => rollOff (hlgDecode x * oneQ / hlg75)))).map sdrEncode
  else (leave (v.map (fun x => rollOff (pqDecode x * 10000 / 203)))).map sdrEncode

/-- A narrow-range working value as a signal of 0 to 1, and back. -/
def signalQ (u : Int) : Int := (u - 4096) * oneQ / 56064
def signalW (v : Int) : Int := clampInt 0 65535 (4096 + v * 56064 / oneQ)

/-- The entry of the 3D table at node (r, g, b), output `k` (R310, R313): the colour of the node converted. -/
def convertNode (inX outX r g b k : Nat) : Nat :=
  let at' := fun (n : Nat) => signalQ ((2048 * n : Nat) : Int)
  let c := convert inX outX (at' r, at' g, at' b)
  (signalW (if k = 0 then c.1 else if k = 1 then c.2.1 else c.2.2)).toNat

/-! ### Matrices and blocks of the built-in bank -/

/-- Whether a sample structure carries R, G and B (R160). -/
def isRgb (struct : Nat) : Bool := struct == 2 || struct == 4

/-- The matrix that changes nothing. -/
def matUnit : Mat := ⟨[16384, 0, 0, 0, 16384, 0, 0, 0, 16384], [0, 0, 0]⟩

/-- Whether a conversion changes transfer or colorimetry. -/
def recolors (inX outX : Nat) : Bool := inX != outX

/-- M_IN and M_OUT of the built-in bank (R313): to R'G'B' of the input colorimetry and from R'G'B' of the output's, with the matrices of R344; nothing
where neither the colour changes nor one side alone carries RGB. -/
def builtinIn (inX outX inSt outSt : Nat) : Mat :=
  if isRgb inSt || (!recolors inX outX && isRgb inSt == isRgb outSt) then matUnit else matOut (bitAt inX 2)
def builtinOut (inX outX inSt outSt : Nat) : Mat :=
  if isRgb outSt || (!recolors inX outX && isRgb inSt == isRgb outSt) then matUnit else matNarrow (bitAt outX 2)

/-- The ENABLE word of the built-in bank (R313): no block; the matrices; or the matrices and the 3D table, which holds the whole conversion of a
colour. DESIGN CHOICE (assumption 29): the spec does not divide a conversion among the tables. -/
def builtinEnable (inX outX inSt outSt : Nat) : Nat := if recolors inX outX then 0x15 else if inSt = outSt then 0 else 0x11

/-- A word of a matrix as a bank holds it (R311). -/
def matWord (m : Mat) (i : Nat) : Nat := twos 32 (if i < 9 then m.c.getD i 0 else m.o.getD (i - 9) 0)

/-- A byte of the tables of the built-in bank (R311, R313): 1D tables that change nothing, and the 3D table, which changes nothing where the colour does
not change. -/
def builtinTable (inX outX off : Nat) : Nat :=
  if off < 0xD000 then 16 * ((off - 0x1000) % 0x2000 / 2) / 256 ^ (off % 2) % 256
  else
    let i := (off - 0x10000) / 8
    if off % 8 < 6 then convertNode inX outX (i % 33) (i / 33 % 33) (i / 1089) (off % 8 / 2) / 256 ^ (off % 2) % 256 else 0

end Sys2Proof.Machine
end

