-- ==== Sys2Proof/Machine/JobFrames.lean ====
section
/-! DEFINITION. The picture work of an Arcade job: the bank (R311 to R313), de-interlacing (R301), the scaler and its filters (R296, R298 to
R300), the colour stage (R310), interpolation in time (R292, R304, R305). -/

namespace Sys2Proof.Machine

open Sys2Proof

/-! ### The declaration of a job (R279) -/

/-- Whether the job de-interlaces. -/
def Job.deint (j : Job) : Bool := bitAt j.mode 0
/-- The QUALITY of a job (R303). -/
def Job.quality (j : Job) : Nat := bitsOf j.mode 3 2
/-- Whether cadence detection is enabled. -/
def Job.cadence (j : Job) : Bool := bitAt j.mode 6
/-- The head engine. -/
def Job.head (j : Job) : Nat := j.engs.headD 0
/-- Whether MCFRC uses the samples around the pair (R303). -/
def Job.wide (j : Job) : Bool := j.frc == 3 && decide (j.quality < 2)

/-! ### The bank (R311, R312, R313) -/

/-- The size of a bank. -/
def bankSize : Nat := 393216

/-- A byte source: the value at an offset of a bank. -/
def bankWord (b : Nat → Nat) (off n : Nat) : Nat := leVal ((upFrom off n).map b)

/-- The twelve words of a matrix at an offset of a bank. -/
def bankMat (b : Nat → Nat) (off : Nat) : List Nat := (upFrom 0 12).map (fun i => bankWord b (off + 4 * i) 4)

/-- A coefficient of a bank's phase table: horizontal with 8 taps, vertical with 6. -/
def bankCoef (b : Nat → Nat) (vertical : Bool) (p j : Nat) : Int :=
  if vertical then sext 16 (bankWord b (0x480 + (p * 6 + j) * 2) 2) else sext 16 (bankWord b (0x80 + (p * 8 + j) * 2) 2)

/-- Whether every phase of a phase table sums to 1,024. -/
def phasesOk (b : Nat → Nat) (vertical : Bool) : Bool :=
  (upFrom 0 64).all (fun p => (upFrom 0 (if vertical then 6 else 8)).foldl (fun a j => a + bankCoef b vertical p j) 0 == (1024 : Int))

/-- The bank checks of R311 for a job's FILTER byte. -/
def bankOk (b : Nat → Nat) (filter : Nat) : Bool :=
  matOk (bankMat b 0) && matOk (bankMat b 0x40) && decide (bankWord b 0x30 4 < 32)
    && (filter % 4 != 3 || phasesOk b false) && (filter / 4 % 4 != 3 || phasesOk b true)

/-- One, in the fixed point of the built-in tables. -/
def q24 : Int := 16777216

/-- e to the power of minus a number, in fixed point: the 64th power of the series for a 64th of it. -/
def expNegQ (x : Int) : Int :=
  let y := x / 64
  let r := q24 - y + y * y / (2 * q24) - y * y / q24 * y / (6 * q24)
  (upFrom 0 6).foldl (fun a _ => a * a / q24) r

/-- The sine of π times a number, in fixed point: the series on a quarter wave. -/
def sinPiQ (x : Int) : Int :=
  let m := x % (2 * q24)
  let s : Int := if m < q24 then 1 else -1
  let u := m % q24
  let v := if q24 < 2 * u then q24 - u else u
  let y := v * 52707179 / q24
  let z := y * y / q24
  s * (y * (q24 - z * (q24 - z * (q24 - z * (q24 - z / 72) / (42 * q24)) / (20 * q24)) / (6 * q24)) / q24)

/-- A sinc at a distance of `n / d` samples, in fixed point. -/
def sincQ (n d : Nat) : Int :=
  if n = 0 then q24 else sinPiQ ((n : Int) * q24 / d) * q24 / ((n : Int) * 52707179 / d)

/-- The weight of a tap at a distance of `dist` / 64 pixels (R300): SHARP a windowed sinc with cutoff 1, SOFT a Gaussian of 0.55 pixels, else AUTO, a
windowed sinc with cutoff min(1, OUT/IN). -/
def tapWeight (filt taps inN outN dist : Nat) : Int :=
  let win : Int := if dist = 0 then 65536 else ((min 65536 (Config.sincWindow taps dist) : Nat) : Int)
  if filt = 2 then expNegQ ((dist * dist * 1000 : Nat) * q24 / (4096 * 605))
  else if filt = 1 ∨ inN ≤ outN then sincQ dist 64 * win / 65536
  else sincQ (dist * outN) (64 * inN) * (outN : Int) / (inN : Int) * win / 65536

/-- The coefficient of a built-in table (R300): the weights brought to a sum of 1,024, which the tap on the sample keeps. -/
def builtinCoef (filt taps inN outN p j : Nat) : Int :=
  let mid := taps / 2 - 1
  let w := fun (k : Nat) => tapWeight filt taps inN outN ((64 * (k : Int) - 64 * (mid : Int) - (p : Int)).natAbs)
  let sum := (upFrom 0 taps).foldl (fun a k => a + w k) 0
  let c := fun (k : Nat) => clampInt (-4096) 4095 (roundDiv (1024 * w k) sum.natAbs)
  if j = mid then 1024 - ((upFrom 0 taps).filter (· != mid)).foldl (fun a k => a + c k) 0 else c j

/-- The filter of one axis (R298, R300): the FILTER code, the live bank, the sizes. -/
def jobFilt (code : Nat) (b : Nat → Nat) (vertical : Bool) (inN outN : Nat) : Filt :=
  let taps := if vertical then 6 else 8
  ⟨taps, if vertical then -2 else -3, 10, fun p j => if code = 3 then bankCoef b vertical p j else builtinCoef code taps inN outN p j⟩

/-- A byte of the built-in bank A (R311, R313). -/
def builtinBank (j : Job) (off : Nat) : Nat :=
  let min' := builtinIn j.inXfer j.outXfer j.inStruct j.outStruct
  let mout := builtinOut j.inXfer j.outXfer j.inStruct j.outStruct
  let coef := fun (vertical : Bool) i => let taps := if vertical then 6 else 8
    twos 16 (builtinCoef 0 taps (if vertical then j.inH else j.inW) (if vertical then j.outH else j.outW) (i / taps) (i % taps))
  if off < 0x30 then matWord min' (off / 4) / 256 ^ (off % 4) % 256
  else if off < 0x34 then builtinEnable j.inXfer j.outXfer j.inStruct j.outStruct / 256 ^ (off % 4) % 256
  else if off < 0x40 then 0
  else if off < 0x70 then matWord mout ((off - 0x40) / 4) / 256 ^ (off % 4) % 256
  else if off < 0x80 then 0
  else if off < 0x480 then coef false ((off - 0x80) / 2) / 256 ^ (off % 2) % 256
  else if off < 0x780 then coef true ((off - 0x480) / 2) / 256 ^ (off % 2) % 256
  else if off < 0x1000 then 0
  else if off < 0xD000 then builtinTable j.inXfer j.outXfer off
  else if off < 0x10000 then 0
  else if off < 0x10000 + 287496 then builtinTable j.inXfer j.outXfer off
  else 0

/-- The live bank of a job as a byte source. -/
def Job.bankAt (j : Job) (off : Nat) : Nat := (memRead j.bank off).toNat

/-- A bank of a job as it stands in HBM (R311). -/
def State.bankInHbm (s : State) (j : Job) (bank off : Nat) : Nat := (memRead s.hbm (j.params + bank * 0x80000 + off)).toNat

/-- The bank as the engine copies it into local store (R312). -/
def State.loadBank (s : State) (j : Job) (bank : Nat) : Memory :=
  let base := j.params + bank * 0x80000
  (s.hbm.filter (fun c => decide (base ≤ c.1) && decide (c.1 < base + bankSize))).map (fun c => (c.1 - base, c.2))

/-! ### The colour stage (R310) -/

/-- A 1D LUT block of the bank. -/
def bankLut (b : Nat → Nat) (base : Nat) (p : W4) : W4 :=
  let l := fun k i => ((bankWord b (base + (k * 4096 + i) * 2) 2 : Nat) : Int)
  ⟨lut1 (l 0) p.a, lut1 (l 1) p.b, lut1 (l 2) p.c, p.al⟩

/-- The 3D LUT block of the bank. -/
def bankLut3 (b : Nat → Nat) (p : W4) : W4 :=
  let e := fun k (r g bl : Nat) => ((bankWord b (0x10000 + (r + 33 * g + 1089 * bl) * 8 + 2 * k) 2 : Nat) : Int)
  ⟨lut3 (e 0) p.a p.b p.c, lut3 (e 1) p.a p.b p.c, lut3 (e 2) p.a p.b p.c, p.al⟩

/-- The colour stage on a pixel (R310). -/
def bankColor (b : Nat → Nat) (p : W4) : W4 :=
  let en := bankWord b 0x30 4
  let p := if bitAt en 0 then matPix (matOfWords (bankMat b 0)) id p else p
  let p := if bitAt en 1 then bankLut b 0x1000 p else p
  let p := if bitAt en 2 then bankLut3 b p else p
  let p := if bitAt en 3 then bankLut b 0x7000 p else p
  if bitAt en 4 then matPix (matOfWords (bankMat b 0x40)) id p else p

/-! ### De-interlacing (R301) -/

/-- A quotient with the rounding the spec leaves open. -/
def deintDiv (num : Int) (den : Nat) : Int :=
  let q := num / (den : Int)
  if num % (den : Int) ≠ 0 ∧ Config.deintRound num den = 1 then q + 1 else q

/-- The motion m at (x, y): the largest luma difference of the adjacent fields over 3 × 3 (R301). -/
def deintMotion (prev next : Src) (x y : Nat) : Nat :=
  let xs := [x - 1, x, min (x + 1) (prev.w - 1)]
  let ys := [if 2 ≤ y then y - 2 else y, y, if y + 2 < prev.h then y + 2 else y]
  (ys.flatMap (fun r => xs.map (fun c => (((prev.pix c r).a - (next.pix c r).a).natAbs / 64 : Nat)))).foldl max 0

/-- The missing value of one component (R301). -/
def deintValue (lo hi m : Nat) (p n spatial : Int) : Int :=
  let mean := deintDiv (p + n) 2
  if m ≤ lo then mean
  else if hi ≤ m then spatial
  else mean + deintDiv ((spatial - mean) * ((m - lo : Nat) : Int)) (hi - lo)

/-- The spatial value of one component at column `x` (R301): the mean of the lines above and below along an edge direction, 0 to 4, which leans by two
columns less the direction. DESIGN CHOICE (assumption 142): the five directions lean by -2 to 2 columns. -/
def edgeMean (above below : Nat → Int) (w dir x : Nat) : Int :=
  let at' := fun (g : Nat → Int) (c : Int) => g (clampInt 0 ((w : Int) - 1) c).toNat
  let o : Int := (dir : Int) - 2
  deintDiv (at' above ((x : Int) + o) + at' below ((x : Int) - o)) 2

/-- The progressive frame made of field `f` (1 or 2) of a frame, with the pictures before and after it; chroma follows the luma decision of its
pixel (R301). Where an adjacent field does not exist the value is open. -/
def deintSrc (struct f : Nat) (pic : Pic) (before after : Option Pic) (lo hi : Nat) : Src :=
  let (w, h) := picDims pic
  let cur := picSrc struct w h pic
  let other := if f = 1 then before else after
  ⟨w, h, fun x y =>
    if y % 2 = f - 1 then cur.pix x y
    else
      match other with
      | none => let v := fun k => satW (Config.edgeValue k x); ⟨v 0, v 1, v 2, 1024⟩
      | some q =>
        let far := picSrc struct w h q
        let (p, n) := if f = 1 then (far, cur) else (cur, far)
        let m := deintMotion p n x y
        let up := if y = 0 then 1 else y - 1
        let down := if y + 1 < h then y + 1 else y - 1
        let luma := fun (r : Nat) => (upFrom 0 w).map (fun c => (cur.pix c r).a)
        let dir := Config.edgeDir (luma up) (luma down) x % 5
        let v := fun (g : W4 → Int) => satW (deintValue lo hi m (g (p.pix x y)) (g (n.pix x y))
          (edgeMean (fun c => g (cur.pix c up)) (fun c => g (cur.pix c down)) w dir x))
        ⟨v (·.a), v (·.b), v (·.c), 1024⟩⟩

/-- Rows of both parities woven from two pictures: field 1 of the first or second as `f` says (R302). -/
def weave (f : Nat) (first second : Pic) : Pic :=
  (upFrom 0 second.length).map (fun y => if y % 2 = f - 1 then second.getD y [] else first.getD y [])

/-! ### Interpolation in time (R292, R304, R305) -/

/-- BLEND of one component at phase φ (R292). -/
def blendAt (phi : Nat) (a b : Int) : Int := sar ((256 - (phi : Int)) * a + (phi : Int) * b + 128) 8

/-- BLEND of two pictures at phase φ. -/
def blendSrc (phi : Nat) (a b : Src) : Src :=
  ⟨a.w, a.h, fun x y =>
    let p := a.pix x y
    let q := b.pix x y
    ⟨blendAt phi p.a q.a, blendAt phi p.b q.b, blendAt phi p.c q.c, 1024⟩⟩

/-! ### Motion compensation (R303 to R305) -/

/-- The samples a frame is made of: field and picture of each. -/
abbrev Used := List (Nat × Pic)

/-- The search range at full resolution in 1/4 pixel, horizontal and vertical (R303). -/
def searchRange (quality : Nat) : Int × Int := if quality = 0 then (1024, 512) else (512, 256)

/-- The vector of an 8 × 8 block in 1/4 pixel (R304): each level refines the vector of the level above, within the search range. -/
def blockVec (used : Used) (quality : Nat) (back : Bool) (bx by' : Nat) : Int × Int :=
  let part := fun (d : Nat) =>
    4 * Config.motionStep used quality back 0 (bx / 4) (by' / 4) d + 2 * Config.motionStep used quality back 1 (bx / 2) (by' / 2) d
      + Config.motionStep used quality back 2 bx by' d
  let r := searchRange quality
  (clampInt (-r.1) r.1 (part 0), clampInt (-r.2) r.2 (part 1))

/-- A pixel of a source displaced by a vector in 1/4 pixel. -/
def displaced (src : Src) (x y : Nat) (v : Int × Int) : W4 :=
  let px := 4 * (x : Int) + v.1
  let py := 4 * (y : Int) + v.2
  let at' := fun (c r : Int) => src.pix (clampInt 0 ((src.w : Int) - 1) c).toNat (clampInt 0 ((src.h : Int) - 1) r).toNat
  let fx := (px % 4).toNat
  let fy := (py % 4).toNat
  if fx = 0 ∧ fy = 0 then at' (px / 4) (py / 4)
  else
    let four := fun (g : W4 → Int) => [g (at' (px / 4) (py / 4)), g (at' (px / 4 + 1) (py / 4)), g (at' (px / 4) (py / 4 + 1)), g (at' (px / 4 + 1) (py / 4 + 1))]
    let v := fun (g : W4 → Int) => satW (Config.subPixel (four g) fx fy)
    ⟨v (·.a), v (·.b), v (·.c), 1024⟩

/-- The prediction from sample a at phase φ: along its forward vector (R304). -/
def predFirst (used : Used) (quality phi : Nat) (a : Src) (x y : Nat) : W4 :=
  let v := blockVec used quality false (x / 8) (y / 8)
  displaced a x y (-(v.1 * (phi : Int) / 256), -(v.2 * (phi : Int) / 256))
/-- The prediction from sample a + 1: along its backward vector. -/
def predSecond (used : Used) (quality phi : Nat) (b : Src) (x y : Nat) : W4 :=
  let v := blockVec used quality true (x / 8) (y / 8)
  displaced b x y (-(v.1 * ((256 : Int) - phi) / 256), -(v.2 * ((256 : Int) - phi) / 256))

/-- The median of a list of numbers: the mean of the middle two, downward, of an even count. -/
def median (l : List Int) : Int :=
  let s := l.mergeSort (fun x y => decide (x ≤ y))
  (s.getD ((s.length - 1) / 2) 0 + s.getD (s.length / 2) 0) / 2

/-- The eight neighbours of a block, those beyond the edge repeated from it. -/
def neighbours (nw nh bx by' : Nat) : List (Nat × Nat) :=
  [(-1, -1), (0, -1), (1, -1), (-1, 0), (1, 0), (-1, 1), (0, 1), (1, 1)].map (fun (d : Int × Int) =>
    ((clampInt 0 ((nw : Int) - 1) ((bx : Int) + d.1)).toNat, (clampInt 0 ((nh : Int) - 1) ((by' : Int) + d.2)).toNat))

/-- Whether a vector differs from the median of its eight neighbours by more than 16 pixels on an axis (R305). -/
def vectorStray (used : Used) (quality : Nat) (back : Bool) (nw nh bx by' : Nat) : Bool :=
  let v := blockVec used quality back bx by'
  let ns := (neighbours nw nh bx by').map (fun n => blockVec used quality back n.1 n.2)
  decide (64 < (v.1 - median (ns.map (·.1))).natAbs) || decide (64 < (v.2 - median (ns.map (·.2))).natAbs)

/-- Whether a block is of low confidence (R305): the mean luma difference of its two predictions is above BLK_TH, or a vector strays. -/
def blockLow (used : Used) (quality blkTh phi : Nat) (a b : Src) (bx by' : Nat) : Bool :=
  let px := (upFrom (8 * by') (min 8 (a.h - 8 * by'))).flatMap (fun y => (upFrom (8 * bx) (min 8 (a.w - 8 * bx))).map (fun x => (x, y)))
  let e := px.foldl (fun n q => n + ((predFirst used quality phi a q.1 q.2).a - (predSecond used quality phi b q.1 q.2).a).natAbs) 0
  decide (blkTh * 64 * px.length < e) || vectorStray used quality false (ceilDiv a.w 8) (ceilDiv a.h 8) bx by'
    || vectorStray used quality true (ceilDiv a.w 8) (ceilDiv a.h 8) bx by'

/-- The motion-compensated picture (R303 to R305): BLEND in the blocks of low confidence; with occlusion handling, a block covered in one direction
comes from the sample in which it is visible; else the two predictions at φ. -/
def motionSrc (used : Used) (quality blkTh phi : Nat) (a b : Src) : Src :=
  ⟨a.w, a.h, fun x y =>
    let c := if quality < 2 then Config.motionCovered used (x / 8) (y / 8) else 0
    if blockLow used quality blkTh phi a b (x / 8) (y / 8) then (blendSrc phi a b).pix x y
    else if c = 1 then predFirst used quality phi a x y
    else if c = 2 then predSecond used quality phi b x y
    else
      let p := predFirst used quality phi a x y
      let q := predSecond used quality phi b x y
      ⟨blendAt phi p.a q.a, blendAt phi p.b q.b, blendAt phi p.c q.c, 1024⟩⟩

/-- The fraction F of low-confidence blocks in 1/256 (R306). -/
def lowFraction (used : Used) (quality blkTh phi : Nat) (a b : Src) : Nat :=
  let bs := (upFrom 0 (ceilDiv a.h 8)).flatMap (fun y => (upFrom 0 (ceilDiv a.w 8)).map (fun x => blockLow used quality blkTh phi a b x y))
  256 * (bs.filter id).length / max 1 bs.length

/-! ### Size and output (R296, R298, R310) -/

/-- The size a source takes on one axis: the output's, held to ratios from 1/8 to 8 (R296). -/
def heldSize (inN outN : Nat) : Nat := clampNat (ceilDiv inN 8) (8 * inN) outN

/-- A pixel of the source scaled to the output picture and centred (R296, R298, R299); none where the held ratio leaves the output uncovered. -/
def sizedPix (j : Job) (src : Src) (x y : Nat) : Option W4 :=
  let dw := heldSize src.w j.outW
  let dh := heldSize src.h j.outH
  let sc := scaleRect (jobFilt (j.filter % 4) j.bankAt false src.w dw) (jobFilt (j.filter / 4 % 4) j.bankAt true src.h dh) src 0 0 src.w src.h dw dh
  let rx := (x : Int) - ((j.outW : Int) - (dw : Int)) / 2
  let ry := (y : Int) - ((j.outH : Int) - (dh : Int)) / 2
  if rx < 0 ∨ (dw : Int) ≤ rx ∨ ry < 0 ∨ (dh : Int) ≤ ry then none else some (sc.pix rx.toNat ry.toNat)

/-- Whether SRC_SIZE is due for a source of this size (R296). -/
def sizeHeld (j : Job) (w h : Nat) : Bool := heldSize w j.outW != j.outW || heldSize h j.outH != j.outH

/-- Stages 4 to 6 (R271): scaler, colour, output conversion; what the scaled source does not cover is black in the output (R296). -/
def jobOutput (j : Job) (src : Src) : Pic :=
  outPic j.outStruct ⟨j.outW, j.outH, fun x y =>
    match sizedPix j src x y with
    | some p => bankColor j.bankAt p
    | none => blackOf j.outStruct⟩

/-- Black at the output's size and structure. -/
def jobBlack (j : Job) : Pic := outPic j.outStruct (flatSrc j.outW j.outH (blackOf j.outStruct))

/-- Black as the input of a job. -/
def jobBlackIn (j : Job) : Src := flatSrc j.inW j.inH (blackOf j.inStruct)

end Sys2Proof.Machine
end

