-- ==== Sys2Proof/Machine/Plaza.lean ====
section
/-! DEFINITION. The Plaza at a switch line: the lead and the street window (R249 to R251), the path of a STREET select (R252, R253), the
crossfeed (R256, R257); clone groups (R258 to R261) and gangs (R262). -/

namespace Sys2Proof.Machine

open Sys2Proof

/-- PLZ.DST_EVT (R270). -/
def evPLZ : EvGroup := ⟨R.PLZ_DST_EVT_FLAGS, 0x0030102C, 0x0301⟩

/-- Raise an event of a destination; its source is the pipeline, or the job (R270). -/
def State.plzEvent (s : State) (d bit fsn line arg : Nat) : State :=
  if d < 96 then s.raise evPLZ d 0 bit kPipe d .ok fsn line arg else s.raise evPLZ d 0 bit kJob (d - 96) .ok fsn line arg

/-- PLZ.DST_STAT.PATH values. -/
def pathNONE : Nat := 0
def pathFRAME : Nat := 1
def pathSTREET : Nat := 2
def pathOTHER : Nat := 3

/-- The lead of port `p` at pipeline `d` in ns: OFS − INP.PHASE; none while not measurable (R249). -/
def State.lead (s : State) (d p : Nat) : Option Int :=
  if s.on R.INP_STAT_PHASE_VALID p then some ((s.rd R.OUT_TMG_OFS_NS d : Int) - sext 32 (s.rd R.INP_PHASE_OFFSET p)) else none

/-- The largest lead of the street path in lines (R250). -/
def State.leadMax (s : State) (d : Nat) : Nat :=
  let buf := if s.gangHead d then 1280 * 1024 else 320 * 1024
  min 64 (buf * 4 / ((s.pipeFmt d).w * quarterBytes (s.pipeStruct d)))

/-- Whether a lead lies within `lo` to `hi` lines of the pipeline's format (R249). -/
def State.leadWithin (s : State) (d p lo hi : Nat) : Bool :=
  let f := s.pipeFmt d
  match s.lead d p with
  | none => false
  | some l =>
    let x : Int := l * ((f.num * f.lines : Nat) : Int)
    let line : Int := ((1000000000 * f.den : Nat) : Int)
    decide ((lo : Int) * line ≤ x) && decide (x ≤ (hi : Int) * line)

/-- Whether the live LY0 descriptor has a vertical scale of 1:1 (R251 condition 5): the sizes it stands for are compared (R676), a SRC_WH of 0 × 0 being
the whole picture of a source of the pipeline's format, a DST_WH of 0 × 0 the size of the source. -/
def State.unityHeight (s : State) (d : Nat) : Bool :=
  let sw := s.rdk R.OUT_LYR_SRC_WH_LIVE_WH d 0
  let dw := s.rdk R.OUT_LYR_DST_WH_LIVE_WH d 0
  dw == 0 || (if sw = 0 then (s.pipeFmt d).h else hi16 sw) == hi16 dw

/-- Conditions 1 to 5 of R251 for port `p` at pipeline `d` of timeline `t`. -/
def State.streetFit (s : State) (d p t : Nat) : Bool :=
  s.rd R.INP_STAT_LC_STATE p == lcRUNNING && s.rd R.INP_STAT_IN_STATE p == inVALID && s.rd R.INP_CFG_REF_TLN p == t
    && s.rd R.INP_FMT_DET_FMT p == s.rd R.OUT_TMG_FMT_FMT d && s.on R.INP_STAT_PHASE_VALID p && s.unityHeight d

/-- Where the qualification of port `p` at pipeline `d` under timeline `t` is kept (R251 condition 6). -/
def qualKey (t d p : Nat) : Nat := (t * 96 + d) * 96 + p

/-- R251: eligible at this switch line. -/
def State.streetEligible (s : State) (d p t : Nat) : Bool := s.streetFit d p t && decide (8 ≤ tget 0 s.qual (qualKey t d p))

/-- The qualification of every port at pipeline `d` moves on at each switch line of its timeline, whatever timeline the port refers to
(R249, R251 condition 6). -/
def State.qualify (s : State) (d t : Nat) : State :=
  (upFrom 0 s.lanes).foldl (fun s p =>
    { s with qual := tset 0 s.qual (qualKey t d p) (if s.leadWithin d p 3 (s.leadMax d - 1) then min 8 (tget 0 s.qual (qualKey t d p) + 1) else 0) }) s

/-- At a switch line of `t`, the pipelines that are not on it have no switch lines of it behind them (R251 condition 6). -/
def State.qualLeave (s : State) (t : Nat) : State :=
  { s with qual := s.qual.filter (fun e => e.1 / 9216 != t || s.destTln (e.1 / 96 % 96) == some t) }

/-- Record a change of path with its cause: the event and DST_STAT (R252, R253, R270). -/
def State.pathChange (s : State) (d path cause line : Nat) (t : Nat) : State :=
  ((s.wr R.PLZ_DST_STAT_PATH d path).wr R.PLZ_DST_STAT_CAUSE d cause).plzEvent d 0 (s.fsn t) line (cause * 16 + path)

/-- The path of a live STREET select at a switch line (R252): `fresh` says that it goes live here. -/
def State.streetDecide (s : State) (d t : Nat) (fresh : Bool) : State :=
  let p := s.selNum d
  let el := s.streetEligible d p t
  let s := s.wr R.PLZ_DST_STAT_ELIGIBLE d (b2n el)
  let sw := (fmtD (s.rd R.REF_TLN_CFG_FMT t)).sw
  if fresh then s.wr R.PLZ_DST_STAT_PATH d (if el then pathSTREET else pathFRAME)
  else if (tfind s.lineTr d).isSome then s.wr R.PLZ_DST_STAT_PATH d pathFRAME
  else if s.rd R.PLZ_DST_STAT_PATH d = pathSTREET then
    (if s.streetFit d p t && s.leadWithin d p 2 (s.leadMax d) then s else s.pathChange d pathFRAME 2 sw t)
  else if el && s.on R.PLZ_DST_CFG_AUTO_RETURN d then s.pathChange d pathSTREET 1 sw t
  else s

/-- The path a PATH record names (R582, R584). A change with cause 3 or 4 has raised its PATH at the first transparent line (R253), so the switch line
raises none; where this card's own street frame had all its lines, it has no transparent line and no PATH (assumption 165). -/
def State.streetFollow (s : State) (d t path cause : Nat) : State :=
  if s.rd R.PLZ_DST_STAT_PATH d = path then s
  else if cause = 0 ∨ cause = 3 ∨ cause = 4 then s.wr R.PLZ_DST_STAT_PATH d path
  else s.pathChange d path cause (fmtD (s.rd R.REF_TLN_CFG_FMT t)).sw t

/-- The path of a live STREET select at a switch line: the primary's where this card follows one, else its own, recorded for a secondary. -/
def State.streetLine (s : State) (d t : Nat) (fresh : Bool) : State :=
  let k := s.fsn t
  let mine := s.recFor (fun r => r.tln == t && r.fsn == k && (match r.body with | .path d' _ _ => d' == d | _ => false))
  match (if s.follows then mine else none) with
  | some r =>
    (match r.body with
     | .path _ path cause => (s.recUse r).streetFollow d t path cause
     | _ => s)
  | none =>
    let was := s.rd R.PLZ_DST_STAT_PATH d
    let s := s.streetDecide d t fresh
    let now := s.rd R.PLZ_DST_STAT_PATH d
    s.sendDet t k (.path d now (if fresh ∨ now = was then 0 else s.rd R.PLZ_DST_STAT_CAUSE d))

/-- The crossfeed frame that is offered at an FSN: an open stream, the twin link up, the frame arrived (R256, R257). -/
def State.xfeedOffer (s : State) (k fsn : Nat) : Option (Nat × Pic) :=
  if s.rdk R.TWN_XF_CFG_STATE 0 k ≠ 1 ∨ s.rd R.LNE_GL_STAT_LINK_STATE 96 ≠ 2 then none
  else (tfind s.xfeed k).bind (fun x => (x.frames.find? (fun e => e.1 == fsn)).map (fun e => (x.fmt, e.2)))

/-- The format code a destination takes from a crossfeed: its pipeline's, or the input format of its job. -/
def State.xfeedFmt (s : State) (d : Nat) : Nat :=
  if d < 96 then s.rd R.OUT_TMG_FMT_FMT (s.governor d) else ((s.jobAt d).map (·.inFmt)).getD 0

/-- Whether SRC_FMT has been raised for the live select of a destination, and that it is (R257). -/
def State.xfeedTold (s : State) (d : Nat) : Bool := if d < 96 then (s.pipe d).fmtTold else (s.jobAt d).any (·.fmtTold)
/-- SRC_FMT is raised for the live select of a destination. -/
def State.xfeedTell (s : State) (d : Nat) : State :=
  if d < 96 then s.setPipe d fun q => { q with fmtTold := true } else s.setJob (d - 96) fun j => { j with fmtTold := true }

/-- A crossfeed select at a switch line (R257): what is offered here is what the frame shows. -/
def State.xfeedCheck (s : State) (d t : Nat) : State :=
  let k := s.selNum d
  let sw := (fmtD (s.rd R.REF_TLN_CFG_FMT t)).sw
  let x := s.xfeedOffer k (s.fsn t)
  let s := if d < 96 then s.setPipe d fun q => { q with xfNow := x } else s
  match x with
  | none => s.plzEvent d 1 (s.fsn t) sw k
  | some (fmt, _) =>
    if fmt = s.xfeedFmt d ∨ s.xfeedTold d then s else (s.xfeedTell d).plzEvent d 2 (s.fsn t) sw fmt

/-- A destination at a switch line of its timeline: its qualification, its lead, its path, its crossfeed (R249 to R257). In MIRROR the path
follows the determinism stream (R255). -/
def State.destLine (s : State) (t : Nat) (fresh : List Nat) (d : Nat) : State :=
  let named := s.selKind d == selFRAME || s.selKind d == selSTREET
  let s := if d < 96 then s.qualify d t else s
  let s := if d < 96 ∧ named then
      ((s.wr R.PLZ_DST_LEAD_NS d (match s.lead d (s.selNum d) with | some l => twos 32 l | none => 2 ^ 31)).wr R.PLZ_DST_STAT_QUAL d
        (tget 0 s.qual (qualKey t d (s.selNum d))))
    else s.wr R.PLZ_DST_LEAD_NS d (2 ^ 31)
  let s :=
    if s.selKind d = selSTREET then s.streetLine d t (fresh.contains d)
    else s.wr R.PLZ_DST_STAT_PATH d (if s.selKind d = selNONE then pathNONE else if s.selKind d = selFRAME then pathFRAME else pathOTHER)
  let s := { s with lineTr := tdel s.lineTr d }
  if s.selKind d = selXFEED then s.xfeedCheck d t else s

/-- Every destination of a timeline at its switch line. -/
def State.destLines (s : State) (t : Nat) (fresh : List Nat) : State :=
  ((upFrom 0 352).filter (fun d => s.destPresent d && s.destTln d == some t)).foldl (fun s d => s.destLine t fresh d) (s.qualLeave t)

/-- From `line` on, LY0 of a street frame is transparent: to the end of the frame in progress at the pipeline, and the frame path applies from the next
switch line of the timeline (R253). -/
def State.streetMiss (s : State) (d line cause : Nat) : State :=
  let s := { s with lineTr := tput s.lineTr d (line * 16 + cause) }.setPipe d fun q => { q with trLine := some (line * 16 + cause) }
  (s.wr R.PLZ_DST_STAT_CAUSE d cause).plzEvent d 0 (s.rd R.OUT_FSN_FSN d) line (cause * 16 + pathFRAME)

/-- During a street frame a needed line is missing (cause 3) or the port has left VALID (cause 4): LY0 is transparent from that line (R253). -/
def streetLineMiss (d line cause : Nat) (s : State) : State :=
  if d < 96 ∧ s.rd R.PLZ_DST_STAT_PATH d = pathSTREET ∧ s.selKind d = selSTREET ∧ (tfind s.lineTr d).isNone ∧ (cause = 3 ∨ cause = 4) then
    s.streetMiss d line cause
  else s

/-! ### Clone groups (R258 to R261) -/

/-- The checks of a member list for head pipeline `h` (R258, R261); a lane of the group itself may stay (the CLONE instruction replaces it). -/
def State.cloneChecks (s : State) (h : Nat) (bytes : List Nat) : List (Bool × Status) :=
  let ms := (bytes.filter (fun b => decide (128 ≤ b))).map (· % 128)
  let gang := s.gangHead h
  let gap := (upFrom 0 6).any (fun i => decide (bytes.getD i 0 < 128) && decide (128 ≤ bytes.getD (i + 1) 0))
  let quad := if gang then
      ms.any (fun m => !s.quadOn m) || (ms.length != 0 && (ms.length != 4 || !(upFrom (ms.headD 0 / 4 * 4) 4).all ms.contains))
    else ms.any s.quadOn
  [ (gap || ms.any (fun m => m == h || (decide (m < 96) && s.rd R.LNE_CTL_MODE m != mdSDI) || decide (96 ≤ m)) || quad, .decode),
    (ms.any (fun m => !s.lanePresent m), .unitAbsent),
    (ms.any (fun m => (s.cloneHeadOf m).any (· != h) || (m != h && (s.obj kClone m).live)), .protected'),
    (s.rd R.OUT_STAT_LC_STATE h != lcSTOPPED || ms.any (fun m => s.rd R.OUT_STAT_LC_STATE m != lcSTOPPED), .unitRunning),
    (decide (7 < ms.length), .lenExceeds) ]

/-- The member list of a group becomes these bytes (R259, R260). -/
def State.setClone (s : State) (h : Nat) (bytes : List Nat) : State :=
  (s.wr R.PLZ_CLONE_A_MEMBERS h (leVal (bytes.take 4))).wr R.PLZ_CLONE_B_MEMBERS h (leVal ((bytes.drop 4).take 3))

/-- The body of CLONE_CREATE (R259): the group's handle and its number of members. -/
def State.cloneCreateBody (s : State) (ss h : Nat) (bytes : List Nat) : AdmAns :=
  if (s.obj kClone h).live then ⟨s.refuse 10, .noContext, 0, 0⟩
  else
    let s := (s.issue kClone h ss).setClone h bytes
    ⟨s, .ok, s.handleOf kClone h, (s.cloneMembers h).length⟩

/-- The checks of a handle that must name an object of a kind that the session owns (R20, R27, R78). -/
def State.ownChecks (s : State) (ss h kind : Nat) : List (Bool × Status) :=
  s.liveChecks ss h (hKind h != kind)

/-- CLONE_CREATE, opcode 0x0060 (R258, R259). The member bytes are judged also when OBJECT does not name a head (R20). -/
def cloneCreate (f : Nat) (payload : List Nat) (s : State) : State :=
  s.admin f 0x60 payload []
    (fun t => (!allZero (t.inl.drop 7), .decode) :: s.admChecks f t 0 0 payload true false ++ s.ownChecks t.ss t.object kPipe
      ++ s.cloneChecks (if hKind t.object = kPipe then hIdx t.object else 2 ^ 20) (t.inl.take 7))
    (fun t => s.cloneCreateBody t.ss (hIdx t.object) (t.inl.take 7))

/-! ### Gangs (R262) -/

/-- A write of PLZ.GANG_CFG (R262): bits of absent groups read 0. -/
def gangCfgWrite (p data : Nat) (s : State) : State :=
  let changed := (upFrom 0 24).filter (fun k => bitAt data k != bitAt (s.rd R.PLZ_GANG_CFG_GANG 0) k && decide (4 * k < s.lanes))
  s.gate p 0x300010 true
    [ (changed.any (fun k => (upFrom (4 * k) 4).any (fun n => s.rd R.OUT_STAT_LC_STATE n != lcSTOPPED)), .unitRunning),
      (changed.any (fun k => !s.on R.LNE_SDI_CFG_QUAD (4 * k)), .decode) ]
    fun s => s.wr R.PLZ_GANG_CFG_GANG 0 (data % 2 ^ (s.lanes / 4))

/-- STREET_LINE_MISS. -/
def execStreetLineMiss (dest line cause : Nat) (s : State) : Res := .next (streetLineMiss dest line cause s)
/-- CLONE_CREATE. -/
def execCloneCreate (f : Nat) (payload : List Nat) (s : State) : Res := .next (cloneCreate f payload s)
/-- GANG_CFG_WRITE. -/
def execGangCfgWrite (p data : Nat) (s : State) : Res := .next (s.regRec 0x300010 data (gangCfgWrite p data s))

end Sys2Proof.Machine
end

