-- ==== Sys2Proof/Machine/Arcade.lean ====
section
/-! DEFINITION. Arcade jobs: creation and placement (R271 to R283), lifecycle (R284 to R287), the reader (R289 to R297, R302, R308, R309), the
frame decisions (R292, R293, R306, R307), publication; the completion of an input frame, which feeds the readers. -/

namespace Sys2Proof.Machine

open Sys2Proof

/-! ### Accessors and events -/

/-- CVA.JOB_EVT (R316). -/
def evJOB : EvGroup := ⟨R.CVA_JOB_EVT_FLAGS, 0x00402034, 0x0401⟩

/-- A field of a job's slot registers. -/
def State.jrd (s : State) (j : Job) (f : Fld) : Nat := s.rdk f j.head j.slot
/-- Write a field of a job's slot registers. -/
def State.jwr (s : State) (j : Job) (f : Fld) (v : Nat) : State := s.wrk f j.head j.slot v
/-- Raise an event of a job with its output FSN (R316). -/
def State.jobEvent (s : State) (i : Nat) (j : Job) (bit : Nat) (st : Status) (fsn arg : Nat) : State :=
  s.raise evJOB j.head j.slot bit kJob i st fsn 0 arg
/-- The lifecycle state of a job. -/
def State.jobLc (s : State) (j : Job) : Nat := s.jrd j R.CVA_JOB_STAT_LC_STATE

/-- The index of the job in a slot of an engine, its head. -/
def State.jobInSlot (s : State) (engine slot : Nat) : Option Nat :=
  (s.jobs.find? (fun e => e.2.head == engine && e.2.slot == slot)).map (·.1)

/-! ### Placement (R275, R276, R278) -/

/-- The jobs placed on an engine. -/
def State.jobsOn (s : State) (k : Nat) : List Job := (s.jobs.filter (fun e => e.2.engs.contains k)).map (·.2)

/-- The credits of the engines of a gang of `n` that share `c` (R276, R278): each at most 1,600, all together `c`; how they are divided is open. -/
def gangShares (total : Nat) : Nat → Nat → List Nat
  | 0, _ => []
  | n + 1, c =>
    let x := clampNat (c - 1600 * n) (min 1600 c) (Config.gangCredits total (n + 1) c)
    x :: gangShares total n (c - x)

/-- The credits a job holds of engine `k`. -/
def creditsOn (j : Job) (k : Nat) : Nat :=
  if j.engs.length ≤ 1 then j.credits else (gangShares j.credits j.engs.length j.credits).getD (j.engs.findIdx (· == k)) 0

/-- The credits held of an engine. -/
def State.creditsHeld (s : State) (k : Nat) : Nat := (s.jobsOn k).foldl (fun a j => a + creditsOn j k) 0
/-- The local store held of an engine, KiB. -/
def State.localHeld (s : State) (k : Nat) : Nat := (s.jobsOn k).foldl (fun a j => a + j.localKib) 0
/-- Whether an engine has failed (R286). -/
def State.engFailed (s : State) (k : Nat) : Bool := s.on R.CVA_ENG_STAT_FAILED k

/-- The registers of an engine show its jobs. -/
def State.engShow (s : State) (k : Nat) : State :=
  let js := s.jobsOn k
  let gang := js.find? (fun j => decide (1 < j.engs.length))
  let s := s.wr R.CVA_ENG_STAT_JOBS k js.length
  let s := s.wr R.CVA_ENG_STAT_CREDITS k (s.creditsHeld k)
  let s := s.wr R.CVA_ENG_LS_KIB k (s.localHeld k)
  let s := s.wr R.CVA_ENG_STAT_GANGED k (b2n gang.isSome)
  s.wr R.CVA_ENG_STAT_HEAD k (match gang with | some j => j.head | none => k)

/-- The free credits of the pool, failed engines excluded (R278). -/
def State.poolCredits (s : State) : Nat :=
  ((upFrom 0 s.engines).filter (fun k => !s.engFailed k)).foldl (fun a k => a + (1600 - s.creditsHeld k)) 0

/-- Every engine's registers and CVA.POOL_FREE follow the placement. -/
def State.enginesShow (s : State) : State :=
  let s := (upFrom 0 s.engines).foldl (fun s k => s.engShow k) s
  s.wr R.CVA_POOL_FREE_CREDITS 0 s.poolCredits

/-- Whether an engine has room for a job of one engine (R276). -/
def State.engFits (s : State) (k c kib : Nat) : Bool :=
  let js := s.jobsOn k
  !s.engFailed k && !js.any (fun j => decide (1 < j.engs.length)) && decide (js.length < 8)
    && decide (s.creditsHeld k + c ≤ 1600) && decide (s.localHeld k + kib ≤ 1536)

/-- The engines of a new job (R276). -/
def State.placeJob (s : State) (n c kib : Nat) : Option (List Nat) :=
  if n ≤ 1 then ((upFrom 0 s.engines).find? (fun k => s.engFits k c kib)).map (fun k => [k])
  else
    let l := ((upFrom 0 s.engines).filter (fun k => !s.engFailed k && (s.jobsOn k).isEmpty)).take n
    if l.length = n ∧ kib ≤ 1536 then some l else none

/-! ### The argument block (R279) and its checks (R280) -/

/-- The job an argument block declares, not yet placed. -/
def jobOfArgs (p : List Nat) : Job :=
  let fi := fmtD (leField p 4 1)
  let fo := fmtD (leField p 12 1)
  let dim := fun (v d : Nat) => if v = 0 then d else v
  { handle := 0, tln := leField p 0 1 % 16, inFmt := leField p 4 1, inStruct := leField p 5 1, inXfer := leField p 6 1, mode := leField p 7 1,
    inW := dim (leField p 8 2) fi.w, inH := dim (leField p 10 2) fi.h, outFmt := leField p 12 1, outStruct := leField p 13 1,
    outXfer := leField p 14 1, filter := leField p 15 1, outW := dim (leField p 16 2) fo.w, outH := dim (leField p 18 2) fo.h,
    credits := 0, engs := [], slot := 0, localKib := 0, outBase := 0, params := 0, surf := 0, bank := [], samples := [], held := [], times := [],
    shown := none, making := none, faulted := false, calm := 0, inFallback := 0, cutAt := none, marks := [], place := 0, periodAt := 0,
    lastIn := none, rateTold := false, sizeTold := false, fmtTold := false, lastA := none }

/-- Whether an XFER byte is legal: no reserved code, and HLG or PQ only with BT.2020 (R279, R280). -/
def xferOk (x : Nat) : Bool := decide (x < 8) && x % 4 != 3 && (x % 4 == 0 || bitAt x 2)

/-- The bank a create loads: the built-in one, or the image at TABLE_ADDR. -/
def createBank (j : Job) (image : List (Nat × Nat)) (off : Nat) : Nat :=
  if bitAt j.mode 5 then (tget 0 image off) % 256 else builtinBank j off

/-- Whether the scaler stage is used (R271). -/
def Job.scales (j : Job) : Bool := j.inW != j.outW || j.inH != j.outH

/-- The credits of a job, of which `color` says whether its bank enables a colour block (R272, R273). -/
def jobCredits (j : Job) (color : Bool) : Nat :=
  let fi := fmtD j.inFmt
  let fo := fmtD j.outFmt
  let inPix := j.inW * j.inH
  -- half pixels a second at the input rate and at the output rate
  let atIn := if j.deint then 6 * inPix else 0
  let atOut := (if j.frc = 2 then inPix else if j.frc = 3 then 4 * inPix else 0)
    + (if j.scales || color then 2 * max inPix (j.outW * j.outH) else 0)
  ceilDiv (atIn * fi.num * fo.den + atOut * fo.num * fi.den) (2 * 1000000 * fi.den * fo.den)

/-- The local store of a job on each of its engines, KiB (R275). -/
def jobLocal (j : Job) (color : Bool) : Nat :=
  (if j.deint then 192 * ceilDiv j.inW 1920 else 0) + (if j.frc = 3 then 384 * ceilDiv j.inW 1920 else 0)
    + (if j.scales then 96 * ceilDiv (max j.inW j.outW) 1920 else 0) + (if color then 288 else 0)

/-- The isochronous charge of a job (R265, R274). -/
def jobCharge (j : Job) : Nat :=
  let rin := chargeOf (picBytes j.inW j.inH j.inStruct) (ceilRate (fmtD j.inFmt))
  let rout := chargeOf (picBytes j.outW j.outH j.outStruct) (ceilRate (fmtD j.outFmt))
  rin * (1 + (if j.frc = 3 then 3 else if j.deint then 2 else if j.frc = 2 then 1 else 0)) + rout

/-- Whether a scale ratio lies in 1/8 to 8 (R280). -/
def ratioOk (i o : Nat) : Bool := decide (i ≤ 8 * o) && decide (o ≤ 8 * i)

/-- The checks of R280 that read the declaration alone. -/
def jobArgChecks (p : List Nat) (image : List (Nat × Nat)) : List (Bool × Status) :=
  let j := jobOfArgs p
  let color := bankWord (createBank j image) 0x30 4 != 0
  [ ((formatOf j.inFmt).isNone || (formatOf j.outFmt).isNone || decide (4 < j.inStruct) || decide (4 < j.outStruct)
      || decide (16 ≤ leField p 0 1) || !allZero ((p.drop 1).take 3) || !allZero ((p.drop 20).take 4) || !allZero ((p.drop 32).take 32)
      || !xferOk j.inXfer || !xferOk j.outXfer || decide (128 ≤ j.mode) || j.quality == 3 || decide (16 ≤ j.filter), .decode),
    (j.deint && (!([0x01, 0x02, 0x20, 0x21, 0x22].contains j.inFmt) || j.frc == 0), .decode),
    (decide (j.inW < 64) || decide (j.inH < 64) || decide (j.outW < 64) || decide (j.outH < 64) || j.inW % 2 == 1 || j.outW % 2 == 1, .decode),
    (!ratioOk j.inW j.outW || !ratioOk j.inH j.outH, .decode),
    (bitAt j.mode 5 && !bankOk (createBank j image) j.filter, .decode),
    (decide (7680 < j.inW) || decide (7680 < j.outW) || decide (4320 < j.inH) || decide (4320 < j.outH)
      || decide (4 * 1600 < jobCredits j color), .lenExceeds) ]

/-- The checks of R280 that read the device; formats fit the timeline as R476 states. -/
def State.jobDevChecks (s : State) (p : List Nat) : List (Bool × Status) :=
  let j := jobOfArgs p
  let t := fmtD (s.rd R.REF_TLN_CFG_FMT j.tln)
  [ ((formatOf (s.rd R.REF_TLN_CFG_FMT j.tln)).isNone || !compatible (fmtD j.outFmt) t || (j.frc == 0 && !compatible (fmtD j.inFmt) t), .timeline) ]

/-- The surface format of an output structure (R283). -/
def surfFmtOf (struct : Nat) : Nat := if struct = 0 then 1 else if struct = 2 ∨ struct = 4 then 3 else 2

/-- Return the slot registers of a job to reset. -/
def State.clearSlot (s : State) (j : Job) : State :=
  { s with regs := s.regs.filterMap fun e =>
      if decide (0x402000 ≤ e.1 / 32) && decide (e.1 / 32 < 0x402200) then
        (if tset [] e.2 j.head (tdel (tget [] e.2 j.head) j.slot) = [] then none
         else some (e.1, tset [] e.2 j.head (tdel (tget [] e.2 j.head) j.slot)))
      else some e }

/-- The bytes of a bank that are not 0, written at its place in HBM. -/
def State.storeBank (s : State) (base : Nat) (b : Nat → Nat) : State :=
  { s with hbm := (upFrom 0 bankSize).foldl (fun m off => if b off = 0 then m else memWrite m (base + off) (BitVec.ofNat 8 (b off))) s.hbm }

/-- The allocations of a job: three output frames and the parameter area (R281). -/
def State.jobAlloc (s : State) (i : Nat) (j : Job) : Option (Nat × Nat × State) :=
  let slot := roundUp (picBytes j.outW j.outH j.outStruct + 4096) 65536
  match s.allocate (3 * slot) 65536 (objKey kJob i) false true with
  | none => none
  | some (b, s1) =>
    match s1.allocate 0x100000 0x100000 (objKey kJob i) false false with
    | none => none
    | some (q, s2) => some (b, q, s2)

/-- JOB_CREATE's placement, allocation and admission (R276, R281, R282). -/
def State.jobCreateBody (s : State) (ss : Nat) (p : List Nat) (image : List (Nat × Nat)) : AdmAns :=
  let j := jobOfArgs p
  let b := createBank j image
  let color := bankWord b 0x30 4 != 0
  let c := jobCredits j color
  let kib := jobLocal j color
  match s.freeIndex kJob 0 with
  | none => ⟨s.refuse 7, .noContext, 0, 0⟩
  | some i =>
    match s.placeJob (max 1 (ceilDiv c 1600)) c kib with
    | none => ⟨s.refuse 6, .noContext, 0, 0⟩
    | some engs =>
      match s.freeIndex kSurface 0 with
      | none => ⟨s.refuse 8, .noContext, 0, 0⟩
      | some k =>
        match s.jobAlloc i j with
        | none => ⟨s, .noMemory, 0, 0⟩
        | some (ob, q, s1) =>
          if s1.admits [(cJob i, jobCharge j)] then
            let head := engs.headD 0
            let slot := ((upFrom 0 8).find? (fun x => (s.jobInSlot head x).isNone)).getD 0
            let s := ((s1.takeCharges [(cJob i, jobCharge j)]).storeBank q b).storeBank (q + 0x80000) b
            let s := (s.issue kJob i ss).issue kSurface k ss
            let h := s.handleOf kJob i
            let j := { j with handle := h, credits := c, engs := engs, slot := slot, localKib := kib, outBase := ob, params := q, surf := k }
            let j := { j with bank := s.loadBank j 0 }
            let s := { s with jobs := tput s.jobs i j, surfs := tput s.surfs k ⟨surfFmtOf j.outStruct, j.outW, j.outH, 0, false, ob, some i, none, none⟩ }
            let s := s.clearSlot j
            let s := s.jwr j R.CVA_JOB_HANDLE_HANDLE h
            let s := s.jwr j R.CVA_JOB_CREDITS_C c
            let s := (s.jwr j R.CVA_JOB_STAT_ENGINES engs.length).enginesShow
            ⟨s, .ok, h, engs.length * 2 ^ 60 + slot * 2 ^ 57 + head * 2 ^ 52 + q / 2 ^ 20 % 65536 * 2 ^ 32 + s.handleOf kSurface k⟩
          else ⟨s.inc R.PLZ_ISO_REFUSED_COUNT 0, .bandwidth, 0, 0⟩

/-- JOB_CREATE, opcode 0x0040. A PAY_LEN over the limit leaves PAYLOAD unread (R103). -/
def jobCreate (f : Nat) (payload : List Nat) (image : List (Nat × Nat)) (s : State) : State :=
  s.admin f 0x40 payload image (fun t => s.admChecks f t 64 64 payload true false ++ (s.engines == 0, .unitAbsent) :: (if 64 < t.payLen then [] else jobArgChecks payload image ++ s.jobDevChecks payload))
    (fun t => s.jobCreateBody t.ss payload image)

/-- The destination of an index without a job reads 0 and selects nothing (R235, R239). -/
def State.destClear (s : State) (i : Nat) : State :=
  let s := (s.uncharge (cSelect (96 + i))).clearUnit 0x301000 0x302000 (96 + i)
  { s with staged := s.staged.filter (fun x => x.ent.key != .sel (96 + i)), lineTr := tdel s.lineTr (96 + i) }

/-- Everything a job holds is released together (R287): memory, output surface, credits, slot and charge. -/
def State.jobRelease (s : State) (i : Nat) : State :=
  match tfind s.jobs i with
  | none => s
  | some j =>
    let old := s
    let s := (s.release (objKey kJob i)).uncharge (cJob i)
    let s := s.setObj kSurface j.surf { s.obj kSurface j.surf with live := false, draining := false, grants := [] }
    let s := { s with surfs := tdel s.surfs j.surf, jobs := tdel s.jobs i }
    ((s.clearSlot j).enginesShow.destClear i).selectLeft old (96 + i)

/-! ### Lifecycle (R284 to R287) -/

/-- The address of a slot's JOB_LC register. -/
def jobLcAddr (engine slot : Nat) : Nat := 0x402004 + 0x4000 * engine + 0x200 * slot

/-- Whether a principal may write a job's registers: that of the session that owns it. -/
def State.ownsJob (s : State) (p i : Nat) : Bool := s.prinOf (s.obj kJob i).owner == p

/-- Whether the modes let an Arcade job or a pipeline start (R67, R364, R582, R630). -/
def State.startMode (s : State) (p : Nat) : Bool :=
  !s.modePending && (s.modeCode == mRUN || s.modeCode == mSERVICE || (s.modeCode == mMIRROR && p == pTwin))

/-- The checks of a start request to a job (R284, R285, R670). -/
def State.jobStartChecks (s : State) (p i : Nat) (j : Job) : List (Bool × Status) :=
  [ (!s.ownsJob p i && p != pTwin && !isCore p, .protected'),
    (s.jobLc j == lcSTOPPED && j.engs.any s.engFailed, .notReady), (!s.startMode p, .mode), (s.isDraining j.handle, .draining),
    (s.jobLc j != lcSTOPPED, .unitRunning), (!s.tlnRuns j.tln, .timeline) ]

/-- A job arms: reader, cadence, vector and fallback history cleared (R284). -/
def State.jobArm (s : State) (i : Nat) (j : Job) : State :=
  let s := s.setJob i fun j => { j with samples := [], held := [], times := [], making := none, faulted := false, calm := 0, inFallback := 0, cutAt := none, marks := [],
                                        place := 0, lastIn := none, rateTold := false, lastA := none }
  ((s.jwr j R.CVA_JOB_STAT_CADENCE 0).jwr j R.CVA_JOB_STAT_FALLBACK 0).jwr j R.CVA_JOB_STAT_LC_STATE lcARMED

/-- A job becomes STOPPED: its reader is released (R284). -/
def State.jobStopped (s : State) (i : Nat) (j : Job) : State :=
  (s.setJob i fun j => { j with samples := [], held := [], making := none }).jwr j R.CVA_JOB_STAT_LC_STATE lcSTOPPED

/-- The effect of a stop request (R41, R284). -/
def State.jobStopReq (s : State) (i : Nat) (j : Job) : State :=
  if s.jobLc j = lcARMED then s.jobStopped i j
  else if s.jobLc j = lcRUNNING then s.jwr j R.CVA_JOB_STAT_LC_STATE lcSTOPPING
  else s

/-- A start request to the job in a slot; a write to a slot without one is ignored. -/
def jobStart (p engine slot : Nat) (s : State) : State :=
  match s.jobInSlot engine slot with
  | none => s.gate p (jobLcAddr engine slot) true [] id
  | some i =>
    match tfind s.jobs i with
    | none => s
    | some j => s.gate p (jobLcAddr engine slot) true (s.jobStartChecks p i j) (fun s => s.jobArm i j)

/-- A stop request to the job in a slot. -/
def jobStop (p engine slot : Nat) (s : State) : State :=
  match s.jobInSlot engine slot with
  | none => s.gate p (jobLcAddr engine slot) true [] id
  | some i =>
    match tfind s.jobs i with
    | none => s
    | some j => s.gate p (jobLcAddr engine slot) true [(!s.ownsJob p i && p != pTwin && !isCore p, .protected')] (fun s => s.jobStopReq i j)

/-- The fault of one job on a failing engine (R284, R286). -/
def State.jobFault (s : State) (engine i : Nat) : State :=
  match tfind s.jobs i with
  | none => s
  | some j =>
    if s.jobLc j = lcRUNNING then
      let s := (s.setJob i fun j => { j with faulted := true }).jwr j R.CVA_JOB_STAT_LC_STATE lcSTOPPING
      s.jobEvent i j 7 .eccUncorr (match j.making with | some (k, _) => k | none => s.fsn j.tln) engine
    else s

/-- An uncorrectable local-store error (R286). -/
def engineLocalStoreFault (engine addr : Nat) (s : State) : State :=
  if s.engines ≤ engine then s
  else
    let s := (s.wr R.CVA_ENG_STAT_FAILED engine 1).flag R.CVA_ENG_EVT_FLAGS 0x0040000C engine 0 0
    let s := s.flog (0x40 + engine) 0x10 .eccUncorr false (sramArg 3 engine addr)
    let s := s.wr R.CVA_POOL_FREE_CREDITS 0 s.poolCredits
    ((s.jobs.filter (fun e => e.2.engs.contains engine)).map (·.1)).foldl (fun s i => s.jobFault engine i) s

/-! ### The reader (R290, R302, R308, R309) -/

/-- A sample enters the reader. -/
def State.addSample (s : State) (i : Nat) (x : Sample) : State := s.setJob i fun j => { j with samples := j.samples ++ [x] }

/-- The repeat pattern of a locked cadence (R308). -/
def cadencePattern (c : Nat) : List Bool := if c = 1 then [false, true, true, false, true] else [false, true]

/-- The rows of a picture that a sample carries: a field, or all. -/
def sampleRows (f : Nat) (p : Pic) : Pic :=
  if f = 0 then p else ((upFrom 0 p.length).filter (fun y => y % 2 == f - 1)).map (fun y => p.getD y [])

/-- Whether a picture repeats the one before it: the mean absolute luma difference is at most REP_TH / 16 codes (R308). -/
def repeats (th f : Nat) (before : Option Pic) (p : Pic) : Bool :=
  match before with
  | none => false
  | some q =>
    let a := (sampleRows f p).flatMap (fun r => r.map (fun x => (x.y : Int)))
    let b := (sampleRows f q).flatMap (fun r => r.map (fun x => (x.y : Int)))
    decide (16 * ((List.zipWith (fun x y => (x - y).natAbs) a b).foldl (· + ·) 0) ≤ th * a.length) && a.length == b.length

/-- A frame or field meets the cadence: it becomes a sample, or a repeat is left out; lock and unlock are raised (R302, R308). -/
def State.cadenceStep (s : State) (i : Nat) (j : Job) (x : Sample) (before : Option Pic) : State :=
  let rep := repeats (s.jrd j R.CVA_JOB_CFG2_REP_TH) x.field before x.pic
  let c := s.jrd j R.CVA_JOB_STAT_CADENCE
  let fi := fmtD j.inFmt
  let marks := (rep :: j.marks).take 10
  let s := s.setJob i fun j => { j with marks := marks }
  if c = 0 then
    let s := (s.setJob i fun j => { j with place := 0 }).addSample i x
    let lock := if marks == ((cadencePattern 1 ++ cadencePattern 1).reverse) then 1
      else if marks.take 4 == ((cadencePattern 2 ++ cadencePattern 2).reverse) then 2 else 0
    if lock = 0 then s else (s.jwr j R.CVA_JOB_STAT_CADENCE lock).jobEvent i j 3 .ok (s.fsn j.tln) lock
  else
    let pat := cadencePattern c
    if rep != pat.getD j.place false then
      let s := (s.setJob i fun j => { j with place := 0 }).addSample i x
      (s.jwr j R.CVA_JOB_STAT_CADENCE 0).jobEvent i j 3 .ok (s.fsn j.tln) 0
    else
      let t0 := if j.place = 0 then x.time else j.periodAt
      let s := s.setJob i fun j => { j with place := (j.place + 1) % pat.length, periodAt := t0 }
      if x.field = 0 then
        (if rep then s
         else s.addSample i { x with time := if j.place = 0 then x.time else t0 + 5 * 1000000000 * fi.den / (2 * fi.num) })
      else if j.place = 1 ∨ j.place = 4 then
        s.addSample i { x with field := 0, pic := weave x.field (if x.field = 1 then before.getD x.pic else x.pic) x.pic }
      else s

/-- The rate the reader measures over its last 16 samples (R309). -/
def State.readerRate (s : State) (i : Nat) (j : Job) (now : Nat) : State :=
  let ts := (now :: j.times).take 16
  let s := s.setJob i fun j => { j with times := ts }
  let fi := fmtD j.inFmt
  let num := if j.deint then 2 * fi.num else fi.num
  let d := now - ts.getLastD now
  if ts.length < 16 ∨ d = 0 then s
  else
    let off := ((15 * 1000000000 * fi.den : Nat) : Int) - ((num * d : Nat) : Int)
    let bad := decide (500 * num * d < off.natAbs * 1000000)
    if bad && !j.rateTold then
      (s.setJob i fun j => { j with rateTold := true }).jobEvent i j 5 .ok (s.fsn j.tln) (15 * 1000000000000 / d)
    else if !bad && j.rateTold then s.setJob i fun j => { j with rateTold := false }
    else s

/-- The place in the period of cadence `c` after the marks, newest first: where the pattern stands in the last whole period. -/
def cadencePlace (c : Nat) (marks : List Bool) : Nat :=
  let pat := cadencePattern c
  ((upFrom 0 pat.length).find? (fun p => (upFrom 0 pat.length).all (fun k => marks.getD k false == pat.getD ((p + 2 * pat.length - 1 - k) % pat.length) false))).getD 0

/-- A frame or field meets the reader in MIRROR: every one is kept with its repeat mark, for the cadence state comes with each ARC record (R315). -/
def State.cadenceMark (s : State) (i : Nat) (j : Job) (x : Sample) (before : Option Pic) : State :=
  let rep := repeats (s.jrd j R.CVA_JOB_CFG2_REP_TH) x.field before x.pic
  let marks := (rep :: j.marks).take 10
  let place := cadencePlace (s.jrd j R.CVA_JOB_STAT_CADENCE) marks
  (s.setJob i fun j => { j with marks := marks, place := place, periodAt := if place = 1 then x.time else j.periodAt }).addSample i { x with mark := some rep }

/-- The samples that a list of marked frames or fields holds under cadence `c` (R302, R308, R315): the first frame of each content frame, the second
content frame of a 3:2 period evenly spaced from its first; or each content frame woven of its two fields, with the IFC of the later. -/
def cadenced (j : Job) (c : Nat) (l : List Sample) : List Sample :=
  let fi := fmtD j.inFmt
  let at' := fun (n k : Nat) => if n < k then none else l[n - k]?
  let rep := fun (n k : Nat) => (at' n k).bind (·.mark)
  if c = 0 then l
  else (upFrom 0 l.length).filterMap fun n => (l[n]?).bind fun x =>
    if x.mark = none then some x
    else if x.field = 0 then
      if x.mark = some true then none
      else if c = 1 ∧ rep n 1 = some true ∧ rep n 2 = some true ∧ rep n 3 = some false then
        some { x with time := ((at' n 3).getD x).time + 5 * 1000000000 * fi.den / (2 * fi.num) }
      else some x
    else if x.mark = some true ∧ rep n 1 = some false then
      some { x with field := 0, pic := weave x.field (if x.field = 1 then ((at' n 1).getD x).pic else x.pic) x.pic }
    else none

/-- A frame or field reaches a job's reader. -/
def State.takeSample (s : State) (i : Nat) (x : Sample) (before : Option Pic) : State :=
  match tfind s.jobs i with
  | none => s
  | some j0 =>
    let s := s.readerRate i j0 x.time
    match tfind s.jobs i with
    | none => s
    | some j =>
      if j.cadence && !j.rateTold && (j.deint || (fmtD j.inFmt).scan != 0) && (x.field != 0 || !j.deint) then
        (if s.modeCode = mMIRROR then s.cadenceMark i j x before else s.cadenceStep i j x before)
      else s.addSample i x

/-- L of R291 in ns. -/
def jobLatency (j : Job) : Nat :=
  (if j.wide then 3 else 2) * max (periodNs (fmtD j.outFmt)) (periodNs (fmtD j.inFmt))

/-- τ for the output frame that is published `ahead` switch lines after the one in progress (R291): t less L. -/
def State.tau (s : State) (j : Job) (ahead : Nat) : Nat :=
  let f := fmtD (s.rd R.REF_TLN_CFG_FMT j.tln)
  let x := tget Tln.reset s.tln j.tln
  lineStart f x.phase (x.n + ahead) f.sw - jobLatency j

/-- Where sample a stands among the samples: the newest at or before τ (R292). -/
def findA (l : List Sample) (tau : Nat) : Option Nat :=
  match (l.filter (fun x => decide (x.time ≤ tau))).length with
  | 0 => none
  | n + 1 => some n

/-- The frames and fields that are still stored (R219, R290), for a port's frames. -/
def State.storedRaw (s : State) (j : Job) (d : Nat) : List Sample :=
  if s.selKind d = selFRAME then j.samples.filter (fun x => (s.frameAt (s.selNum d) x.ifc).isSome) else j.samples
/-- The samples that are still stored, under the cadence in force. -/
def State.stored (s : State) (j : Job) (d : Nat) : List Sample := cadenced j (s.jrd j R.CVA_JOB_STAT_CADENCE) (s.storedRaw j d)

/-- The stored frames that the picture of a sample is made of: its own, and with DEINT that of the adjacent field (R301). -/
def Sample.frames (x : Sample) : List Nat := if x.field = 0 then [x.ifc] else if x.field = 1 then [x.ifc - 1, x.ifc] else [x.ifc, x.ifc + 1]

/-- The reader lets go of what it no longer needs and holds the slots that the next output frame needs, oldest first, 4 or 2 of them (R290). What the
frame last used is made of stays known, for a loss (R294). -/
def State.jobKeep (s : State) (i : Nat) (ahead : Nat) : State :=
  match tfind s.jobs i with
  | none => s
  | some j =>
    let l := s.stored j (96 + i)
    let k := findA l (s.tau j ahead)
    let first := match k with | some a => if j.wide then a - 1 else a | none => 0
    let since := ((l.drop (first - 2)).head?).map (·.ifc)
    let keep := fun (x : Sample) => j.lastA.any (fun z => decide (z.ifc ≤ x.ifc + 1)) || (l.drop (first - 2)).contains x
      || (x.mark.isSome && since.any (fun f => decide (f ≤ x.ifc + 4)))
    let need := (((l.drop first).take (if j.wide then 4 else 2)).flatMap Sample.frames).eraseDups
    s.setJob i fun j => { j with samples := (s.storedRaw j (96 + i)).filter keep, held := need.take (if j.wide then 4 else 2) }

/-- A published frame of a port reaches the reader of job `i` (R290): a frame, or with DEINT the two fields of an interlaced one. -/
def State.jobTakesFrame (s : State) (n i : Nat) (f : Frame) : State :=
  match tfind s.jobs i with
  | none => s
  | some j =>
    if j.frc = 0 ∨ s.selKind (96 + i) ≠ selFRAME ∨ s.selNum (96 + i) ≠ n ∨ s.jobLc j = lcSTOPPED then s
    else
      let fm := fmtD f.det.fmt
      let s := if j.deint ∧ fm.scan = 0 then
          (s.takeSample i ⟨f.ifc, (2 * f.done * fm.num - 1000000000 * fm.den) / (2 * fm.num), 1, f.det.struct, f.pic, none⟩ j.lastIn).takeSample i
            ⟨f.ifc, f.done, 2, f.det.struct, f.pic, none⟩ j.lastIn
        else s.takeSample i ⟨f.ifc, f.done, 0, f.det.struct, f.pic, none⟩ j.lastIn
      (s.setJob i fun j => { j with lastIn := some f.pic }).jobKeep i 1

/-- A job's published output frame reaches the jobs that read it in time (R295). -/
def State.jobFeeds (s : State) (src fsn : Nat) (j : Job) (p : Pic) : State :=
  (s.jobs.map (·.1)).foldl (fun s i =>
    match tfind s.jobs i with
    | none => s
    | some k =>
      if k.frc ≠ 0 ∧ s.selKind (96 + i) = selARCADE ∧ hIdx (s.selH (96 + i)) = src ∧ s.jobLc k ≠ lcSTOPPED then
        ((s.takeSample i ⟨fsn, s.epoch, 0, j.outStruct, p, none⟩ k.lastIn).setJob i fun k => { k with lastIn := some p }).jobKeep i 1
      else s) s

/-! ### Making a frame -/

/-- The structure of the pictures of a crossfeed stream: 4:4:4 at 12 bits (R265 charges 4.5 bytes a pixel). -/
def xfStruct : Nat := 3

/-- The source of a job's destination as it stands at a switch line (R221, R236, R237, R289, R295): the picture and the IFC of a port's frame. -/
def State.jobStill (s : State) (i : Nat) (j : Job) : Src × Nat :=
  let d := 96 + i
  let black := jobBlackIn j
  if s.selKind d = selFRAME then
    match (s.ctx (s.selNum d) j.tln).shown with
    | .frame f => (picSrc f.det.struct (picDims f.pic).1 (picDims f.pic).2 f.pic, f.ifc)
    | _ => (black, 0)
  else if s.selKind d = selARCADE then
    match tfind s.jobs (hIdx (s.selH d)) with
    | some k => (match k.shown with
        | some p => picSrc k.outStruct k.outW k.outH p
        | none => flatSrc k.outW k.outH (blackOf k.outStruct), 0)
    | none => (black, 0)
  else if s.selKind d = selSURFACE then (s.surfSrc (s.surfH (s.selH d)) blackW true, 0)
  else if s.selKind d = selUNDERCOAT ∧ s.selNum d ≠ 1 then (patternSrc j.inW j.inH (s.selNum d) (bitAt j.inXfer 2) blackW, 0)
  else if s.selKind d = selXFEED then
    match s.xfeedOffer (s.selNum d) (s.fsn j.tln) with
    | some (fmt, p) => if fmt = j.inFmt then (picSrc xfStruct (picDims p).1 (picDims p).2 p, 0) else (black, 0)
    | none => (black, 0)
  else (black, 0)

/-- The progressive picture of a sample (R301). -/
def State.sampleSrc (s : State) (j : Job) (x : Sample) : Src :=
  let near := fun (k : Nat) => (j.samples.find? (fun y => y.ifc == k)).map (·.pic)
  if x.field = 0 then picSrc x.struct (picDims x.pic).1 (picDims x.pic).2 x.pic
  else deintSrc x.struct x.field x.pic (near (x.ifc - 1)) (near (x.ifc + 1)) (s.jrd j R.CVA_JOB_CFG2_MOT_LO) (s.jrd j R.CVA_JOB_CFG2_MOT_HI)

/-- The IFC after and before a sample. -/
def Sample.nextIfc (x : Sample) : Nat := if x.field = 1 then x.ifc else x.ifc + 1
/-- The IFC of the sample before. -/
def Sample.prevIfc (x : Sample) : Nat := if x.field = 2 then x.ifc else x.ifc - 1

/-- The IFC of the first sample a mode needs that is missing around position `a` (R293). -/
def missingSample (wide : Bool) (l : List Sample) (a : Nat) (x : Sample) : Option Nat :=
  if wide && a == 0 then some x.prevIfc
  else
    match l[a + 1]? with
    | none => some x.nextIfc
    | some y => if wide && decide (l.length ≤ a + 2) then some y.nextIfc else none

/-- The key of the pair whose later sample this is, one for each field (R307). -/
def Sample.pairKey (x : Sample) : Nat := 4 * x.ifc + x.field

/-- φ between two samples at τ (R292). -/
def phaseAt (tau : Nat) (x y : Sample) : Nat := min 255 (256 * (tau - x.time) / (y.time - x.time))

/-- Record what a frame was made of (CVA.JOB_PICK, JOB_PHASE, MODE_USED, PRIMING). -/
def State.jobShow (s : State) (j : Job) (ifc phi mode : Nat) (priming : Bool) : State :=
  (((s.jwr j R.CVA_JOB_PICK_IFC ifc).jwr j R.CVA_JOB_PHASE_PHI phi).jwr j R.CVA_JOB_STAT_MODE_USED mode).jwr j R.CVA_JOB_STAT_PRIMING (b2n priming)

/-- The fallback state moves with F (R306): the state after, whether the frame is made in fallback. -/
def State.fallbackStep (s : State) (i : Nat) (j : Job) (k f : Nat) : State × Bool :=
  if s.jrd j R.CVA_JOB_STAT_FALLBACK = 0 then
    if s.jrd j R.CVA_JOB_CFG_FRAME_TH < f then
      let s := (s.jwr j R.CVA_JOB_STAT_FALLBACK 1).setJob i fun j => { j with calm := 0, inFallback := 1 }
      (s.jobEvent i j 0 .ok k (s.jrd j R.CVA_JOB_CFG2_FB_MODE), true)
    else (s, false)
  else
    let calm := if 2 * f ≤ s.jrd j R.CVA_JOB_CFG_FRAME_TH then j.calm + 1 else 0
    if s.jrd j R.CVA_JOB_CFG_FB_HOLD ≤ calm ∧ 0 < calm then
      let s := (s.jwr j R.CVA_JOB_STAT_FALLBACK 0).setJob i fun j => { j with calm := 0, inFallback := 0 }
      (s.jobEvent i j 1 .ok k j.inFallback, false)
    else (s.setJob i fun j => { j with calm := calm, inFallback := j.inFallback + 1 }, true)

/-- The decision of an MCFRC frame between a pair of samples with later sample `y` (R306, R307): 0 motion, 1 NEAREST, 2 BLEND. A pair that has once
counted as a cut stays one at every φ, and CUT is raised once for it; `told` is the cut flag of a record in its place (R315). NEAREST across a cut
stands before FORCE; the fallback state moves with F on a cut too, but does not enter FALLBACK. -/
def State.motionMode (s : State) (i : Nat) (j : Job) (k : Nat) (y : Sample) (f : Nat) (told : Option Bool) : State × Nat :=
  let s := s.jwr j R.CVA_JOB_PHASE_FLOW f
  let force := s.jrd j R.CVA_JOB_STAT_FORCE_LIVE
  let cut := told.getD (decide (s.jrd j R.CVA_JOB_CFG_CUT_TH < f) || j.cutAt == some y.pairKey)
  let s := if cut ∧ j.cutAt ≠ some y.pairKey then (s.setJob i fun j => { j with cutAt := some y.pairKey }).jobEvent i j 2 .ok k y.ifc else s
  if cut then (if force = 0 ∧ s.jrd j R.CVA_JOB_STAT_FALLBACK ≠ 0 then (s.fallbackStep i j k f).1 else s, 1)
  else if force = 1 ∨ force = 2 then (s, force)
  else
    let r := s.fallbackStep i j k f
    if r.2 then (r.1.addSat R.CVA_CNT_FALLBACK_COUNT j.head j.slot 1, if s.jrd j R.CVA_JOB_CFG2_FB_MODE = 1 then 1 else 2) else (r.1, 0)

/-- The picture of a frame made in time from the samples (R292, R293, R306, R307). -/
def State.jobInTime (s : State) (i : Nat) (j : Job) (k : Nat) (l : List Sample) : State × Src :=
  let tau := s.tau j 1
  match findA l tau with
  | none =>
    let s := (s.jobShow j 0 0 1 true).addSat R.CVA_CNT_LATE_IN_COUNT j.head j.slot 1
    match l.head? with
    | none => (s.jobEvent i j 4 .ok k 0, jobBlackIn j)
    | some x => ((s.jobEvent i j 4 .ok k x.prevIfc).jwr j R.CVA_JOB_PICK_IFC x.ifc, s.sampleSrc j x)
  | some a =>
    match l[a]? with
    | none => (s, jobBlackIn j)
    | some x =>
      let y := l[a + 1]?
      let phi := match y with | some y => phaseAt tau x y | none => 0
      let s := s.setJob i fun j => { j with lastA := some x }
      let sx := s.sampleSrc j x
      let sy := match y with | some y => s.sampleSrc j y | none => sx
      let nearest := if phi < 128 then sx else sy
      match missingSample j.wide l a x with
      | some m =>
        let s := (s.addSat R.CVA_CNT_LATE_IN_COUNT j.head j.slot 1).jobEvent i j 4 .ok k m
        (s.jobShow j x.ifc phi (if phi = 0 ∧ y.isSome then 3 else 1) true, nearest)
      | none =>
        if j.frc = 3 then
          let used := ((l.drop (if j.wide then a - 1 else a)).take (if j.wide then 4 else 2)).map (fun z => (z.field, z.pic))
          let th := s.jrd j R.CVA_JOB_CFG_BLK_TH
          let f := lowFraction used j.quality th phi sx sy
          let r := s.motionMode i j k (y.getD x) f none
          if phi = 0 then (r.1.jobShow j x.ifc 0 3 false, sx)
          else
            (r.1.jobShow j x.ifc phi r.2 false,
              if r.2 = 1 then nearest else if r.2 = 2 then blendSrc phi sx sy else motionSrc used j.quality th phi sx sy)
        else if phi = 0 then (s.jobShow j x.ifc 0 3 false, sx)
        else if j.frc = 1 then (s.jobShow j x.ifc phi 1 false, nearest)
        else (s.jobShow j x.ifc phi 2 false, blendSrc phi sx sy)

/-- What the sequential reader gives while its port is in loss (R294). -/
def State.jobLoss (s : State) (j : Job) (n : Nat) : Src :=
  if s.rd R.INP_LOSS_POLICY n = 0 ∧ !s.freezeOver n then
    match j.lastA with
    | some x => s.sampleSrc j x
    | none => jobBlackIn j
  else jobBlackIn j

/-- The signature of a sample (R582). -/
def Sample.sig (x : Sample) : Nat := frameSig x.struct x.pic

/-- The number by which a job's reader knows the sample a record names: a port's frames by the map of R583, a job's by their FSN. -/
def State.arcNum (s : State) (d ifc : Nat) : Nat := if s.selKind d = selFRAME then s.localNum (s.selNum d) ifc % 2 ^ 32 else ifc

/-- Where the record's sample a stands among the samples of its number (R315): with DEINT both fields of a frame have it, and the one is taken whose
time at the record's φ lies nearest to τ (assumption 166). -/
def arcHit (l : List Sample) (k phi tau : Nat) : Option Nat :=
  let far := fun (n : Nat) => match l[n]?, l[n + 1]? with
    | some x, some y => ((x.time : Int) + (phi : Int) * ((y.time : Int) - x.time) / 256 - tau).natAbs
    | some x, none => ((x.time : Int) - tau).natAbs
    | _, _ => 0
  (((upFrom 0 l.length).filter (fun n => (l[n]?).any (fun x => x.ifc == k))).mergeSort (fun a b => decide (far a ≤ far b))).head?

/-- The picture of a frame made as an ARC record says (R315, R584): sample a, φ, the mode used, cut flag and cadence state are the primary's. Vectors and
block confidences are this card's own, and with them F, on which the fallback state and its events move (R306). -/
def State.jobFollow (s : State) (i fsn : Nat) (j : Job) (ifc sig phi mode : Nat) (cut : Bool) (cadence : Nat) : State × Src :=
  let d := 96 + i
  let k := s.arcNum d ifc
  let s := if s.jrd j R.CVA_JOB_STAT_CADENCE = cadence then s else (s.jwr j R.CVA_JOB_STAT_CADENCE cadence).jobEvent i j 3 .ok fsn cadence
  let l := s.stored j d
  let hit := arcHit l k phi (s.tau j 1)
  let s := match hit.bind (fun a => l[a]?) with
    | some x => if x.sig = sig then s else s.sigDiff (s.selNum d)
    | none => if l = [] ∧ ifc = 0 then s else s.decMiss (s.selNum d) (l.any (fun x => decide (k < x.ifc)))
  let below := l.findIdx? (fun x => decide (k ≤ x.ifc))
  let a := match hit with
    | some a => some a
    | none => (match below with | some (b + 1) => some b | some 0 => none | none => if l = [] then none else some (l.length - 1))
  match a.bind (fun a => (l[a]?).map (fun x => (a, x))) with
  | none => (s.jobShow j 0 0 3 true, jobBlackIn j)
  | some (a, x) =>
    let y := (l[a + 1]?).getD x
    let s := s.setJob i fun j => { j with lastA := some x }
    let sx := s.sampleSrc j x
    let sy := s.sampleSrc j y
    let used := ((l.drop (if j.wide then a - 1 else a)).take (if j.wide then 4 else 2)).map (fun z => (z.field, z.pic))
    let th := s.jrd j R.CVA_JOB_CFG_BLK_TH
    let s := if j.frc = 3 ∧ (missingSample j.wide l a x).isNone then (s.motionMode i j fsn y (lowFraction used j.quality th phi sx sy) (some cut)).1 else s
    (s.jobShow j x.ifc phi mode false,
      if mode = 0 then motionSrc used j.quality th phi sx sy
      else if mode = 2 then blendSrc phi sx sy
      else if mode = 1 ∧ 128 ≤ phi then sy else sx)

/-- The record of a job's output frame `k` (R582). -/
def State.arcRec (s : State) (i k : Nat) (j : Job) : Option DetRec :=
  if s.follows then s.recFor (fun r => r.tln == j.tln && r.fsn == k && (match r.body with | .arc n _ _ _ _ _ _ => n == i | _ => false)) else none

/-- The record a primary sends of a job's output frame (R582). -/
def State.arcSend (s : State) (i k : Nat) (j : Job) (l : List Sample) : State :=
  let ifc := s.jrd j R.CVA_JOB_PICK_IFC
  let sig := match l.find? (fun x => x.ifc == ifc) with | some x => x.sig | none => 0
  let a := l.findIdx? (fun x => (tfind s.jobs i).any (fun j' => j'.lastA == some x))
  let cut := match tfind s.jobs i, a.bind (fun n => l[n + 1]?) with | some j', some y => j'.cutAt == some y.pairKey | _, _ => false
  s.sendDet j.tln k (.arc i ifc sig (s.jrd j R.CVA_JOB_PHASE_PHI) (s.jrd j R.CVA_JOB_STAT_MODE_USED) cut (s.jrd j R.CVA_JOB_STAT_CADENCE))

/-- The picture of a frame of a job with a sequential reader: the primary's decisions where this card follows one, else its own (R289, R294, R315). -/
def State.jobTimed (s : State) (i k : Nat) (j : Job) (d : Nat) : State × Src :=
  let l := s.stored j d
  match s.arcRec i k j with
  | some r =>
    (match r.body with
     | .arc _ ifc sig phi mode cut cad => (s.recUse r).jobFollow i k j ifc sig phi mode cut cad
     | _ => (s, jobBlackIn j))
  | none =>
    let r : State × Src :=
      if s.selKind d = selFRAME ∧ s.inLoss (s.selNum d) then
        (s.jobShow j (match j.lastA with | some x => x.ifc | none => 0) 0 3 (s.jrd j R.CVA_JOB_STAT_PRIMING == 1), s.jobLoss j (s.selNum d))
      else s.jobInTime i j k l
    (r.1.arcSend i k j l, r.2)

/-- The output frame for FSN `k` begins (R284, R289, R293, R296); pixels whose read met an uncorrectable error are black (R55). -/
def State.jobBegin (s : State) (i k : Nat) : State :=
  match tfind s.jobs i with
  | none => s
  | some j =>
    let d := 96 + i
    let r : State × Src :=
      if j.frc ≠ 0 ∧ (s.selKind d = selFRAME ∨ s.selKind d = selARCADE) then s.jobTimed i k j d
      else (s.jobShow j (s.jobStill i j).2 0 3 false, (s.jobStill i j).1)
    let bad := tget [] r.1.eccPix (1000 + i)
    let s : State := { r.1.readFixed with eccPix := tdel r.1.eccPix (1000 + i) }
    let r : State × Src := (s, ⟨r.2.w, r.2.h, fun x y => if bad.contains (x, y) then blackOf j.inStruct else r.2.pix x y⟩)
    let s := if sizeHeld j r.2.w r.2.h ∧ !j.sizeTold then
        (s.setJob i fun j => { j with sizeTold := true }).jobEvent i j 6 .ok k (r.2.w * 65536 + r.2.h)
      else s
    (s.setJob i fun j => { j with making := some (k, jobOutput j r.2) }).jobKeep i 2

/-- The output frame in progress is published at a switch line (R284, R297). -/
def State.jobPublish (s : State) (i : Nat) : State :=
  match tfind s.jobs i with
  | none => s
  | some j =>
    if j.faulted then s.setJob i fun j => { j with shown := none, making := none }
    else
      match j.making with
      | none => s.jobEvent i j 8 .ok ((s.fsn j.tln + 2 ^ 32 - 1) % 2 ^ 32) (s.jrd j R.CVA_JOB_OFSN_FSN)
      | some (k, p) =>
        let s := (s.setJob i fun j => { j with shown := some p, making := none }).jwr j R.CVA_JOB_OFSN_FSN k
        s.jobFeeds i k j p

/-- A job publishes at a switch line of its timeline (R284): a running one; a stopping one, which then stops. -/
def State.jobPublishLine (s : State) (i : Nat) : State :=
  match tfind s.jobs i with
  | none => s
  | some j =>
    if s.jobLc j = lcRUNNING then s.jobPublish i
    else if s.jobLc j = lcSTOPPING then (s.jobPublish i).jobStopped i j
    else s

/-- A job begins the frame for FSN `k` at a switch line of its timeline (R284): an armed one its first, a running one its next. -/
def State.jobBeginLine (s : State) (k i : Nat) : State :=
  match tfind s.jobs i with
  | none => s
  | some j =>
    if s.jobLc j = lcARMED then ((s.jwr j R.CVA_JOB_STAT_LC_STATE lcRUNNING).jwr j R.CVA_JOB_STAT_PRIMING (b2n (j.frc != 0))).jobBegin i k
    else if s.jobLc j = lcRUNNING then s.jobBegin i k
    else s

/-- The jobs of a timeline at its switch line: every one publishes before any begins, so that a job that reads another has its latest frame (R289). -/
def State.jobLines (s : State) (t k : Nat) : State :=
  let js := (s.jobs.filter (fun e => e.2.tln == t)).map (·.1)
  js.foldl (fun s i => s.jobBeginLine k i) (js.foldl State.jobPublishLine s)

/-! ### The completion of an input frame -/

/-- The last active line of an input frame: detection and publication, and the readers of jobs take the frame (R207, R208, R290). -/
def inputFrameComplete (n : Nat) (s : State) : State :=
  let before := (s.port n).ifcN
  let s := inputFrameDone n s
  if (s.port n).ifcN = before then s
  else
    match s.frameAt n (s.port n).ifcN with
    | none => s
    | some f => (s.jobs.map (·.1)).foldl (fun s i => s.jobTakesFrame n i f) s

/-- INPUT_FRAME_COMPLETE. -/
def execInputFrameComplete (n : Nat) (s : State) : Res := .next (inputFrameComplete n s)
/-- JOB_CREATE. -/
def execJobCreate (f : Nat) (payload : List Nat) (bank : List (Nat × Nat)) (s : State) : Res := .next (jobCreate f payload bank s)
/-- JOB_START. -/
def execJobStart (p engine slot : Nat) (s : State) : Res := .next (s.regRec (jobLcAddr engine slot) 1 (jobStart p engine slot s))
/-- JOB_STOP. -/
def execJobStop (p engine slot : Nat) (s : State) : Res := .next (s.regRec (jobLcAddr engine slot) 2 (jobStop p engine slot s))
/-- ENGINE_LOCAL_STORE_FAULT. -/
def execEngineLocalStoreFault (engine addr : Nat) (s : State) : Res := .next (engineLocalStoreFault engine addr s)

end Sys2Proof.Machine
end

