-- ==== Sys2Proof/Machine/Audio.lean ====
section
/-! DEFINITION. The audio unit: groups and the ASRC (R387 to R392), non-PCM pairs (R404, R405), routes (R394 to R399, R406), insert and tap slots
(R407 to R409), embedding (R401 to R403), the shuffle-buffer error (R410). -/

namespace Sys2Proof.Machine

open Sys2Proof

/-! ### Groups (R385, R387) -/

/-- The audio channels a port's signal carries (R385). -/
def State.inCapacity (s : State) (n : Nat) : Nat := if s.sdiRate n ≤ 3 then 16 else 32
/-- The audio channels a pipeline's signal carries (R385). -/
def State.outCapacity (s : State) (n : Nat) : Nat :=
  let r := rateFor (s.rd R.OUT_TMG_FMT_FMT n) (s.pipeStruct n)
  if r = 0 then 0 else if r ≤ 3 then 16 else 32

/-- Whether group `g` of port `n` is de-embedded: the unit and the port run, the group is enabled and within
the capacity (R67, R385, R387). -/
def State.groupLive (s : State) (n g : Nat) : Bool :=
  s.audioRuns && decide (n < s.lanes) && decide (g < 8) && (s.rd R.INP_STAT_LC_STATE n == lcRUNNING) && bitAt (s.rd R.AUD_IN_CFG_GRP_EN n) g
    && decide (4 * g < s.inCapacity n)

/-- A group's rate is wrong: hold-and-decay, which begins where samples were written and goes on where it has begun; GRP_RATE (R387). -/
def State.grpRateFault (s : State) (n g : Nat) : State :=
  let was := s.grpState n g
  ((s.wrk R.AUD_GRP_STAT_STATE n g gFAULT).setGrp n g fun x => { x with decay := if was = gLOCKED then some 0 else x.decay, posOld := none }).audEvent n 2
    (g * 65536 + s.rdk R.AUD_GRP_STAT_RATE_OFS n g)

/-- The number that the input frame being received has at a port, or would have if it were published: the raw samples of a non-PCM pair are kept by it
(R405). -/
def State.rawKey (s : State) (n : Nat) : Nat :=
  let x := s.port n
  if !x.seen && x.frames.getLast?.any (fun f => decide (x.line1 ≤ f.done)) then x.ifcN else x.ifcN + 1

/-- The word size of the ST 337 burst whose preamble the two samples of a pair hold, in the 16-, 20- and 24-bit modes (R404). PRESUMED (assumption 169):
the words of the preamble. -/
def preambleMode (x : List Int) (pair : Nat) : Option Nat :=
  let a := twos 24 (x.getD (2 * pair) 0)
  let b := twos 24 (x.getD (2 * pair + 1) 0)
  if a / 256 = 0xF872 ∧ b / 256 = 0x4E1F then some 16
  else if a / 16 = 0x6F872 ∧ b / 16 = 0x54E1F then some 20
  else if a = 0x96F872 ∧ b = 0xA54E1F then some 24
  else none

/-- The sample frames that a burst with words of `mode` bits takes, from its preamble on: the sample frame after the preamble holds its length code, the
payload's bits (R406). PRESUMED (assumption 169). -/
def burstFrames (mode : Nat) (x : List Int) (pair : Nat) : Nat :=
  2 + ceilDiv (twos 24 (x.getD (2 * pair + 1) 0) / 2 ^ (24 - mode)) (2 * mode)

/-- A pair of which no preamble has come. -/
def NpDet.reset : NpDet := ⟨false, 0, none, none⟩
/-- What is known of the preambles of a pair. -/
def GrpX.pairDet (x : GrpX) (pair : Nat) : NpDet := tget NpDet.reset x.det pair

/-- The preambles of a sample frame enter what is known of the pairs (R404). -/
def GrpX.detect (y : GrpX) (x : SrcSmp) : GrpX :=
  (upFrom 0 2).foldl (fun (y : GrpX) j =>
    if (preambleMode x.smp j).isSome then { y with det := tput y.det j { y.pairDet j with seen := true, last := some x.time } } else y) y

/-- An audio data packet of a group (R387, R389, R404): its samples, 24-bit, or 20-bit with the four low bits at 0 (R384). -/
def audioPacketReceived (n g time : Nat) (smp : List Int) (wide : Bool) (otherRate : Bool) (s : State) : State :=
  if !s.groupLive n g then s
  else
    let x : SrcSmp := ⟨time, (upFrom 0 4).map (fun c => sat24 (if wide then smp.getD c 0 else smp.getD c 0 * 16))⟩
    let k := s.rawKey n
    let s := s.setGrp n g fun y =>
      { y.detect x with src := (x :: y.src).take 50000, srcN := y.srcN + 1,
                        raw := (tput y.raw k (x :: tget [] y.raw k)).filter (fun e => decide (k < e.1 + 32)) }
    if s.modeCode = mMIRROR then s
    else if s.grpState n g = gOFF then s.wrk R.AUD_GRP_STAT_STATE n g gACQUIRE
    else if otherRate ∧ (s.grpState n g = gACQUIRE ∨ s.grpState n g = gLOCKED) then s.grpRateFault n g
    else s

/-- The clamp of a lip-sync target (R390). -/
def clampDa (t : Nat) : Nat := clampNat 1000000 1000000000 t

/-- The lip-sync state of a port. -/
def State.lip (s : State) (n : Nat) : LipX := tget ⟨1000000, 1000000, 0, 1000, none, false⟩ s.lipX n

/-- T before the clamp (R390): under FOLLOW it keeps its value until there is a Dv. -/
def State.lipRaw (s : State) (n : Nat) : Nat :=
  if s.rd R.AUD_IN_CFG_LS_MODE n = 0 then s.rd R.AUD_IN_FIXED_LS_FIXED_US n * 1000 else (s.lip n).dv.getD (s.lip n).rawT

/-- The position of source time `t` in a group: among the stamped samples, times 2^32 (R389). -/
def srcPos (x : GrpX) (t : Int) : Nat :=
  match x.src.findIdx? (fun e => decide ((e.time : Int) ≤ t)) with
  | none => (x.srcN - x.src.length) * 2 ^ 32
  | some k =>
    let i := x.srcN - 1 - k
    match x.src[k]?, (if k = 0 then none else x.src[k - 1]?) with
    | some a, some b => i * 2 ^ 32 + ((t - (a.time : Int)).toNat * 2 ^ 32) / max 1 (b.time - a.time)
    | _, _ => i * 2 ^ 32

/-- 100 ms of packets have been measured: the rate against 48 kHz in 0.1 ppm (R387). -/
def groupRateWindow (n g : Nat) (ofs : Int) (s : State) : State :=
  if !s.groupLive n g ∨ s.grpState n g = gOFF ∨ s.modeCode = mMIRROR then s
  else
    let s := s.wrk R.AUD_GRP_STAT_RATE_OFS n g (twos 16 (clampInt (-32768) 32767 ofs))
    let good := decide (ofs.natAbs ≤ 10000)
    if s.grpState n g = gFAULT then (if good then s.wrk R.AUD_GRP_STAT_STATE n g gACQUIRE else s)
    else if !good then s.grpRateFault n g
    else if s.grpState n g = gACQUIRE then
      let da := clampDa (s.lipRaw n)
      let t := s.gridTime s.grid - (da : Int)
      let s := (s.wr R.AUD_IN_DA_NS n da).setGrp n g fun x => { x with posA := srcPos x t, posOld := none, ratio := 2 ^ 32, ramp := 0, decay := none }
      (s.wrk R.AUD_GRP_STAT_STATE n g gLOCKED).audEvent n 0 g
    else s

/-- No data packet of a group for 4 ms (R387). -/
def groupPacketTimeout (n g : Nat) (s : State) : State := if s.modeCode = mMIRROR then s else s.grpLoss n g

/-! ### Non-PCM bits (R404) -/

/-- Whether a source channel belongs to a non-PCM pair; insert channels are always PCM (R404). -/
def State.isNpcm (s : State) (src : Nat) : Bool :=
  decide (src < 3072) && bitAt (s.rdk R.AUD_GRP_STAT_NPCM (src / 32) (src % 32 / 4)) (src % 4 / 2)

/-- RT_STAT.NPCM of the routes whose live source is in a pair. -/
def State.npcmShow (s : State) : State :=
  (s.routeX.map (·.1)).foldl (fun s r => s.wr R.AUD_RT_STAT_NPCM r (b2n (s.isNpcm (s.rd R.AUD_RT_MAP_LIVE_SRC r) && s.rd R.AUD_RT_MAP_LIVE_DST r != 0xFFF))) s

/-- The non-PCM bits of a group change: NPCM_CHANGE for each pair that does, and the routes show it (R404). -/
def State.setNpcm (s : State) (n g v : Nat) : State :=
  let old := s.rdk R.AUD_GRP_STAT_NPCM n g
  if v = old then s
  else
    ((upFrom 0 2).foldl (fun s j =>
      if bitAt v j = bitAt old j then s else s.audEvent n 4 (g * 16 + j * 2 + b2n (bitAt v j))) (s.wrk R.AUD_GRP_STAT_NPCM n g v)).npcmShow

/-! ### The ASRC (R389 to R392) -/

/-- A change of the read position with a crossfade of 240 samples (R392). -/
def State.grpJump (s : State) (n g da : Nat) : State :=
  let t := s.gridTime s.grid - (da : Int)
  s.setGrp n g fun x => { x with posOld := some (x.posA, 0), posA := srcPos x t }

/-- RATIO of a group for the block that begins (R389): it takes A in 48 grid samples to the source time of the next block's grid time less Da. How the
quotient is rounded is a free value (assumption 170). -/
def State.grpRatio (s : State) (n g : Nat) : State :=
  if s.grpState n g = gLOCKED then
    let x := s.grp n g
    let r := (srcPos x (s.gridTime (s.grid + 48) - (s.rd R.AUD_IN_DA_NS n : Int)) - x.posA) / 48 + Config.asrcRatio s.free % 2
    (s.drawn.setGrp n g fun x => { x with ratio := r }).wrk R.AUD_GRP_RATIO_RATIO n g r
  else s

/-- A group takes its state, RATIO and non-PCM bits from a record of the primary's (R411); `jump` says that Da jumped to `da` in this block. -/
def State.asrcApply (s : State) (n g st ratio da npcm : Nat) (jump : Bool) : State :=
  let old := s.grpState n g
  let t := s.gridTime s.grid - (da : Int)
  let s :=
    if st = gLOCKED ∧ old ≠ gLOCKED then
      ((s.setGrp n g fun x => { x with posA := srcPos x t, posOld := none, ramp := 0, decay := none }).wrk R.AUD_GRP_STAT_STATE n g gLOCKED).audEvent n 0 g
    else if st = gLOCKED then (if jump then s.grpJump n g da else s)
    else if st = gFAULT then (if old = gFAULT then s else s.grpRateFault n g)
    else if st = gOFF then (if old = gLOCKED then s.grpLoss n g else s.wrk R.AUD_GRP_STAT_STATE n g gOFF)
    else s.wrk R.AUD_GRP_STAT_STATE n g st
  ((s.setGrp n g fun x => { x with ratio := ratio }).wrk R.AUD_GRP_RATIO_RATIO n g ratio).setNpcm n g npcm

/-- The Da that the records of a block give a port (R582). -/
def State.daTold (s : State) (n k : Nat) : Option Nat :=
  s.recs.findSome? fun r => if r.fsn = k then (match r.body with | .asrc p _ _ _ da _ => if p = n then some da else none | _ => none) else none

/-- A port takes Da from the primary's (R411): a step of more than the slew, or at a change of LS_MODE or LS_FIXED_US, is a jump (R392); the answer says
whether it is one. -/
def State.daFollow (s : State) (n da : Nat) : State × Bool :=
  let l := s.lip n
  let raw := s.lipRaw n
  let mode := s.rd R.AUD_IN_CFG_LS_MODE n
  let fixed := s.rd R.AUD_IN_FIXED_LS_FIXED_US n
  let jump := l.ran && (decide (s.rd R.AUD_IN_CFG_LS_SLEW_PPM n < ((da : Int) - (s.rd R.AUD_IN_DA_NS n : Int)).natAbs) || l.mode != mode || l.fixed != fixed)
  let s : State := { s with lipX := tput s.lipX n { l with target := clampDa raw, rawT := raw, mode := mode, fixed := fixed, ran := true } }
  let s := s.wr R.AUD_IN_DA_NS n da
  let s := if raw ≠ clampDa raw ∧ raw ≠ l.rawT then s.audEvent n 3 (2 * 2 ^ 30 + da / 1000) else s
  (if jump then s.audEvent n 3 (2 ^ 30 + da / 1000) else s, jump)

/-- The records of a port's groups for the block in progress (R411, R582); a group without one is OFF on the primary. -/
def State.asrcFollow (s : State) (n : Nat) : State :=
  let k := s.grid / 48 % 2 ^ 32
  if !s.recs.any (fun r => r.fsn == k && (match r.body with | .asrc _ _ _ _ _ _ => true | _ => false)) then s
  else
    let a := match s.daTold n k with | some da => s.daFollow n da | none => (s, false)
    (upFrom 0 8).foldl (fun s g =>
      match s.recFor (fun r => r.fsn == k && (match r.body with | .asrc p h _ _ _ _ => p == n && h == g | _ => false)) with
      | some r =>
        (match r.body with
         | .asrc _ _ st ratio da npcm => (s.recUse r).asrcApply n g st ratio da npcm a.2
         | _ => s)
      | none => s.asrcApply n g gOFF (s.grp n g).ratio (s.rd R.AUD_IN_DA_NS n) (s.rdk R.AUD_GRP_STAT_NPCM n g) false) a.1

/-- The records a primary sends of a port's groups (R582). -/
def State.asrcSend (s : State) (n : Nat) : State :=
  (upFrom 0 8).foldl (fun s g =>
    if s.grpState n g = gOFF then s
    else s.sendDet 0 (s.grid / 48 % 2 ^ 32)
      (.asrc n g (s.grpState n g) (s.grp n g).ratio (s.rd R.AUD_IN_DA_NS n) (s.rdk R.AUD_GRP_STAT_NPCM n g))) s

/-- The 1 ms block of a port's ASRCs, which begins at a grid index that is a multiple of 48 (R389 to R392). In MIRROR the values come from the
determinism stream (R411). -/
def asrcBlock (n : Nat) (s : State) : State :=
  if s.lanes ≤ n ∨ !s.audioRuns ∨ s.grid % 48 ≠ 0 then s
  else if s.modeCode = mMIRROR then s.asrcFollow n
  else
    let s := s.readFixed
    let l := s.lip n
    let raw := s.lipRaw n
    let t := clampDa raw
    let mode := s.rd R.AUD_IN_CFG_LS_MODE n
    let fixed := s.rd R.AUD_IN_FIXED_LS_FIXED_US n
    let da := s.rd R.AUD_IN_DA_NS n
    let slew := s.rd R.AUD_IN_CFG_LS_SLEW_PPM n
    let far := decide (periodNs (fmtD (s.rd R.REF_TLN_CFG_FMT (s.rd R.AUD_IN_CFG_LS_TLN n))) < ((t : Int) - (da : Int)).natAbs) && t != l.target
    let jump := l.ran && (far || l.mode != mode || l.fixed != fixed)
    let da' := if jump then t else if da ≤ t then min t (da + slew) else max t (da - slew)
    let s := { s with lipX := tput s.lipX n ⟨t, raw, mode, fixed, l.dv, true⟩ }
    let s := s.wr R.AUD_IN_DA_NS n da'
    let s := if raw ≠ t ∧ raw ≠ l.rawT then s.audEvent n 3 (2 * 2 ^ 30 + da' / 1000) else s
    let s := if jump then ((upFrom 0 8).foldl (fun s g => if s.grpState n g = gLOCKED then s.grpJump n g da' else s) s).audEvent n 3 (2 ^ 30 + da' / 1000) else s
    ((upFrom 0 8).foldl (fun s g => s.grpRatio n g) s).asrcSend n

/-- Dv at a decision of the context on LS_TLN (R390). -/
def State.lipDecision (s : State) (n t now : Nat) : State :=
  if s.rd R.AUD_IN_CFG_LS_TLN n = t ∧ s.rd R.AUD_IN_CFG_LS_MODE n = 1 ∧ s.ctxActive n t ∧ !s.inLoss n then
    match (s.ctx n t).shown with
    | .frame f =>
      let fm := fmtD (s.rd R.REF_TLN_CFG_FMT t)
      let dv := now - f.done + (lastActive fm - fm.sw) * 1000000000 * fm.den / (fm.num * fm.lines)
      { s with lipX := tput s.lipX n { s.lip n with dv := some dv } }.wr R.AUD_IN_DV_NS n (min dv 0xFFFFFFFE)
    | _ => s
  else s

/-! ### Non-PCM pairs (R404) -/

/-- Whether what is known of a pair's preambles asks for a change (R404): on, two frames of LS_TLN in a row with one; off, 100 ms without one. -/
def State.npcmDue (s : State) (n g pair : Nat) (on' : Bool) : Bool :=
  let d := (s.grp n g).pairDet pair
  bitAt (s.rdk R.AUD_GRP_STAT_NPCM n g) pair != on'
    && if on' then decide (2 ≤ d.run + b2n d.seen) else d.last.all (fun t => decide (t + 100000000 ≤ s.epoch))

/-- The preambles of a pair, or their absence, make it non-PCM, or PCM again, from the next audio frame of LS_TLN (R404). In MIRROR the decision comes
from the determinism stream (R411). -/
def npcmChange (n g pair : Nat) (on' : Bool) (s : State) : State :=
  if !s.groupLive n g ∨ 2 ≤ pair ∨ !s.npcmDue n g pair on' ∨ s.modeCode = mMIRROR then s
  else s.setGrp n g fun x => { x with det := tput x.det pair { x.pairDet pair with next := some on' } }

/-- The bits of a group with what is decided for its pairs. -/
def npcmNext (x : GrpX) (v : Nat) : Nat :=
  (upFrom 0 2).foldl (fun v j => match (x.pairDet j).next with
    | some true => setBit v j
    | some false => v - b2n (bitAt v j) * 2 ^ j
    | none => v) v

/-- An audio frame of LS_TLN begins for a port: the changes decided take effect, and the preambles of the frame that ended are counted (R404). -/
def State.npcmFrame (s : State) (n : Nat) : State :=
  if s.modeCode = mMIRROR then s
  else
    (upFrom 0 8).foldl (fun s g =>
      let x := s.grp n g
      if x.det.isEmpty then s
      else
        (s.setGrp n g fun x => { x with det := x.det.map (fun (e : Nat × NpDet) =>
          (e.1, { e.2 with seen := false, run := if e.2.seen then e.2.run + 1 else 0, next := none })) }).setNpcm n g
            (npcmNext x (s.rdk R.AUD_GRP_STAT_NPCM n g))) s

/-! ### Frames of non-PCM pairs (R405) -/

/-- A history frame of a non-PCM group (R405): the raw samples of the input frame picked, padded with zeros or truncated to the count. -/
def npFrame (raw : List SrcSmp) (count : Nat) : List SrcSmp :=
  raw.reverse.take count ++ List.replicate (count - raw.length) ⟨0, [0, 0, 0, 0]⟩

/-- The frames of a port's non-PCM pairs at a switch line of LS_TLN (R405), from grid sample `g0`: `picked` is the IFC picked, none for a repeat or no
frame. -/
def State.npFrames (s : State) (n fsn g0 count : Nat) (picked : Option Nat) : State :=
  (upFrom 0 8).foldl (fun s g =>
    (upFrom 0 2).foldl (fun s j =>
      if bitAt (s.rdk R.AUD_GRP_STAT_NPCM n g) j then
        let raw := match picked with | some k => tget [] (s.grp n g).raw k | none => []
        let key := 16 * n + 2 * g + j
        { s with npHist := tput s.npHist key ((⟨fsn, g0, npFrame raw count⟩ :: tget [] s.npHist key).take 242) }
      else s) s) s

/-! ### Routes (R394 to R399, R406) -/

/-- The timeline of an audio destination: its pipeline's, or that of its tap slot (R395). -/
def State.audTln (s : State) (d : Nat) : Nat :=
  if d < 3072 then s.rd R.OUT_TMG_FMT_TLN (s.governor (d / 32)) else s.rd R.AUD_TAP_CFG_TLN ((d - 3072) / 8)
/-- The key of the audio frame a destination is in. -/
def State.audFrameKey (s : State) (d : Nat) : Nat := if d < 3072 then d / 32 else 200 + s.audTln d
/-- The audio frame a destination is in. -/
def State.audFrame (s : State) (d : Nat) : AFrame := tget AFrame.reset s.aFrames (s.audFrameKey d)

/-- The path the live registers of a route name. -/
def State.livePath (s : State) (r : Nat) : APath :=
  ⟨s.rd R.AUD_RT_MAP_LIVE_SRC r, s.rd R.AUD_RT_DELAY_LIVE_DELAY r, gainMul (s.on R.AUD_RT_GAIN_LIVE_MUTE r) (s.rd R.AUD_RT_GAIN_LIVE_GAIN r),
    s.on R.AUD_RT_GAIN_LIVE_MUTE r⟩

/-- The sample frame of a non-PCM path at the current grid sample (R405): none where it gives zeros. -/
def State.npSample (s : State) (d : Nat) (p : APath) : Option SrcSmp :=
  let n := p.src / 32
  let pair := p.src % 32 / 2
  let t := s.audTln d
  let f := fmtD (s.rd R.REF_TLN_CFG_FMT t)
  if t ≠ s.rd R.AUD_IN_CFG_LS_TLN n ∨ p.mute then none
  else
    let fsn := ((s.audFrame d).fsn + 2 ^ 32 - p.delay * f.num / (48000 * f.den)) % 2 ^ 32
    ((tget [] s.npHist (16 * n + pair)).find? (fun e => e.fsn == fsn)).bind fun e => e.smp[(s.audFrame d).idx]?

/-- The sample of a path at the current grid sample with multiplier `m` (R398, R405). -/
def State.pathSample (s : State) (d : Nat) (p : APath) (m : Int) : Int :=
  if s.isNpcm p.src then ((s.npSample d p).map (fun x => x.smp.getD (p.src % 4) 0)).getD 0
  else gained (if s.grid < p.delay then 0 else s.histGet p.src (s.grid - p.delay)) m

/-- The word size of the burst whose preamble is the current sample frame of a path. -/
def State.pathPre (s : State) (d : Nat) (p : APath) : Option Nat :=
  if s.isNpcm p.src then (s.npSample d p).bind (fun x => preambleMode x.smp (p.src % 4 / 2)) else none

/-- What a path sends of a burst (R406): the samples left of it after the current one, and the word size where the next one holds its length code. -/
def State.burstStep (s : State) (d : Nat) (p : APath) (x : RouteX) : Nat × Option Nat :=
  match s.pathPre d p, x.pre with
  | some m, _ => (1, some m)
  | none, some m => ((((s.npSample d p).map (fun y => burstFrames m y.smp (p.src % 4 / 2))).getD 2) - 2, none)
  | none, none => (x.burst - 1, none)

/-- A guard-band change whose old burst has not ended when the switched frame does is cut there (R406). -/
def RouteX.cut (x : RouteX) : RouteX := if x.gb = 1 then { x with gb := 2, old := none, xi := 0, burst := 0, pre := none } else x

/-- A route at the start of an audio frame of its destination `d` (R397, R399, R403, R406): what went live takes effect at sample 0. -/
def State.routeFrame (s : State) (d r : Nat) : State :=
  match tfind s.routeX r with
  | none => s
  | some x =>
    let live := s.rd R.AUD_RT_MAP_LIVE_DST r
    let p := s.livePath r
    let set := fun (s : State) (y : RouteX) => { s with routeX := tput s.routeX r y }
    if live = d ∧ x.dst ≠ d then
      set s ⟨d, p, none, 0, p.m, 240, if s.isNpcm p.src then 2 else 0, 0, none⟩
    else if live = d then
      let s := if x.gb = 1 ∧ x.burst ≠ 0 then s.raise evART r 0 1 kRoute r .ok (s.fsn (s.audTln d)) 0 d else s
      let x := x.cut
      if p.src ≠ x.cur.src ∧ (s.isNpcm p.src ∨ s.isNpcm x.cur.src) then
        set s ⟨d, p, some x.cur, if s.isNpcm x.cur.src then 480 else 0, p.m, 240, if s.isNpcm x.cur.src then 1 else 2, x.burst, x.pre⟩
      else if p.src ≠ x.cur.src ∨ p.delay ≠ x.cur.delay then
        set s { x with cur := p, old := some x.cur, xi := 0, mFrom := p.m, mi := 240 }
      else if p.m ≠ x.cur.m then set s { x with cur := p, mFrom := x.cur.m, mi := 0 }
      else set s { x with cur := p }
    else if x.dst = d then set s { x with dst := 0xFFF }
    else s

/-- The routes of a range of destinations at the start of their audio frame. -/
def State.routesFrame (s : State) (lo hi : Nat) : State :=
  (s.routeX.map (·.1)).foldl (fun s r =>
    let s := match tfind s.routeX r with
      | some x => if lo ≤ x.dst ∧ x.dst < hi then s.routeFrame x.dst r else s
      | none => s
    let d := s.rd R.AUD_RT_MAP_LIVE_DST r
    if lo ≤ d ∧ d < hi ∧ (tfind s.routeX r).any (fun x => x.dst != d) then s.routeFrame d r else s) s

/-- At a pipeline's first running frame each of its routes fades in from 0 (R403). -/
def State.routesFadeIn (s : State) (n : Nat) : State :=
  { s with routeX := s.routeX.map (fun (e : Nat × RouteX) =>
      if 32 * n ≤ e.2.dst ∧ e.2.dst < 32 * n + 32 then (e.1, { e.2 with old := none, xi := 0 }) else e) }

/-- A route that keeps its old burst and whose burst has ended goes on to the second stage of its guard-band change (R406). -/
def State.gbStage (s : State) (x : RouteX) : RouteX :=
  if x.gb = 1 ∧ (x.burst = 0 ∨ x.old.isNone) then { x with gb := 2, old := none, xi := if s.isNpcm x.cur.src then 480 else 0, burst := 0, pre := none } else x

/-- The output sample of a route at the current grid sample, and the route after it (R398, R399, R406). -/
def State.routeSample (s : State) (r : Nat) (x : RouteX) : Int × RouteX :=
  let x := s.gbStage x
  let d := x.dst
  let n := fadeLen (s.rd R.AUD_RT_STAT_FADE r)
  if x.gb = 1 then
    match x.old with
    | none => (0, x)
    | some o =>
      let b := if x.pre.isSome then s.burstStep d o x else (x.burst - 1, none)
      (s.pathSample d o o.m, { x with burst := b.1, pre := b.2 })
  else
    let b := s.burstStep d x.cur x
    if x.gb = 2 ∧ s.isNpcm x.cur.src ∧ (s.pathPre d x.cur).isNone then (0, x)
    else
      let x := { x with gb := 0, burst := b.1, pre := b.2 }
      let m := if x.mi < 240 then x.mFrom + ((x.cur.m - x.mFrom) * ((x.mi + 1 : Nat) : Int)).tdiv 240 else x.cur.m
      let new := s.pathSample d x.cur m
      if s.isNpcm x.cur.src then (new, { x with mi := 240, xi := 480, old := none })
      else if x.xi < n then
        let old := match x.old with | some o => s.pathSample d o o.m | none => 0
        (crossfade n x.xi old new, { x with xi := x.xi + 1, mi := min 240 (x.mi + 1), burst := 0, pre := none })
      else (new, { x with mi := min 240 (x.mi + 1), burst := 0, pre := none })

/-- A destination takes the sample of the current grid sample. -/
def State.destSample (s : State) (d : Nat) (y : Int) : State :=
  if d < 3072 then
    let k := d / 32
    let x := tget AFrame.reset s.aFrames k
    { s with aFrames := tput s.aFrames k { x with smp := tput x.smp (d % 32) (tput (tget [] x.smp (d % 32)) x.idx y) } }
  else s

/-! ### Insert and tap slots (R407 to R409) -/

/-- An insert slot that holds nothing. -/
def InsX.reset : InsX := ⟨[], 0, [], none⟩

/-- A sample of an entry word: bits [31:8] as 24-bit two's complement (R407). -/
def wordSample (w : Nat) : Int := sext 24 (w / 256)

/-- The words of an insert entry: from HBM, or as read from host memory. -/
def State.insEntry (s : State) (r : RingCtx) (slot : Nat) (host : List (Nat × List Nat)) : List Nat :=
  leWords 32 (if r.host then tget [] host slot else memReadBytes s.hbm (entryAddr r r.ci) 128)

/-- An insert slot without data at this grid sample: hold-and-decay, then zeros (R387, R408). -/
def State.insDecay (s : State) (slot : Nat) (x : InsX) : State :=
  match x.decay with
  | none => s
  | some i =>
    let s := (upFrom 0 8).foldl (fun s c => s.histPut (3072 + 8 * slot + c) s.grid (decayed (x.last.getD c 0) i)) s
    { s with insX := tput s.insX slot { x with decay := if i + 1 < 240 then some (i + 1) else none } }

/-- A sample frame of a running insert slot. -/
def State.insFrame (s : State) (slot : Nat) (x : InsX) : State :=
  let v := (upFrom 0 8).map (fun c => wordSample (x.words.getD (8 * x.phase + c) 0))
  let s := (upFrom 0 8).foldl (fun s c => s.histPut (3072 + 8 * slot + c) s.grid (v.getD c 0)) s
  { s with insX := tput s.insX slot { x with phase := (x.phase + 1) % 4, last := v, decay := none } }

/-- The record of an insert slot for the block in progress (R411, R582). -/
def State.insRec (s : State) (slot : Nat) : Option DetRec :=
  s.recFor (fun r => r.fsn == s.grid / 48 % 2 ^ 32 && (match r.body with | .ins k _ => k == slot | _ => false))

/-- An insert slot in MIRROR: its samples come from the determinism stream; its ring is not read (R411). -/
def State.insFollow (s : State) (slot : Nat) : State :=
  match s.insRec slot with
  | none => s.insDecay slot (tget InsX.reset s.insX slot)
  | some r =>
    (match r.body with
     | .ins _ smp =>
       let v := smp.getD (s.grid % 48) []
       let s := (upFrom 0 8).foldl (fun s c => s.histPut (3072 + 8 * slot + c) s.grid (v.getD c 0)) s
       let s : State := { s with insX := tmod InsX.reset s.insX slot (fun x => { x with last := v, decay := none }) }
       if s.grid % 48 = 47 then s.recUse r else s
     | _ => s)

/-- The record a primary sends of a running insert slot when its block of 48 samples is complete (R582). -/
def State.insSend (s : State) (slot : Nat) : State :=
  if s.grid % 48 = 47 ∧ s.rd R.AUD_INS_STAT_STATE slot = 2 then
    s.sendDet 0 (s.grid / 48 % 2 ^ 32)
      (.ins slot ((upFrom (s.grid - 47) 48).map (fun g => (upFrom 0 8).map (fun c => s.histGet (3072 + 8 * slot + c) g))))
  else s

/-- An insert slot at a grid sample (R408). -/
def State.insStep (s : State) (slot : Nat) (host : List (Nat × List Nat)) : State :=
  let x := tget InsX.reset s.insX slot
  let h := s.rd R.AUD_INS_RING_RING slot
  match tfind s.rings (hIdx h) with
  | none => s
  | some r =>
    if h = 0 ∨ s.badHandle h then s.insDecay slot x
    else
      let run := s.rd R.AUD_INS_STAT_STATE slot == 2 || decide (16 ≤ ringUsed r)
      if !run then s.insDecay slot x
      else
        let s := s.wr R.AUD_INS_STAT_STATE slot 2
        if x.phase ≠ 0 then s.insFrame slot x
        else if ringUsed r = 0 then
          let s := (s.wr R.AUD_INS_STAT_STATE slot 1).inc R.AUD_INS_UNDER_COUNT slot
          let s := s.flag R.AUD_INS_EVT_FLAGS 0x00706010 slot 0 0
          let s := s.post kRing (hIdx h) 0x0721 .ok 0 0 (s.rd R.AUD_INS_OCC_LO slot) slot
          s.insDecay slot { x with decay := some 0 }
        else
          let w := s.insEntry r slot host
          (s.setRing (hIdx h) { r with ci := (r.ci + 1) % 2 ^ 32 }).insFrame slot { x with words := w }

/-- A tap slot at a grid sample: the sample frame joins its entry; every fourth writes one (R409). -/
def State.tapStep (s : State) (slot : Nat) (v : List Int) : State :=
  let h := s.rd R.AUD_TAP_RING_RING slot
  if h = 0 ∨ s.badHandle h then s
  else
    let l := v :: tget [] s.tapX slot
    if l.length < 4 then { s with tapX := tput s.tapX slot l }
    else
      let bytes := l.reverse.flatMap (fun f => f.flatMap (fun x => leBytes 4 (twos 24 x * 256)))
      { s with tapX := tdel s.tapX slot }.ringPush (hIdx h) bytes false

/-! ### The grid sample -/

/-- The 32 source samples of a channel around a position (R389). -/
def srcWindow (x : GrpX) (pos c : Nat) : List Int :=
  (upFrom 0 32).map (fun k =>
    let i : Int := ((pos / 2 ^ 32 + k : Nat) : Int) - 15
    if i < 0 ∨ (x.srcN : Int) ≤ i then 0 else match x.src[x.srcN - 1 - i.toNat]? with | some e => e.smp.getD c 0 | none => 0)

/-- The interpolated sample of a channel at a position (R389). -/
def asrcAt (x : GrpX) (pos c : Nat) : Int := sat24 (Config.asrc (srcWindow x pos c) (pos % 2 ^ 32 / 2 ^ 24))

/-- The sample a locked group writes for a channel (R387, R389, R392). -/
def lockedSample (x : GrpX) (c : Nat) : Int :=
  let v := asrcAt x x.posA c
  let v := match x.posOld with | some (p, i) => crossfade 240 i (asrcAt x p c) v | none => v
  if x.ramp < 240 then (v * ((x.ramp + 1 : Nat) : Int)).tdiv 240 else v

/-- A group at a grid sample (R387, R389): a non-PCM pair bypasses the ASRC (R405). -/
def State.grpStep (s : State) (n g : Nat) : State :=
  let x := s.grp n g
  let put := fun (s : State) (v : List Int) =>
    (upFrom 0 4).foldl (fun s c => if s.isNpcm (32 * n + 4 * g + c) then s else s.histPut (32 * n + 4 * g + c) s.grid (v.getD c 0)) s
  if s.grpState n g = gLOCKED then
    let v := (upFrom 0 4).map (lockedSample x)
    let old := x.posOld.bind (fun o => if o.2 + 1 < 240 then some (o.1 + x.ratio, o.2 + 1) else none)
    (put s v).setGrp n g fun x => { x with posA := x.posA + x.ratio, posOld := old, ramp := min 240 (x.ramp + 1), last := v }
  else
    match x.decay with
    | none => s
    | some i => (put s (x.last.map (fun y => decayed y i))).setGrp n g fun x => { x with decay := if i + 1 < 240 then some (i + 1) else none }

/-- One route at a grid sample: its sample is kept by destination. -/
def State.routeStep (s : State) (acc : Tab Int) (r : Nat) : State × Tab Int :=
  match tfind s.routeX r with
  | none => (s, acc)
  | some x =>
    if x.dst = 0xFFF then (s, acc)
    else
      let y := s.routeSample r x
      let fading := decide (y.2.mi < 240) || decide (y.2.xi < fadeLen (s.rd R.AUD_RT_STAT_FADE r)) || y.2.gb != 0
      (({ s with routeX := tput s.routeX r y.2 }.wr R.AUD_RT_STAT_FADING r (b2n fading)).destSample x.dst y.1, tput acc x.dst y.1)

/-- What the unit does at a grid sample: ASRCs, insert slots, routes, tap slots (R398 to R409). -/
def State.gridWork (s : State) (host : List (Nat × List Nat)) : State :=
    let s := s.grpX.foldl (fun s e => s.grpStep (e.1 / 8) (e.1 % 8)) s
    let s := (upFrom 0 64).foldl (fun s k => if s.rd R.AUD_INS_RING_RING k = 0 then s else if s.modeCode = mMIRROR then s.insFollow k else (s.insStep k host).insSend k) s
    let r := (s.routeX.map (·.1)).foldl (fun a r => a.1.routeStep a.2 r) (s, ([] : Tab Int))
    let s := (upFrom 0 64).foldl (fun s k =>
      if s.rd R.AUD_TAP_RING_RING k = 0 then s else s.tapStep k ((upFrom 0 8).map (fun c => tget 0 r.2 (3072 + 8 * k + c)))) r.1
    { s with aFrames := s.aFrames.map (fun (e : Nat × AFrame) => (e.1, { e.2 with idx := e.2.idx + 1 })) }

/-- A grid sample (R382): the grid counts; where the unit runs (R67), it does its work. `host` holds the entries that insert slots read from
host memory. -/
def audioGridSample (host : List (Nat × List Nat)) (s : State) : State :=
  if !s.gridRuns then s
  else
    let s := if s.audioRuns then s.gridWork host else s
    { s with grid := s.grid + 1 }.gridShow

/-! ### Audio frames and embedding (R401 to R403) -/

/-- A pipeline's audio frame begins at its own switch line (R401): `k` is the frame's number on the timeline. -/
def State.pipeAudioFrame (s : State) (n k : Nat) : State :=
  if !s.audio then s
  else
    let t := s.rd R.OUT_TMG_FMT_TLN n
    let f := s.pipeFmt n
    let x := tget AFrame.reset s.aFrames n
    let s := s.wr R.AUD_OUT_STAT_COUNT n x.idx
    let a := (tget Tln.reset s.tln t).phase
    let ofs := s.rd R.OUT_TMG_OFS_NS n
    let s := s.aFrameNext n (s.rd R.OUT_FSN_FSN n) (s.aStart f a k ofs) (s.aCount f a k ofs) f
    let s := (s.wr R.AUD_OUT_STAT_CAPACITY n (s.outCapacity n)).wr R.AUD_OUT_STAT_SEQ_POS n (tget AFrame.reset s.aFrames n).pos
    s.routesFrame (32 * n) (32 * n + 32)

/-- The audio frame of the tap slots on a timeline begins at its switch line. -/
def State.tapAudioFrame (s : State) (t k : Nat) : State :=
  if !s.audio then s
  else
    let f := fmtD (s.rd R.REF_TLN_CFG_FMT t)
    let a := (tget Tln.reset s.tln t).phase
    let s := s.aFrameNext (200 + t) (s.fsn t) (s.aStart f a k 0) (s.aCount f a k 0) f
    (upFrom 0 64).foldl (fun s slot =>
      if s.rd R.AUD_TAP_CFG_TLN slot = t then s.routesFrame (3072 + 8 * slot) (3080 + 8 * slot) else s) s

/-- The numbers of the first sample of an audio frame of `n` that is embedded on a raster line, and of the first after it (R402). -/
def samplesOnLine (f : Format) (n line : Nat) : Nat × Nat :=
  let e := f.lines - 2
  let pos := (line + 2 * f.lines - f.sw - 2) % f.lines
  if e ≤ pos then (0, 0) else (ceilDiv (pos * n) e, ceilDiv ((pos + 1) * n) e)

/-- A sample as embedded: 24 bits, or on SD without SD_EXT rounded to 20 (R388). -/
def State.embedCode (s : State) (n : Nat) (x : Int) : Nat :=
  if rateFor (s.rd R.OUT_TMG_FMT_FMT n) (s.pipeStruct n) = 1 ∧ !s.on R.AUD_OUT_CFG_SD_EXT n then
    twos 20 (clampInt (-524288) 524287 ((x + 8) / 16))
  else twos 24 x

/-! ### Commands -/

/-- The checks of ROUTE_CREATE (R394). -/
def State.routeChecks (s : State) (inl : List Nat) : List (Bool × Status) :=
  [ (decide (3 < inl.headD 0) || !allZero (inl.drop 1), .decode), (!s.audio, .unitAbsent) ]

/-- Create a route (R394). -/
def State.routeCreateBody (s : State) (ss : Nat) (inl : List Nat) : AdmAns :=
  match s.freeIndex kRoute 0 with
  | none => ⟨s.refuse 4, .noContext, 0, 0⟩
  | some r =>
    let s := (s.issue kRoute r ss).clearUnit 0x710000 0x710040 r
    let s := { s with routeX := tput s.routeX r ⟨0xFFF, ⟨0, 0, 1048576, false⟩, none, 480, 1048576, 240, 0, 0, none⟩ }
    let s := (s.wr R.AUD_RT_STAT_FADE r (inl.headD 0)).wr R.AUD_INFO_ROUTES 0 s.routeX.length
    ⟨s, .ok, s.handleOf kRoute r, 0⟩

/-- ROUTE_CREATE, opcode 0x0050. -/
def routeCreate (f : Nat) (payload : List Nat) (s : State) : State :=
  s.admin f 0x50 payload [] (fun t => s.admChecks f t 0 0 payload true false ++ s.routeChecks t.inl) (fun t => s.routeCreateBody t.ss t.inl)

/-- A route is freed. -/
def State.routeRelease (s : State) (r : Nat) : State :=
  let s := { s with routeX := tdel s.routeX r }.clearUnit 0x710000 0x710040 r
  s.wr R.AUD_INFO_ROUTES 0 s.routeX.length

/-- The checks of a write that names the ring of an audio slot (R228, R407): the ring belongs to a session of the writer, and while one is
bound only its owner's principal writes. -/
def State.slotChecks (s : State) (p bound ring : Nat) (hostProduces : Bool) : List (Bool × Status) :=
  let live := bound ≠ 0 && !s.badHandle bound
  (live && s.prinOf (s.hobj bound).owner != p, .protected')
    :: (!s.badHandle ring && s.prinOf (s.hobj ring).owner != p, .protected') :: s.ringChecks ring (s.hobj ring).owner hostProduces 3

/-- A write of AUD.INS_RING (R407, R408). -/
def insRingWrite (p slot ring : Nat) (s : State) : State :=
  s.gate p (0x706000 + 0x20 * (slot % 64)) true (s.slotChecks p (s.rd R.AUD_INS_RING_RING (slot % 64)) (ring % 2 ^ 32) true) fun s =>
    let s := { s with insX := tdel s.insX (slot % 64) }
    (s.wr R.AUD_INS_RING_RING (slot % 64) ring).wr R.AUD_INS_STAT_STATE (slot % 64) 1

/-- A write of AUD.TAP_RING (R407, R409). -/
def tapRingWrite (p slot ring : Nat) (s : State) : State :=
  s.gate p (0x706800 + 0x20 * (slot % 64)) true (s.slotChecks p (s.rd R.AUD_TAP_RING_RING (slot % 64)) (ring % 2 ^ 32) false) fun s =>
    let s := { s with tapX := tdel s.tapX (slot % 64) }
    ((s.wr R.AUD_TAP_RING_RING (slot % 64) ring).wr R.AUD_TAP_G0_LO_G (slot % 64) s.grid).wr R.AUD_TAP_G0_HI_G (slot % 64) (s.grid / 2 ^ 32)

/-- A history frame of a pair with the samples zero that `held` names by channel and grid index; `c0` is the group's first channel (R410). -/
def NpFrame.zero (held : List (Nat × Nat)) (c0 : Nat) (e : NpFrame) : NpFrame :=
  { e with smp := ((upFrom e.g0 e.smp.length).zip e.smp).map fun y =>
      { y.2 with smp := ((upFrom c0 4).zip y.2.smp).map (fun z => if held.contains (z.1, y.1) then 0 else z.2) } }

/-- Samples read as zero until written again (R55, R410). -/
def State.audioZero (s : State) (held : List (Nat × Nat)) : State :=
  { s with aHist := s.aHist.map (fun (e : Nat × List (Nat × Int)) => (e.1, e.2.filter (fun x => !held.contains (e.1, x.1)))),
           npHist := s.npHist.map (fun (e : Nat × List NpFrame) => (e.1, e.2.map (NpFrame.zero held (e.1 / 2 * 4)))) }

/-- An uncorrectable error of a shuffle buffer (R410): `held` names the samples of the failing word, by source channel and grid index, which
read as zero until written again. -/
def shuffleBufferEcc (addr : Nat) (held : List (Nat × Nat)) (s : State) : State :=
  if !s.audio then s
  else
    ((s.audioZero held).flag R.AUD_UNIT_EVT_FLAGS 0x00700010 0 0 0).flog 7 0x10 .eccUncorr false (sramArg 4 0 addr)

/-- ROUTE_CREATE. -/
def execRouteCreate (f : Nat) (payload : List Nat) (s : State) : Res := .next (routeCreate f payload s)
/-- AUDIO_PACKET_RECEIVED. -/
def execAudioPacketReceived (n g time : Nat) (smp : List Int) (wide : Bool) (otherRate : Bool) (s : State) : Res :=
  .next (audioPacketReceived n g time smp wide otherRate s)
/-- GROUP_RATE_WINDOW. -/
def execGroupRateWindow (n g : Nat) (ofs : Int) (s : State) : Res := .next (groupRateWindow n g ofs s)
/-- GROUP_PACKET_TIMEOUT. -/
def execGroupPacketTimeout (n g : Nat) (s : State) : Res := .next (groupPacketTimeout n g s)
/-- ASRC_BLOCK. -/
def execAsrcBlock (n : Nat) (s : State) : Res := .next (asrcBlock n s)
/-- AUDIO_GRID_SAMPLE. -/
def execAudioGridSample (host : List (Nat × List Nat)) (s : State) : Res := .next (audioGridSample host s)
/-- NPCM_CHANGE. -/
def execNpcmChange (n g pair : Nat) (on' : Bool) (s : State) : Res := .next (npcmChange n g pair on' s)
/-- INS_RING_WRITE. -/
def execInsRingWrite (p slot ring : Nat) (s : State) : Res := .next (s.regRec (0x706000 + 32 * slot) ring (insRingWrite p slot ring s))
/-- TAP_RING_WRITE. -/
def execTapRingWrite (p slot ring : Nat) (s : State) : Res := .next (s.regRec (0x706800 + 32 * slot) ring (tapRingWrite p slot ring s))
/-- SHUFFLE_BUFFER_ECC. -/
def execShuffleBufferEcc (addr : Nat) (held : List (Nat × Nat)) (s : State) : Res := .next (shuffleBufferEcc addr held s)

end Sys2Proof.Machine
end

