-- ==== Sys2Proof/Machine/TxFramer.lean ====
section
/-! DEFINITION. The transmit framer (R172 to R176, R180, R189, R244, R260, R263, R366): an interface line built from the rows and packets of a
pipeline, or from black in LIMP (R154), and sent on the lanes it drives. DESIGN CHOICE (assumption 144): a line leaves when the next line of the
raster starts, with all that was placed on it. -/

namespace Sys2Proof.Machine

open Sys2Proof

/-! ### An interface line -/

/-- A line of the interface of one output: the format code and structure, level B-DL or not, the number of the line, the rows that its raster lines
carry (none outside the active picture), the packets placed on it, and the transfer and colorimetry of its payload ID when it carries one. -/
structure TxLine where
  code : Nat
  struct : Nat
  levelB : Bool
  line : Nat
  rows : List (Option (Nat × List Pixel))
  anc : List AncOut
  vpid : Option (Nat × Nat)
deriving DecidableEq, Repr

/-- The place of a raster line on the interface: the number of the interface line, its place in it, and the raster lines up to it. At level B-DL with
structure 0, two raster lines in turn stand on link A and link B, over two frames; else each line of the 1125-line structure takes one, two or four. -/
def txPlace (c struct : Nat) (levelB : Bool) (fsn line : Nat) : Nat × Nat × List Nat :=
  if levelB ∧ struct = 0 then
    let t := (line + 1125 * (fsn % 2) + 2248) % 2250
    (t / 2 + 1, t % 2, [if line = 1 then 1125 else line - 1, line])
  else
    let m := lineFold (fmtD c)
    ((line - 1) / m + 1, (line - 1) % m, upFrom (line - (line - 1) % m) ((line - 1) % m + 1))

/-- Whether a raster line is the last of its interface line. -/
def txWhole (c struct : Nat) (levelB : Bool) (fsn line : Nat) : Bool :=
  (txPlace c struct levelB fsn line).2.1 + 1 == (if levelB ∧ struct = 0 then 2 else lineFold (fmtD c))

/-- Whether an interface line carries the payload ID (R174): by its number where it folds raster lines of the 1125-line structure, else by its raster
lines. -/
def txIdLine (c line : Nat) (rasters : List Nat) : Bool :=
  let f := fmtD c
  if lineFold f ≠ 1 then line == 10
  else rasters.any fun l =>
    if f.lines = 525 then l == 13 || l == 276 else if f.lines = 625 then l == 9 || l == 322
    else if f.act2 ≠ 0 then l == 10 || l == 572 else l == 10

/-- F of the interface line. -/
def TxLine.field (x : TxLine) : Nat :=
  let f := fmtD x.code
  if f.lines = 525 then b2n (decide (x.line < 4) || decide (266 ≤ x.line))
  else if f.lines = 625 then b2n (decide (313 ≤ x.line))
  else b2n (linkFields x.code x.struct x.levelB && decide (564 ≤ x.line))

/-- The rows of the sub-images that link `j` carries. -/
def TxLine.subs (x : TxLine) (j : Nat) : List (Option (List Pixel)) :=
  let m := lineFold (fmtD x.code)
  if m = 1 then x.rows.map (fun r => r.map (·.2))
  else if x.rows.any Option.isNone then List.replicate 4 none
  else (subImages m j (x.rows.filterMap id)).map some

/-- The pairs of data streams that link `j` carries in the active part of the line: whether the part is active picture, its luma and chroma words;
black in the streams that only fill the link (R161, assumption 143). -/
def TxLine.pairs (x : TxLine) (j : Nat) : List (Bool × List Nat × List Nat) :=
  let black := blackRow x.struct ((fmtD x.code).w / lineFold (fmtD x.code))
  let l := (x.subs j).flatMap fun r => (pixWords x.struct x.levelB (r.getD black)).map (fun p => (r.isSome, p))
  if 2 * l.length < linkStreams x.code x.struct x.levelB then l ++ l.flatMap (fun p => (pixWords x.struct x.levelB black).map (fun q => (p.1, q))) else l

/-- Words laid over blanking. -/
def overlay (blank ws : List Nat) : List Nat := (ws ++ blank.drop ws.length).take blank.length

/-- The words of the packets of a line in one space and stream, in the order of R370: audio, the payload ID, timecode, ring records. -/
def TxLine.packets (x : TxLine) (hanc chroma : Bool) (id : List Nat) : List Nat :=
  let of := fun (lo hi : Nat) =>
    (x.anc.filter (fun a => a.hanc == hanc && a.chroma == chroma && decide (lo ≤ a.cls) && decide (a.cls ≤ hi))).flatMap (·.words)
  of 0 1 ++ id ++ of 2 2 ++ of 3 3

/-- The payload ID packet of the line on pair `k` of link `j` (R174, R180): on every link of level B-DL and of a quad-link. -/
def TxLine.idWords (x : TxLine) (j k : Nat) : List Nat :=
  match x.vpid with
  | some v => if k = 0 ∨ x.levelB then vpidPacket (vpidFor x.code x.struct v.1 v.2 (j + k) x.levelB) else []
  | none => []

/-- What stands in HANC of pair `k` of link `j`: the line's packets on the first pair of link 1 alone (R263, R372). -/
def TxLine.hancOf (x : TxLine) (j k : Nat) (chroma : Bool) : List Nat :=
  let id := if chroma then [] else x.idWords j k
  if j = 0 ∧ k = 0 then x.packets true chroma id else id

/-- The blanking words of HANC of a pair. -/
def TxLine.blank (x : TxLine) (k : Nat) (chroma : Bool) (len : Nat) : List Nat :=
  let f := fmtD x.code
  let l := pixWords x.struct x.levelB (blackRow x.struct ((f.spl - f.w) / lineFold f))
  let p := l.getD (k % max 1 l.length) ([], [])
  (if chroma then p.2 else p.1).take len

/-- The words of one data stream of the line at 1.485 Gbit/s and above (R172): EAV, line number, CRC, HANC, SAV, and the active part or VANC. `crc` is
that of the active part of the line before; the second component is that of this one's. -/
def TxLine.stream (x : TxLine) (j k : Nat) (chroma : Bool) (here : Bool) (crc : Nat) (active : Bool) (ws : List Nat) : List Nat × Nat :=
  let v := b2n (!active)
  let head := trsWords x.field v 1 ++ lnWords x.line
  let body := if active ∨ !here then ws else overlay ws (x.packets false chroma [])
  let hanc := overlay (x.blank k chroma ((linkMeas x.code x.struct x.levelB).2 - ws.length - 12)) (x.hancOf j k chroma)
  (head ++ crcWords (crc18 crc head) ++ hanc ++ trsWords x.field v 0 ++ body, crc18 0 body)

/-- The words of link `j`, and the CRCs of its streams for the next line; VANC packets stand on the first pair that is not active picture. -/
def TxLine.link (x : TxLine) (crc : Tab Nat) (j : Nat) : List Nat × Tab Nat :=
  let ps := x.pairs j
  let free := if j = 0 then ps.findIdx? (fun p => !p.1) else none
  let l := ((upFrom 0 ps.length).zip ps).flatMap fun e =>
    let k := e.1
    let here := free == some k
    [x.stream j k false here (tget 0 crc (8 * j + 2 * k)) e.2.1 e.2.2.1, x.stream j k true here (tget 0 crc (8 * j + 2 * k + 1)) e.2.1 e.2.2.2]
  (muxWords (l.map (·.1)), ((upFrom 0 l.length).zip l).foldl (fun t e => tput t (8 * j + e.1) e.2.2) crc)

/-- The words of the line at 270 Mbit/s, and the EDH CRCs after it (R172, R173): the EDH packet stands at the end of HANC. -/
def TxLine.sd (x : TxLine) (ap ff : Nat) : List Nat × Nat × Nat :=
  let f := fmtD x.code
  let p := (x.pairs 0).headD (false, [], [])
  let v := b2n (!p.1)
  let body := muxWords [p.2.1, p.2.2]
  let body := if p.1 then body else overlay body (x.packets false false [])
  let len := 2 * (f.spl - f.w) - 8
  let hanc := overlay (muxWords [x.blank 0 false (len / 2), x.blank 0 true (len / 2)]) (x.hancOf 0 0 false)
  let here := edhLine f x.line
  let hanc := if here then hanc.take (len - 23) ++ edhPacket ap ff else hanc
  let ws := trsWords x.field v 1 ++ hanc ++ trsWords x.field v 0 ++ body
  let ap := if here then 0 else ap
  let ff := if here then 0 else ff
  (ws, if edhApLine f x.line then crc16 ap body else ap, if edhFfLine f x.line then crc16 ff ws else ff)

/-! ### Sending it -/

/-- Words leave a lane as an SDI signal (R172). -/
def State.laneSdi (s : State) (i : Nat) (ws : List Nat) : State :=
  let r := scrWords (s.lane i).scr ws
  (s.setLane i fun x => { x with scr := r.1, sentLines := if s.looped i then (x.sentLines ++ [ws]).drop (x.sentLines.length - 7) else [] }).laneOut i 6 r.2

/-- A line's words reach a lane (R126, R127, R148, R154, R189, R190): discarded unless its transmitter carries them; in Gistra-link mode its bits join
the video stream, `first` being the first line of a frame. -/
def State.laneLine (s : State) (i : Nat) (first : Bool) (ws : List Nat) : State :=
  if s.txState i = 3 then s.laneSdi i ws
  else if s.txState i ≠ 1 then s
  else if s.rd R.LNE_CTL_MODE i ≠ mdGL then s.laneSdi i ws
  else
    let s := if first then s.rateFrame i else s
    if (s.lane i).txHeld ∨ s.rd R.LNE_GL_STAT_LINK_STATE i ≠ glUP then s.setLane i fun x => { x with txBits := [] }
    else s.setLane i fun x => { x with txBits := x.txBits ++ wordBits ws }

/-- The words of each link of the line, and the framer's CRCs after it. -/
def State.lineLinks (s : State) (n : Nat) (x : TxLine) : List (List Nat) × PipeX :=
  let q := s.pipe n
  if (fmtD x.code).lines ≤ 625 then
    let r := x.sd q.edhAp q.edhFf
    ([r.1], { q with edhAp := r.2.1, edhFf := r.2.2 })
  else
    (upFrom 0 (if is4320 x.code then 4 else 1)).foldl (fun (a : List (List Nat) × PipeX) j =>
      let r := x.link a.2.crc j
      (a.1 ++ [r.1], { a.2 with crc := r.2 })) ([], q)

/-- The line leaves (R180, R260, R263): `lanes` gives the lanes that carry a link. -/
def State.txLine (s : State) (n : Nat) (x : TxLine) (first : Bool) (lanes : Nat → List Nat) : State :=
  let r := s.lineLinks n x
  let s := s.setPipe n fun _ => { r.2 with lineW := r.1.flatten, lineA := (x.anc.filter (fun a => a.cls == 0)).flatMap (·.words), anc := [] }
  ((upFrom 0 r.1.length).zip r.1).foldl (fun s e => (lanes e.1).foldl (fun s i => s.laneLine i first e.2) s) s

/-- The lanes that carry link `j` of a pipeline: of its gang or its own, and of its clone members (R260, R261, R263). A lane that is a clone member
carries its head's words in place of its own pipeline's. -/
def State.linkLanes (s : State) (n j : Nat) : List Nat :=
  let ms := s.cloneMembers n
  let own := if s.gangHead n then n + j else n
  (if (s.cloneHeadOf own).isSome then [] else [own]) ++ (if s.gangHead n then (if ms.isEmpty then [] else [ms.getD j 0]) else ms)

/-- The row that a raster line of a pipeline carries: what was sent for it, or black where the pipeline composes nothing (R363). -/
def State.txRow (s : State) (n line : Nat) : Option (Nat × List Pixel) :=
  (activeRow (s.pipeFmt n) line).map (fun y => (y, (tfind (s.pipe n).rows y).getD (blackRow (s.pipeStruct n) (s.pipeFmt n).w)))

/-- Whether a pipeline's output is level B-DL (R161, R176, R260): by LNE.SDI_CFG of its own lane, clone members following. -/
def State.pipeLevelB (s : State) (n : Nat) : Bool :=
  levelBTx (s.on R.LNE_SDI_CFG_LEVEL_B_TX n) (s.rd R.OUT_TMG_FMT_FMT n) (s.pipeStruct n)

/-- Whether the payload ID goes on the lines of an output at a rate (R175). -/
def State.idOn (s : State) (n rate : Nat) : Bool := decide (4 ≤ rate) || s.on R.LNE_SDI_CFG_VPID_INS n

/-- A line of LIMP black on lane `n` (R154), on level B-DL where LEVEL_B_TX asks for it (R176); `fsn` counts the frames of its raster. -/
def State.limpLine (s : State) (n fsn line : Nat) : State :=
  let c := s.rd R.LNE_LIMP_CFG_FMT n
  let f := fmtD c
  let lb := levelBTx (s.on R.LNE_SDI_CFG_LEVEL_B_TX n) c 0
  if s.txState n ≠ 3 ∨ line = 0 ∨ f.lines < line ∨ !txWhole c 0 lb fsn line then s
  else
    let p := txPlace c 0 lb fsn line
    let id := s.idOn n (rateFor c 0) && txIdLine c p.1 p.2.2
    s.txLine n ⟨c, 0, lb, p.1, p.2.2.map (fun l => (activeRow f l).map (fun y => (y, blackRow 0 f.w))), [], if id then some (0, 0) else none⟩ false
      (fun _ => [n])

/-- The words of each link of a line of horizontal blanking alone, without TRS (R484). -/
def blankLinks (c struct : Nat) (lb : Bool) : List (List Nat) :=
  let f := fmtD c
  let l := pixWords struct lb (blackRow struct (f.spl + f.spl))
  if f.lines ≤ 625 then [muxWords [((l.headD ([], [])).1.take f.spl), ((l.headD ([], [])).2.take f.spl)]]
  else
    let w := (linkMeas c struct lb).2
    List.replicate (if is4320 c then 4 else 1)
      (muxWords ((upFrom 0 (linkStreams c struct lb / 2)).flatMap fun k =>
        let p := l.getD (k % max 1 l.length) ([], [])
        [p.1.take w, p.2.take w]))

/-- A line past the end of the raster of a pipeline leaves (R484). -/
def State.blankLine (s : State) (n fsn line : Nat) : State :=
  let c := s.rd R.OUT_TMG_FMT_FMT n
  let lb := s.pipeLevelB n
  if !txWhole c (s.pipeStruct n) lb fsn line then s
  else
    let l := blankLinks c (s.pipeStruct n) lb
    ((upFrom 0 l.length).zip l).foldl (fun s e => (s.linkLanes n e.1).foldl (fun s i => s.laneLine i false e.2) s) s

/-! ### Packets of audio and timecode -/

/-- Whether a destination channel stands in a non-PCM pair (R388). -/
def State.embNpcm (s : State) (d : Nat) : Bool := s.routeX.any (fun e => e.2.dst / 2 == d / 2 && s.isNpcm e.2.cur.src)

/-- The clock field of sample `i` of a pipeline's audio frame (R402): its grid time, in words of a data stream from the start of the interface line
in which it falls. -/
def State.embClk (s : State) (n i : Nat) : Nat :=
  let t := s.rd R.OUT_TMG_FMT_TLN n
  let x := tget Tln.reset s.tln t
  let f := s.pipeFmt n
  let c := s.rd R.OUT_TMG_FMT_FMT n
  let lb := s.pipeLevelB n
  let k := x.n + (tget AFrame.reset s.aFrames n).fsn - s.fsn t
  let t0 : Int := ((lineStart f x.phase k f.sw + s.rd R.OUT_TMG_OFS_NS n : Nat) : Int)
  let dt := (s.gridTime (s.gridAt t0 + i) - t0).toNat
  let w := (linkMeas c (s.pipeStruct n) lb).2
  dt * (f.lines * f.num * w) / ((if lb ∧ s.pipeStruct n = 0 then 2 else lineFold f) * f.den * 1000000000) % max 1 w

/-- The groups a pipeline embeds: those enabled within the capacity (R385, R403). -/
def State.embGroups (s : State) (n : Nat) : List Nat :=
  (upFrom 0 8).filter (fun g => bitAt (s.rd R.AUD_OUT_CFG_GRP_EN n) g && decide (4 * g + 4 ≤ s.outCapacity n))

/-- The four channels of a group at sample `i`, which takes place `pos` of the channel-status block. -/
def State.embFrame (s : State) (n g i pos : Nat) : List EmbSmp :=
  (upFrom (4 * g) 4).map (fun c =>
    ⟨s.embedCode n (tget 0 (tget [] (tget AFrame.reset s.aFrames n).smp c) i), csBit (s.embNpcm (32 * n + c)) pos⟩)

/-- The audio data packets of the raster line in progress, of which the first sample takes place `base` of the channel-status block (R385, R388, R402). -/
def State.audioPackets (s : State) (n base : Nat) : List AncOut :=
  let x := tget AFrame.reset s.aFrames n
  let is := upFrom x.lo (x.hi - x.lo)
  let at' := (upFrom 0 is.length).zip is
  let pos := fun (k : Nat) => (base + k) % 192
  if is.isEmpty then []
  else if (s.pipeFmt n).lines ≤ 625 then
    let ext := s.on R.AUD_OUT_CFG_SD_EXT n
    (s.embGroups n).flatMap fun g =>
      let l := at'.map (fun e => (pos e.1 == 0, s.embFrame n g e.2 (pos e.1)))
      let main := if ext then l.map (fun e => (e.1, e.2.map (fun x => { x with code := x.code / 16 }))) else l
      ⟨0, true, false, sdAudioPacket g main⟩ :: (if ext then [⟨0, true, false, sdExtPacket g l⟩] else [])
  else at'.flatMap fun e => (s.embGroups n).map fun g =>
    ⟨0, true, true, hdAudioPacket g (s.embClk n e.2) (pos e.1 == 0) (s.embFrame n g e.2 (pos e.1))⟩

/-- The audio control packets of a raster line: once a frame, on the second line after the switch line, one for each group (R401, R403). -/
def State.acpPackets (s : State) (n line : Nat) : List AncOut :=
  if line = (s.pipeFmt n).sw + 2 ∧ s.on R.AUD_OUT_CFG_ACP_EN n then
    (s.embGroups n).map (fun g => ⟨1, true, false, acpPacket (decide ((s.pipeFmt n).lines ≤ 625)) g (s.rd R.AUD_OUT_STAT_SEQ_POS n)⟩)
  else []

/-- The samples that the audio frame of a pipeline will hold: to its next switch line as the timeline's phase places it now (R401, R482). -/
def State.aDue (s : State) (n : Nat) : Nat :=
  let t := s.rd R.OUT_TMG_FMT_TLN n
  let x := tget Tln.reset s.tln t
  let a := tget AFrame.reset s.aFrames n
  s.aStart (s.pipeFmt n) x.phase (x.n + a.fsn - s.fsn t + 1) (s.rd R.OUT_TMG_OFS_NS n) - a.g0

/-- The samples of a raster line are those that R402 gives it in a frame of the count due; where a slew has changed the count by one, those that
follow the last embedded. -/
def State.lineSamples (s : State) (n line : Nat) : State :=
  match tfind s.aFrames n with
  | none => s
  | some a =>
    let due := s.aDue n
    let r := samplesOnLine (s.pipeFmt n) due line
    let lo := if r.1 ≤ a.hi + 1 ∧ a.hi ≤ r.1 + 1 then a.hi else r.1
    { s with aFrames := tput s.aFrames n { a with n := due, lo := lo, hi := if r.1 < r.2 then max lo r.2 else lo } }

/-- The audio of a raster line is placed on it (R366, R403). -/
def State.placeAudio (s : State) (n line : Nat) : State :=
  if !s.audio then s
  else
    let s := s.lineSamples n line
    let x := tget AFrame.reset s.aFrames n
    let l := s.audioPackets n (s.pipe n).csPos ++ s.acpPackets n line
    let m := x.hi - x.lo
    s.setPipe n fun q => { q with anc := q.anc ++ l, csPos := (q.csPos + m) % 192 }

/-- The last packets of audio data on a line become those of a list. -/
def refill (l anc : List AncOut) : List AncOut :=
  (anc.reverse.foldl (fun (a : List AncOut × List AncOut) x =>
    match a.1 with
    | y :: t => if x.cls = 0 then (t, y :: a.2) else (a.1, x :: a.2)
    | [] => ([], x :: a.2)) (l.reverse, [])).2

/-- The audio data packets of a raster line, the last of those on the interface line, take the samples they stand for once the line ends: a sample's grid
time can fall within its line (R402). -/
def State.refillAudio (s : State) (n : Nat) : State :=
  let x := tget AFrame.reset s.aFrames n
  let m := x.hi - x.lo
  if !s.audio ∨ s.rd R.OUT_STAT_LINE n = 0 ∨ m = 0 then s
  else
    let l := s.audioPackets n (((s.pipe n).csPos + 192 - m % 192) % 192)
    s.setPipe n fun q => { q with anc := refill l q.anc }

/-- The raster line of a pipeline that ends leaves its framer, once its interface line is whole (R366). -/
def State.txEnd (s : State) (n : Nat) : State :=
  let s := s.refillAudio n
  let c := s.rd R.OUT_TMG_FMT_FMT n
  let st := s.pipeStruct n
  let lb := s.pipeLevelB n
  let line := s.rd R.OUT_STAT_LINE n
  let fsn := s.rd R.OUT_FSN_FSN n
  if line = 0 then s
  else if !txWhole c st lb fsn line then s.setPipe n fun q => { q with lineW := [], lineA := [] }
  else
    let p := txPlace c st lb fsn line
    let id := s.idOn n (rateFor c st) && txIdLine c p.1 p.2.2
    s.txLine n ⟨c, st, lb, p.1, p.2.2.map (s.txRow n), (s.pipe n).anc,
      if id then some (s.rd R.OUT_CMP_CFG_TRANSFER n, s.rd R.OUT_CMP_CFG_COLOR n) else none⟩ (p.2.2.contains 1) (s.linkLanes n)

/-! ### Room (R370, R371) -/

/-- The room of an interface line: words of horizontal and vertical blanking in the luma and the chroma stream. -/
structure Room where
  hy : Nat
  hc : Nat
  vy : Nat
  vc : Nat
deriving DecidableEq, Repr

/-- The room of the line that raster line `line` stands on, before anything is placed on it. -/
def lineRoom (c struct : Nat) (levelB : Bool) (line : Nat) : Room :=
  let f := fmtD c
  if f.lines ≤ 625 then
    ⟨2 * (f.spl - f.w) - 8 - (if edhLine f line then 23 else 0), 0, if (activeRow f line).isSome then 0 else 2 * f.w, 0⟩
  else
    let a := f.w / lineFold f * (if struct = 0 ∨ levelB then 1 else 2)
    let h := (linkMeas c struct levelB).2 - a - 12
    let v := if (activeRow f line).isSome then 0 else a
    ⟨h, h, v, v⟩

/-- Words taken from a space and stream, as far as it holds them. -/
def Room.less (r : Room) (hanc chroma : Bool) (n : Nat) : Room :=
  if hanc then (if chroma then { r with hc := r.hc - n } else { r with hy := r.hy - n })
  else if chroma then { r with vc := r.vc - n } else { r with vy := r.vy - n }

/-- The words that a space and stream holds. -/
def Room.of (r : Room) (hanc chroma : Bool) : Nat := if hanc then (if chroma then r.hc else r.hy) else if chroma then r.vc else r.vy

/-- The room that the packets placed so far and the payload ID leave on the line in progress (R370). -/
def State.roomLeft (s : State) (n line : Nat) : Room :=
  let c := s.rd R.OUT_TMG_FMT_FMT n
  let lb := s.pipeLevelB n
  let p := txPlace c (s.pipeStruct n) lb (s.rd R.OUT_FSN_FSN n) line
  let r := lineRoom c (s.pipeStruct n) lb line
  let r := if s.idOn n (rateFor c (s.pipeStruct n)) && txIdLine c p.1 p.2.2 then r.less true false 11 else r
  (s.pipe n).anc.foldl (fun r a => r.less a.hanc a.chroma a.words.length) r

end Sys2Proof.Machine
end

