-- ==== Sys2Proof/Machine/Pipeline.lean ====
section
/-! DEFINITION. Output pipelines: charges of selects and layers (R265, R349), start and stop (R362 to R365, R348, R355), the switch line (R243,
R353), each raster line (R359, R366 to R371), underrun and line-store faults (R373, R374), Skim checks (R375 to R380), writeback (R348). -/

namespace Sys2Proof.Machine

open Sys2Proof

/-! ### Charges (R265, R349) -/

/-- The frame rate a pipeline's charges count: its timeline's, rounded up. -/
def State.pipeChargeRate (s : State) (n : Nat) : Nat := ceilRate (fmtD (s.rd R.REF_TLN_CFG_FMT (s.rd R.OUT_TMG_FMT_TLN n)))

/-- The charge of a select at pipeline `n`: KIND, NUM, handle, and LY0's SRC_XY and SRC_WH (R265, R349). -/
def State.selectCharge (s : State) (n kind num h srcXY srcWH : Nat) : Nat :=
  let f := s.pipeChargeRate n
  if kind = selFRAME ∨ kind = selSTREET then
    let c := classDims (s.rd R.INP_CFG_MAX_CLASS num)
    Sys2Proof.Machine.chargeOf (picBytes c.1 c.2 (s.rd R.INP_CFG_MAX_STRUCT num)) f
  else if kind = selARCADE then
    (match tfind s.jobs (hIdx h) with
     | some j => Sys2Proof.Machine.chargeOf (picBytes j.outW j.outH j.outStruct) f
     | none => 0)
  else if kind = selSURFACE then
    let x := s.surfH h
    Sys2Proof.Machine.chargeOf (if srcWH = 0 then surfB x 0 0 x.w x.h else surfB x (lo16 srcXY) (hi16 srcXY) (lo16 srcWH) (hi16 srcWH)) f
  else if kind = selXFEED then Sys2Proof.Machine.chargeOf ((s.pipeFmt n).w * (s.pipeFmt n).h * 9 / 2) f
  else 0

/-- The charge of layer `l` of pipeline `n` with a descriptor's surface and source rectangle (R349): the Stencil's is at least the slate's. -/
def State.layerCharge (s : State) (n l h srcXY srcWH : Nat) : Nat :=
  if h = 0 then 0
  else
    let x := s.surfH h
    let b := surfB x (lo16 srcXY) (hi16 srcXY) (lo16 srcWH) (hi16 srcWH)
    let slate := s.rd R.OUT_STN_SLATE_HANDLE n
    let bs := if l = 7 ∧ slate ≠ 0 then surfB (s.surfH slate) 0 0 (s.surfH slate).w (s.surfH slate).h else 0
    Sys2Proof.Machine.chargeOf (max b bs) (s.pipeChargeRate n)

/-- The charges of a pipeline's live values (R112, R362). -/
def State.liveCharges (s : State) (n : Nat) : List (Nat × Nat) :=
  (cSelect n, s.selectCharge n (s.selKind n) (s.selNum n) (s.selH n) (s.rdk R.OUT_LYR_SRC_XY_LIVE_XY n 0) (s.rdk R.OUT_LYR_SRC_WH_LIVE_WH n 0))
    :: (if s.on R.OUT_WB_CFG_ENABLE n then
          [(cWriteback n, Sys2Proof.Machine.chargeOf
            (surfFrameBytes (s.surfH (s.rd R.OUT_WB_SURF_HANDLE n)).fmt (s.pipeFmt n).w (s.pipeFmt n).h 0) (s.pipeChargeRate n))]
        else [])
    ++ (upFrom 1 7).map (fun l => (cLayer n l, s.layerCharge n l (s.rdk R.OUT_LYR_SURF_LIVE_HANDLE n l) (s.rdk R.OUT_LYR_SRC_XY_LIVE_XY n l)
          (s.rdk R.OUT_LYR_SRC_WH_LIVE_WH n l)))

/-! ### Start and stop (R362 to R365) -/

/-- No session: beyond every index. -/
def noSession : Nat := 2 ^ 20

/-- The Stencil owner session of a pipeline (R350): the one that OUT.STN_OWNER names; the holding session where it is null; no session where the one
named has gone, whatever is issued at its index since (R27). -/
def State.stnOwner (s : State) (n : Nat) : Nat :=
  let h := s.rd R.OUT_STN_OWNER_SESSION n
  if h = 0 then (s.obj kPipe n).owner else if s.badHandle h ∨ hKind h ≠ kSession then noSession else hIdx h

/-- The writeback checks of a start (R348). -/
def State.wbChecks (s : State) (n : Nat) : List (Bool × Status) :=
  let h := s.rd R.OUT_WB_SURF_HANDLE n
  let x := s.surfH h
  let f := s.pipeFmt n
  if !s.on R.OUT_WB_CFG_ENABLE n then []
  else if s.badHandle h then [(true, .badHandle)]
  else if hKind h ≠ kSurface then [(true, .wrongKind)]
  else
    [ (!s.owns (s.obj kPipe n).owner h, .protected'),
      (!x.writeback || x.fmt != surfFmtOf (s.pipeStruct n), .wrongKind),
      (x.w != f.w || x.h != f.h, .lenExceeds) ]

/-- The safe-slate checks of a start (R355). -/
def State.slateChecks (s : State) (n : Nat) : List (Bool × Status) :=
  let h := s.rd R.OUT_STN_SLATE_HANDLE n
  let x := s.surfH h
  let f := s.pipeFmt n
  if h = 0 ∨ !s.stencil then []
  else if s.badHandle h then [(true, .badHandle)]
  else if hKind h ≠ kSurface then [(true, .wrongKind)]
  else
    [ (!((decide (1 ≤ x.fmt) && decide (x.fmt ≤ 4)) || (decide (0x11 ≤ x.fmt) && decide (x.fmt ≤ 0x14))) || x.writeback || x.job.isSome, .wrongKind),
      (x.w != f.w || x.h != f.h, .lenExceeds), (!s.owns (s.stnOwner n) h, .protected') ]

/-- A live Skim rectangle of a pipeline. -/
def State.skimRect (s : State) (n r : Nat) : Nat × Nat × Nat × Nat :=
  (s.rdk R.OUT_SKIM_XY_LIVE_XY n r, s.rdk R.OUT_SKIM_WH_LIVE_WH n r, s.rdk R.OUT_SKIM_EXP_LIVE_CRC n r, s.rdk R.OUT_SKIM_RCTL_LIVE_MODE n r)

/-- Whether a rectangle leaves a picture (R376). -/
def rectOut (xy wh w h : Nat) : Bool := decide (w < lo16 xy + lo16 wh) || decide (h < hi16 xy + hi16 wh)

/-- The address of a register of a pipeline. -/
def outAddr (n off : Nat) : Nat := 0x500000 + 0x4000 * n + off

/-- Whether an insertion line is legal for the timecode packet (R367). -/
def tcLineOk (f : Format) (l : Nat) : Bool := (activeRow f l).isNone && l != f.sw && l != f.sw + 1

/-- The checks of a start request to a pipeline (R364). -/
def State.outStartChecks (s : State) (p n : Nat) : List (Bool × Status) :=
  let code := s.rd R.OUT_TMG_FMT_FMT n
  let f := s.pipeFmt n
  let t := s.rd R.OUT_TMG_FMT_TLN n
  [ ((!s.holds p kPipe n && p != pTwin && !isCore p) || (s.cloneHeadOf n).isSome || s.gangMember n, .protected'),
    (!s.startMode p, .mode),
    ((formatOf code).isNone || decide (4 < s.pipeStruct n) || rateFor code (s.pipeStruct n) == 0
      || (is4320 code && (upFrom (n / 4 * 4) 4).any (fun i => s.rd R.LNE_CTL_MODE i != mdSDI)) || is4320 code != s.gangHead n
      || decide (1000000000 * f.den / f.num ≤ s.rd R.OUT_TMG_OFS_NS n) || !tcLineOk f (s.rd R.OUT_ANC_CFG_TC_LINE n), .decode),
    ((upFrom 0 8).any (fun r => (s.skimRect n r).2.2.2 != 0 && rectOut (s.skimRect n r).1 (s.skimRect n r).2.1 f.w f.h), .lenExceeds),
    (s.rd R.OUT_STAT_LC_STATE n != lcSTOPPED, .unitRunning),
    (!s.tlnRuns t || !compatible f (fmtD (s.rd R.REF_TLN_CFG_FMT t)), .timeline) ]
    ++ s.wbChecks n ++ s.slateChecks n

/-- The effect of a start request that passed its checks: admission with the live values (R112, R352, R362, R511). -/
def State.outArm (s : State) (n : Nat) : State × Status :=
  let r := s.admitAll (s.liveCharges n)
  let h := s.rd R.OUT_STN_SLATE_HANDLE n
  if r.2 then
    let s := if s.stencil && h != 0 then r.1.surfLock (hIdx h) (s.stnOwner n) else r.1
    (s.wr R.OUT_STAT_LC_STATE n lcARMED, .ok)
  else (r.1, .bandwidth)

/-- Every charge of a pipeline is released (R269). -/
def State.outUncharge (s : State) (n : Nat) : State :=
  let l := ((cSelect n :: cWriteback n :: (upFrom 1 7).map (cLayer n)).filter (fun c => s.chargeOf c != 0)).map (fun c => (c, 0))
  if l.isEmpty then s else s.takeCharges l

/-- A pipeline reaches STOPPED (R353, R362). -/
def State.outStopped (s : State) (n : Nat) : State :=
  let s := (s.outUncharge n).wr R.OUT_STAT_LC_STATE n lcSTOPPED
  let s := ((s.wr R.OUT_TMG_CTL_RUN n 0).wr R.OUT_STN_STAT_STALE_CNT n 0).wr R.OUT_STN_STAT_SLATE n 0
  { s.setPipe n (fun q => { q with cfg := none, rows := [], slateDue := false, slateFrames := 0 }) with inUse := tdel s.inUse n }

/-- The effect of a stop request (R41, R362). -/
def State.outStopReq (s : State) (n : Nat) : State :=
  if s.rd R.OUT_STAT_LC_STATE n = lcARMED then s.outStopped n
  else if s.rd R.OUT_STAT_LC_STATE n = lcRUNNING then s.wr R.OUT_STAT_LC_STATE n lcSTOPPING
  else s

/-- A start request to a pipeline. -/
def outStart (p n : Nat) (s : State) : State := s.gateM p (outAddr n 0) (s.outStartChecks p n) (fun s => s.outArm n)

/-- A stop request to a pipeline; a gang member's fails (R263). -/
def outStop (p n : Nat) (s : State) : State :=
  s.gate p (outAddr n 0) true [((!s.holds p kPipe n && p != pTwin && !isCore p) || s.gangMember n, .protected')] (fun s => s.outStopReq n)

/-! ### The switch line of a pipeline (R243, R353) -/

/-- The timecode of the newest frame of a port, which a street path receives with LY0 (R246). -/
def State.portTc (s : State) (p : Nat) : Option (Nat × Nat) :=
  (s.port p).frames.getLast?.bind (fun f => if f.tcValid then some (f.tc, f.ub) else none)

/-- What LY0 shows in the frame that begins (R236, R237, R252, R257, R283). -/
def State.ly0Now (s : State) (n : Nat) : Ly0 :=
  let k := s.selKind n
  let p := s.selNum n
  if k = selFRAME ∨ (k = selSTREET ∧ s.rd R.PLZ_DST_STAT_PATH n ≠ pathSTREET) then ly0OfShown (s.ctx p (s.rd R.OUT_TMG_FMT_TLN n)).shown
  else if k = selSTREET then .street p (s.portTc p)
  else if k = selARCADE then
    match tfind s.jobs (hIdx (s.selH n)) with
    | some j => .pic j.outStruct (j.shown.getD (jobBlack j)) none
    | none => .clear
  else if k = selSURFACE then .surf (s.selH n)
  else if k = selUNDERCOAT then (if p = 1 then .undercoat else .plane p)
  else if k = selXFEED then
    match (s.pipe n).xfNow with
    | some (fmt, pic) => if fmt = s.rd R.OUT_TMG_FMT_FMT n then .pic xfStruct pic none else .clear
    | none => .clear
  else .clear

/-- The values a frame uses, taken at the pipeline's switch line (R243, R367, R376). -/
def State.frameCfg (s : State) (n : Nat) : FrameCfg :=
  ⟨s.ly0Now n, (upFrom 0 8).map (s.layerLive n), s.rd R.OUT_UC_PAT_LIVE_PAT n, s.rd R.OUT_UC_COLOR_LIVE_YCBCR n, s.rd R.OUT_OM_CTL_LIVE_OM_SEL n,
    s.rdWords R.OUT_OM_MAT_LIVE_WORD n 0 12, s.on R.OUT_ANC_CFG_TC_INS n, (upFrom 0 8).map (s.skimRect n)⟩

/-- The handles a frame reads (R87, R339). -/
def State.frameHandles (s : State) (n : Nat) (c : FrameCfg) : List Nat :=
  (s.selH n :: s.rd R.OUT_STN_SLATE_HANDLE n :: (upFrom 0 8).map c.layerSurf).filter (· != 0)

/-- The Stencil check at a switch line (R353). -/
def State.stencilCheck (s : State) (n : Nat) : State :=
  if !s.stencil then s
  else
    let q := s.pipe n
    let slate := s.on R.OUT_STN_STAT_SLATE n
    let cnt := s.rd R.OUT_STN_STAT_STALE_CNT n
    let s := s.setPipe n fun q => { q with refresh := false, slateDue := false }
    if q.refresh then
      let s := (s.wr R.OUT_STN_STAT_STALE_CNT n 0).wr R.OUT_STN_LAST_FSN n (s.rd R.OUT_FSN_FSN n)
      if slate then
        ((s.wr R.OUT_STN_STAT_SLATE n 0).setPipe n fun q => { q with slateFrames := 0 }).lyrEvent n 4 .ok (s.pipeFmt n).sw q.slateFrames
      else s
    else if slate then
      ((s.wr R.OUT_STN_STAT_SLATE n 1).wr R.OUT_STN_STAT_STALE_CNT n (min 255 (cnt + 1))).setPipe n fun q => { q with slateFrames := q.slateFrames + 1 }
    else if s.rdk R.OUT_LYR_SURF_LIVE_HANDLE n 7 = 0 then s.wr R.OUT_STN_STAT_STALE_CNT n 0
    else if cnt + 1 ≤ s.rd R.OUT_STN_CFG_STALE_LIMIT n then s.wr R.OUT_STN_STAT_STALE_CNT n (cnt + 1)
    else
      let s := (s.wr R.OUT_STN_STAT_STALE_CNT n (cnt + 1)).wr R.OUT_STN_STAT_SLATE n 1
      (s.setPipe n fun q => { q with slateFrames := 1 }).stencilFault n 1

/-- A pipeline at its own switch line (R243, R353, R362, R401): an armed one begins its first frame. `k` is the number of the timeline's frame. -/
def State.pipeSwitch (s : State) (n k : Nat) : State :=
  let s : State := { s with eccPix := s.eccPix.filter (fun e => e.1 / 8 != n) }
  let armed := s.rd R.OUT_STAT_LC_STATE n == lcARMED
  let s := s.pipeAudioFrame n k
  let s := if armed then ((s.wr R.OUT_STAT_LC_STATE n lcRUNNING).wr R.OUT_TMG_CTL_RUN n 1).routesFadeIn n else s
  if s.rd R.OUT_STAT_LC_STATE n = lcRUNNING ∨ s.rd R.OUT_STAT_LC_STATE n = lcSTOPPING then
    let s := if armed then s.setPipe n fun q => { q with slateDue := false } else s
    let s := s.stencilCheck n
    let c := s.frameCfg n
    let s := s.setPipe n fun q => { q with cfg := some c, rows := [], trLine := none, tpfTold := 0, jxsTold := 0 }
    { s with inUse := tput s.inUse n (s.frameHandles n c) }
  else if (s.pipe n).refresh then
    (s.setPipe n fun q => { q with refresh := false }).wr R.OUT_STN_LAST_FSN n (s.rd R.OUT_FSN_FSN n)
  else s

/-! ### Insert records (R368 to R371) -/

/-- An insert record at the head of a ring (R369). -/
structure InsRec where
  nent : Nat
  hanc : Bool
  chroma : Bool
  line : Nat
  did : Nat
  sdid : Nat
  dc : Nat
  due : Nat
  udw : List Nat
deriving DecidableEq, Repr

/-- A record from the bytes of its entries (R229, R369): DID, SDID and DC in bytes 6, 7 and 8. -/
def insRecOf (b : List Nat) : InsRec :=
  let dc := leField b 8 1
  let words := leVal ((b.drop 32).take (ceilDiv (dc * 10) 8))
  ⟨leField b 0 1, bitAt (leField b 1 1) 1, bitAt (leField b 1 1) 2, leField b 2 2, leField b 6 1, leField b 7 1, dc, leField b 12 4,
    (upFrom 0 dc).map (fun k => bitsOf words (10 * k) 10)⟩

/-- The bytes of `n` entries from the consumer index, `host` giving those of a ring in host memory. -/
def State.ringEntries (s : State) (r : RingCtx) (n : Nat) (host : List (List Nat)) : List Nat :=
  (upFrom 0 n).flatMap (fun k => if r.host then host.getD k [] else memReadBytes s.hbm (entryAddr r (r.ci + k)) (entrySize r))

/-- A record as an ANCI record carries it (R582). -/
def InsRec.words (x : InsRec) : List Nat := [x.nent, b2n x.hanc, b2n x.chroma, x.line, x.did, x.sdid, x.dc, x.due] ++ x.udw

/-- The head record `x` leaves the ring; a primary records it (R582). -/
def State.ancPop (s : State) (n ring : Nat) (x : InsRec) : State :=
  let s := s.sendDet (s.rd R.OUT_TMG_FMT_TLN n) (s.rd R.OUT_FSN_FSN n) (.anci n x.words)
  match tfind s.rings ring with
  | none => s
  | some r => (s.setRing ring { r with ci := (r.ci + min (max 1 x.nent) (ringUsed r)) % 2 ^ 32 }).setPipe n fun q => { q with ancDue := none, ancWait := false }

/-- An event of a pipeline on its line in progress (R381). On an active line that it composes, an UNDERRUN or PIPE_FAULT of the line may still come, and
enters the ring first: the event waits for the end of the line, with the time at which it occurred (assumption 168). -/
def State.outHold (s : State) (n bit fsn line arg : Nat) : State :=
  if (activeRow (s.pipeFmt n) line).isSome ∧ (s.pipe n).cfg.isSome then s.setPipe n fun q => { q with held := q.held ++ [⟨bit, fsn, line, arg, s.epoch⟩] }
  else s.outEvent n bit .ok fsn line arg

/-- A record is dropped with a cause (R371). -/
def State.ancDrop (s : State) (n ring line cause : Nat) (x : InsRec) : State :=
  ((s.ancPop n ring x).inc R.OUT_CNT_ANC_DROP_COUNT n).outHold n 4 (s.rd R.OUT_FSN_FSN n) line (cause * 2 ^ 24 + x.did * 256 + x.sdid)

/-- Whether a record's words fit on a line, in its space and stream (R247, R370, R371): never on the switch line and the line after it. -/
def State.ancRoom (s : State) (n line : Nat) (x : InsRec) : Bool :=
  let f := s.pipeFmt n
  if line = f.sw ∨ line = f.sw + 1 ∨ (!x.hanc ∧ (activeRow f line).isSome) then false
  else decide (x.dc + 7 ≤ (s.roomLeft n line).of x.hanc (x.chroma && decide (625 < f.lines)))

/-- A record goes on the line in progress (R369, R370): the device computes parity and checksum. The framer takes ST 352 packets out (R174). -/
def State.ancPlace (s : State) (n : Nat) (x : InsRec) : State :=
  let s := s.inc R.OUT_CNT_ANC_INS_COUNT n
  if x.did = 0x41 ∧ x.sdid = 1 then s
  else s.setPipe n fun q =>
    { q with anc := q.anc ++ [⟨3, x.hanc, x.chroma && decide (625 < (s.pipeFmt n).lines), ancPacket x.did x.sdid x.udw⟩] }

/-- What becomes of the head record on a line (R370, R371). -/
inductive AncFate where
  /-- It is not due yet and holds back those behind it. -/
  | notDue
  /-- It is due and finds no room here. -/
  | wait
  | insert
  | drop (cause : Nat)
deriving DecidableEq, Repr

/-- The fate of the head record `x`, due from its LINE of FSN `due`, on a line (R370, R371). -/
def State.ancFate (s : State) (n line due : Nat) (x : InsRec) : AncFate :=
  let f := s.pipeFmt n
  let ahead := (s.rd R.OUT_FSN_FSN n + 2 ^ 32 - due) % 2 ^ 32
  if x.nent ≠ ancEntries x.dc ∨ (!x.hanc ∧ (activeRow f x.line).isSome) then .drop 3
  else if 2 ^ 31 ≤ ahead ∨ (ahead = 0 ∧ line < x.line) then .notDue
  else if 0 < ahead ∧ !(s.pipe n).ancWait then .drop 2
  else if 16 ≤ ahead * f.lines + line - x.line then .drop 1
  else if s.ancRoom n line x then .insert else .wait

/-- The head record meets its fate; true when it has left. -/
def State.ancMeet (s : State) (n ring line due : Nat) (x : InsRec) : State × Bool :=
  match s.ancFate n line due x with
  | .notDue => (s.setPipe n fun q => { q with ancDue := some due }, false)
  | .wait => (s.setPipe n fun q => { q with ancDue := some due, ancWait := true }, false)
  | .insert => ((s.ancPop n ring x).ancPlace n x, true)
  | .drop cause => (s.ancDrop n ring line cause x, true)

/-- Records from the head of the ring on one line (R370, R371), at most `fuel` of them. -/
def State.ancLine (s : State) (n line : Nat) (host : List (List Nat)) : Nat → State
  | 0 => s
  | fuel + 1 =>
    let ring := hIdx (s.rd R.OUT_ANC_RING_RING n)
    match tfind s.rings ring with
    | none => s
    | some r =>
      if ringUsed r = 0 then s
      else
        let nent := leField (s.ringEntries r 1 host) 0 1
        let x := insRecOf (s.ringEntries r (max 1 (min nent (ringUsed r))) host)
        if ringUsed r < x.nent ∧ x.nent = ancEntries x.dc then s
        else
          let fsn := s.rd R.OUT_FSN_FSN n
          let due := (s.pipe n).ancDue.getD (if x.due ≠ 0 then x.due else if line ≤ x.line then fsn else (fsn + 1) % 2 ^ 32)
          let m := s.ancMeet n ring line due x
          if m.2 then m.1.ancLine n line (host.drop (max 1 x.nent)) fuel else m.1

/-- A record as an ANCI record carries it. -/
def insRecOfWords (w : List Nat) : InsRec :=
  ⟨w.getD 0 0, w.getD 1 0 == 1, w.getD 2 0 == 1, w.getD 3 0, w.getD 4 0, w.getD 5 0, w.getD 6 0, w.getD 7 0, w.drop 8⟩

/-- Inserting in MIRROR: the records are the primary's, in the order it took them, not the ring's (R582); what becomes of each follows the same rules. -/
def State.ancFollow (s : State) (n line : Nat) : Nat → State
  | 0 => s
  | fuel + 1 =>
    match s.recFor (fun r => match r.body with | .anci p _ => p == n | _ => false) with
    | none => s
    | some r =>
      (match r.body with
       | .anci _ w =>
         let x := insRecOfWords w
         let m := s.ancMeet n (hIdx (s.rd R.OUT_ANC_RING_RING n)) line (if x.due ≠ 0 then x.due else r.fsn) x
         if m.2 then (m.1.recUse r).ancFollow n line fuel else m.1
       | _ => s)

/-! ### Skim checks (R377 to R380) and writeback (R348) -/

/-- The CRC of a rectangle over the rows sent (R377 to R379). -/
def skimCrc (struct : Nat) (rows : Tab (List Pixel)) (xy wh : Nat) : Nat :=
  crc32c ((upFrom (hi16 xy) (hi16 wh)).flatMap (fun y => (skimRow struct (lo16 xy) (lo16 wh) (tget [] rows y)).flatMap (fun v => [v % 256, v / 256])))

/-- A rectangle at the end of a frame (R380). -/
def State.skimEnd (s : State) (n r line fsn : Nat) (x : Nat × Nat × Nat × Nat) : State :=
  let (xy, wh, exp, mode) := x
  if mode ≠ 1 ∧ mode ≠ 2 then s.wrk R.OUT_SKIM_STATE_FAILING n r 0
  else
    let crc := skimCrc (s.pipeStruct n) (s.pipe n).rows xy wh
    let s := (s.wrk R.OUT_SKIM_CRC_CRC n r crc).wrk R.OUT_SKIM_CRC_FSN_FSN n r fsn
    let failing := s.rdk R.OUT_SKIM_STATE_FAILING n r == 1
    if mode = 2 then s.wrk R.OUT_SKIM_STATE_FAILING n r 0
    else if crc = exp then
      (if failing then
        ((s.wrk R.OUT_SKIM_STATE_FAILING n r 0).setPipe n fun q => { q with skimMiss := tdel q.skimMiss r }).outEvent n 6 .ok fsn line
          (r * 2 ^ 32 + tget 0 (s.pipe n).skimMiss r)
       else s)
    else
      let s := s.addSat R.OUT_SKIM_FAILS_COUNT n r 1
      if failing then s.setPipe n fun q => { q with skimMiss := tput q.skimMiss r (tget 0 q.skimMiss r + 1) }
      else
        ((s.wrk R.OUT_SKIM_STATE_FAILING n r 1).setPipe n fun q => { q with skimMiss := tput q.skimMiss r 1 }).outEvent n 5 .ok fsn line (r * 2 ^ 32 + crc)

/-- The picture sent in the frame. -/
def State.sentPic (s : State) (n : Nat) : Pic := (upFrom 0 (s.pipeFmt n).h).map (fun y => tget [] (s.pipe n).rows y)

/-- The written frame completes at the end of its active picture (R348). -/
def State.writeback (s : State) (n : Nat) : State :=
  if s.on R.OUT_WB_CFG_ENABLE n then
    let struct := s.pipeStruct n
    let pic := s.sentPic n
    s.setSurf (hIdx (s.rd R.OUT_WB_SURF_HANDLE n)) fun x => { x with shown := some (struct, pic) }
  else s

/-- The frame in progress completes (R380, R381): writeback, FRAME_DONE, Skim, with the FSN of the frame. -/
def State.frameEnds (s : State) (n line fsn : Nat) : State :=
  match (s.pipe n).cfg with
  | none => s
  | some c =>
    let s := { s.writeback n with inUse := tdel s.inUse n }
    let s := if s.twin then s.setPipe n fun q => { q with sentPic := some (fsn, s.rd R.OUT_TMG_FMT_FMT n, s.pipeStruct n, s.sentPic n) } else s
    let s := s.outEvent n 2 .ok fsn line (s.rd R.OUT_STAT_ABORTED n)
    if s.stencil then (upFrom 0 8).foldl (fun s r => s.skimEnd n r line fsn (c.skim.getD r (0, 0, 0, 0))) s else s

/-- The line after a frame's last active line (R381): what a frame in progress ends with, then VBLANK, which the raster has whether it is composed or
black. -/
def State.frameDone (s : State) (n line fsn : Nat) : State :=
  (s.frameEnds n line fsn).outEvent n 0 .ok fsn line (if (s.pipeFmt n).act2 = 0 then 0 else 2)

/-! ### A raster line (R359, R366) -/

/-- The configuration of a line: LY0 is transparent from the first transparent line of a street frame (R253). -/
def State.lineCfg (s : State) (n line : Nat) (c : FrameCfg) : FrameCfg :=
  match c.ly0, (s.pipe n).trLine with
  | .street _ _, some v => if v / 16 ≤ line then { c with ly0 := .clear } else c
  | _, _ => c

/-- The timecode a frame's packet carries (R367). -/
def FrameCfg.tc (c : FrameCfg) : Option (Nat × Nat) :=
  if !c.tcIns then none else match c.ly0 with | .pic _ _ tc => tc | .street _ tc => tc | _ => none

/-- The row of the line FIFO that a street path reads for row `y` (R36, R250, R253): among the lines that the destination's buffer reaches back to. -/
def State.streetRow (s : State) (n p y : Nat) : Option (List Pixel) :=
  (((s.port p).fifo.take (s.leadMax n)).find? (fun e => e.1 == y)).map (·.2)

/-- The row of the port's picture that LY0 needs for row `y`, in the frame in progress. -/
def State.streetNeeds (s : State) (n y : Nat) (c : FrameCfg) : Option Nat :=
  streetNeed (s.pipeFmt n) (c.layers.getD 0 ⟨0, 0, 0, 0, 0, 0, 0, 0, 0, []⟩) y

/-- A street frame reads the FIFO for row `y` (R225, R253): where the port has left VALID, or gives no lines because it stopped, cause 4; where the row
that is needed is not in the FIFO, cause 3; once in a frame. -/
def State.streetCheck (s : State) (n line y : Nat) (c : FrameCfg) : State :=
  match c.ly0 with
  | .street p _ =>
    if (s.pipe n).trLine.isSome then s
    else if s.rd R.INP_STAT_IN_STATE p ≠ inVALID ∨ (s.rd R.INP_STAT_LC_STATE p ≠ lcRUNNING ∧ s.rd R.INP_STAT_LC_STATE p ≠ lcSTOPPING) then
      s.streetMiss n line 4
    else if (s.streetNeeds n y c).any (fun r => (s.streetRow n p r).isNone) then s.streetMiss n line 3
    else s
  | _ => s

/-- The row that LY0 reads of a street path, if it reads one. -/
def State.fifoRow (s : State) (n y : Nat) (c : FrameCfg) : List Pixel :=
  match c.ly0 with | .street p _ => ((s.streetNeeds n y c).bind (s.streetRow n p)).getD [] | _ => []

/-- The active row of a line of a running pipeline (R317, R348, R373): after an underrun it fetches nothing more for the frame. -/
def State.pipeRow (s : State) (n line y : Nat) (c : FrameCfg) : State :=
  if s.on R.OUT_STAT_ABORTED n then s.setPipe n fun q => { q with rows := tput q.rows y (s.rowUnder n c) }
  else
    let s := ((upFrom 0 8).foldl (fun s l => s.decodeErrors n l c) s.readFixed).streetCheck n line y c
    s.setPipe n fun q => { q with rows := tput q.rows y (s.rowSent n (s.lineCfg n line c) (s.fifoRow n y c) y) }

/-- What a line carries besides its picture (R366 to R371, R402, R403), whatever the picture shows; the timecode is that of a frame in progress. The
records of a ring are taken until one stays. -/
def State.pipeAnc (s : State) (n line : Nat) (host : List (List Nat)) : State :=
  let s := s.placeAudio n line
  let s := match (if line = s.rd R.OUT_ANC_CFG_TC_LINE n then (s.pipe n).cfg.bind FrameCfg.tc else none) with
    | some (w, ub) => s.setPipe n fun q => { q with anc := q.anc ++ [⟨2, false, false, atcPacket (tcFive (s.rd R.OUT_TMG_FMT_FMT n)) 0 w ub⟩] }
    | none => s
  let h := s.rd R.OUT_ANC_RING_RING n
  if h = 0 ∨ s.badHandle h then s
  else if s.modeCode = mMIRROR then s.ancFollow n line (s.recs.length + 1)
  else s.ancLine n line host (match tfind s.rings (hIdx h) with | some r => ringUsed r + 1 | none => 0)

/-- Whether the raster of a pipeline runs: its timeline runs, its domain is ON or in reset (R623: black continues), it is not another's member (R263,
R363, R618). -/
def State.rasterRuns (s : State) (n : Nat) : Bool :=
  decide (n < s.lanes) && s.modeCode != mLIMP && !s.gangMember n && s.tlnRuns (s.rd R.OUT_TMG_FMT_TLN n) && (s.domain (0x180 + n)).st % 3 == 0

/-- Whether raster line `line` of a pipeline happens. -/
def State.lineRuns (s : State) (n line : Nat) : Bool := s.rasterRuns n && line != 0 && decide (line ≤ (s.pipeFmt n).lines)

/-- The length a pending cut adds to the frame that ends, in whole ns: (T − A) mod P (R484). -/
def State.cutNs (s : State) (t : Nat) : Nat :=
  let f := fmtD (s.rd R.REF_TLN_CFG_FMT t)
  (((((s.rd R.REF_TLN_PHASE_NS t : Nat) : Int) - (tget Tln.reset s.tln t).phase) * f.num) % (periodM f : Int) / f.num).toNat

/-- The ns by which a cut of a pipeline's timeline lengthens the frame `fsn` (R484): a cut that waits for the boundary, or the last one made. -/
def State.cutLen (s : State) (n fsn : Nat) : Nat :=
  let t := s.rd R.OUT_TMG_FMT_TLN n
  let x := tget Tln.reset s.tln t
  if s.on R.REF_TLN_STAT_CUT_PEND t ∧ fsn = s.fsn t then s.cutNs t
  else match x.cut with
    | some c => if x.n + fsn = c.1 + s.fsn t then c.2 else 0
    | none => 0

/-- Whether a line past the end of a pipeline's raster starts before the lengthened frame ends (R484). -/
def State.pastEnd (s : State) (n fsn line : Nat) : Bool :=
  let f := s.pipeFmt n
  s.rasterRuns n && decide (f.lines < line) && decide ((line - f.lines - 1) * periodM f < s.cutLen n fsn * (f.num * f.lines))

/-- When line `line` of FSN `fsn` of a pipeline's raster starts (R359): T(k, 1) of its timeline, whole lines of its own format, and OFS; none for another
frame than the timeline's in progress, the one before it or the one after it. -/
def State.pipeLineNs (s : State) (n fsn line : Nat) : Option Nat :=
  let t := s.rd R.OUT_TMG_FMT_TLN n
  let x := tget Tln.reset s.tln t
  let d := sext 32 ((fsn + 2 ^ 32 - s.fsn t) % 2 ^ 32)
  if d < -1 ∨ 1 < d then none else some (lineStart (s.pipeFmt n) x.phase ((x.n : Int) + d).toNat line + s.rd R.OUT_TMG_OFS_NS n)

/-- Time passes until a line of a pipeline starts (R359). -/
def State.pipeTime (s : State) (n fsn line : Nat) : State :=
  match s.pipeLineNs n fsn line with
  | some t => s.epochTo t
  | none => s

/-- The events that waited for the end of the line enter the ring, each with the time at which it occurred (R381). -/
def State.outFlush (s : State) (n : Nat) : State :=
  let l := (s.pipe n).held
  if l.isEmpty then s
  else
    l.foldl (fun (s : State) e => { ({ s with epoch := e.time }).outEvent n e.bit .ok e.fsn e.line e.arg with epoch := s.epoch })
      (s.setPipe n fun q => { q with held := [] })

/-- A raster line of a pipeline starts (R359, R362, R363, R381), and the line before it has left; past the raster's end of a frame that a cut lengthens it is
blanking (R484). `fsn` and `line` are those of its own raster, `host` the
insert records of a ring in host memory. In LIMP it is a line of the lane's black (R154). A start between line 1, where a stopping pipeline
has reached STOPPED, and the switch line of that frame is effective at that switch line (assumption 158). -/
def pipelineLine (n fsn line : Nat) (host : List (List Nat)) (s : State) : State :=
  let f := s.pipeFmt n
  let t := s.rd R.OUT_TMG_FMT_TLN n
  let s := s.outFlush n
  if s.lanes ≤ n ∨ line = 0 then s
  else if s.modeCode = mLIMP then s.limpLine n fsn line
  else if s.pastEnd n fsn line then ((s.txEnd n).wr R.OUT_STAT_LINE n 0).blankLine n fsn line
  else if s.gangMember n ∨ f.lines < line then s
  else if !s.lineRuns n line then (s.wr R.OUT_STAT_LINE n 0).setPipe n fun q => { q with lineW := [], lineA := [], anc := [] }
  else
    let s := ((((s.txEnd n).pipeTime n fsn line).wr R.OUT_STAT_LINE n line).wr R.OUT_FSN_FSN n fsn)
    let doneLine := if lastActive f = f.lines then 1 else lastActive f + 1
    let s := if line = doneLine then s.frameDone n line (if doneLine = 1 then (fsn + 2 ^ 32 - 1) % 2 ^ 32 else fsn) else s
    let s := if line = 1 ∧ s.rd R.OUT_STAT_LC_STATE n = lcSTOPPING ∧ (s.pipe n).cfg.isSome then s.outStopped n else s
    let s := if line = 1 then s.wr R.OUT_STAT_ABORTED n 0 else s
    let x := tget Tln.reset s.tln t
    let s := if line = f.sw then s.pipeSwitch n (x.n + fsn - s.fsn t) else s
    let s := if f.act2 ≠ 0 ∧ line = f.act1 + f.f1 then s.outEvent n 0 .ok fsn line 1 else s
    let s : State := match (s.pipe n).cfg, activeRow f line with
      | some c, some y => s.pipeRow n line y c
      | _, _ => s
    let s := s.pipeAnc n line host
    if s.on R.OUT_TMG_CTL_LMATCH_EN n ∧ line = s.rd R.OUT_TMG_CTL_LMATCH n then s.outHold n 1 fsn line 0 else s

/-! ### Underrun and line-store faults (R373, R374, R362) -/

/-- The line in progress underruns: the rest of the frame carries UC_COLOR (R373, R374). -/
def State.underrun (s : State) (n mask : Nat) (slate : Bool) : State :=
  let line := s.rd R.OUT_STAT_LINE n
  match (s.pipe n).cfg with
  | none => s
  | some c =>
    if s.on R.OUT_STAT_ABORTED n then s
    else
      let s := (s.wr R.OUT_STAT_ABORTED n 1).inc R.OUT_CNT_UNDERRUN_COUNT n
      let s := ((s.wr R.OUT_UR_LAST_SLATE n (b2n slate)).wr R.OUT_UR_LAST_MASK n mask).wr R.OUT_UR_LAST_LINE n line
      let s := s.wr R.OUT_UR_FSN_FSN n (s.rd R.OUT_FSN_FSN n)
      let s := s.outEvent n 3 .ok (s.rd R.OUT_FSN_FSN n) line (b2n slate * 256 + mask % 256)
      match activeRow (s.pipeFmt n) line with
      | none => s
      | some y => s.setPipe n fun q => { q with rows := tput q.rows y (s.rowUnder n c) }

/-- The fetches of some layers, or of the slate, for the active line in progress are not complete in time. -/
def lineUnderrun (n mask : Nat) (slate : Bool) (s : State) : State :=
  if s.lanes ≤ n ∨ (activeRow (s.pipeFmt n) (s.rd R.OUT_STAT_LINE n)).isNone then s else s.underrun n mask slate

/-- An uncorrectable line-store error (R362): the rest of the frame is an underrun, PIPE_FAULT is raised, the pipeline stops. DESIGN
CHOICE (assumption 128): in another state than RUNNING the error changes nothing and is not logged. -/
def lineStoreEccFault (n addr : Nat) (s : State) : State :=
  if s.lanes ≤ n ∨ s.rd R.OUT_STAT_LC_STATE n ≠ lcRUNNING then s
  else
    let s := s.underrun n 0 false
    let s := s.flog (0x180 + n) 0x10 .eccUncorr false (sramArg 2 n addr)
    (s.outEvent n 7 .eccUncorr (s.rd R.OUT_FSN_FSN n) (s.rd R.OUT_STAT_LINE n) 0).wr R.OUT_STAT_LC_STATE n lcSTOPPING

/-! ### The insert ring and Skim sets -/

/-- A write of OUT.ANC_RING (R362, R368). -/
def ancRingWrite (p n ring : Nat) (s : State) : State :=
  s.gate p (outAddr n 0x24) true ((!s.holds p kPipe n, .protected') :: s.ringChecks (ring % 2 ^ 32) (s.obj kPipe n).owner true 3)
    (fun s => (s.wr R.OUT_ANC_RING_RING n ring).setPipe n fun q => { q with ancDue := none, ancWait := false })

/-- Create the Skim set of a pipeline (R375). -/
def State.skimCreateBody (s : State) (ss n : Nat) : AdmAns :=
  if (s.obj kSkim n).live then ⟨s.refuse 10, .noContext, 0, 0⟩
  else
    let s := s.issue kSkim n ss
    ⟨s.wr R.OUT_SKIM_SET_HANDLE n (s.handleOf kSkim n), .ok, s.handleOf kSkim n, 0⟩

/-- SKIM_CREATE, opcode 0x0061 (R375). -/
def skimCreate (f : Nat) (payload : List Nat) (s : State) : State :=
  s.admin f 0x61 payload []
    (fun t => (!s.stencil || (hKind t.object == kPipe && decide (s.lanes ≤ hIdx t.object)), .unitAbsent) :: (hKind t.object == kPipe && s.gangMember (hIdx t.object), .protected')
      :: s.admChecks f t 0 0 payload true false ++ s.ownChecks t.ss t.object kPipe)
    (fun t => s.skimCreateBody t.ss (hIdx t.object))

/-- OUT_START. -/
def execOutStart (p n : Nat) (s : State) : Res := .next (s.regRec (outAddr n 0) 1 (outStart p n s))
/-- OUT_STOP. -/
def execOutStop (p n : Nat) (s : State) : Res := .next (s.regRec (outAddr n 0) 2 (outStop p n s))
/-- LINE_UNDERRUN. -/
def execLineUnderrun (n mask : Nat) (slate : Bool) (s : State) : Res := .next (lineUnderrun n mask slate s)
/-- LINE_STORE_ECC_FAULT. -/
def execLineStoreEccFault (n addr : Nat) (s : State) : Res := .next (lineStoreEccFault n addr s)
/-- ANC_RING_WRITE. -/
def execAncRingWrite (p n ring : Nat) (s : State) : Res := .next (s.regRec (outAddr n 0x24) ring (ancRingWrite p n ring s))
/-- SKIM_CREATE. -/
def execSkimCreate (f : Nat) (payload : List Nat) (s : State) : Res := .next (skimCreate f payload s)

end Sys2Proof.Machine
end

