-- ==== Sys2Proof/Machine/CueOps.lean ====
section
/-! DEFINITION. Cue threads: the instruction word (R425), the load check (R420), programs, binding, start and stop (R415 to R419), issue,
status, faults and events (R424, R426, R443, R448), the stage buffer (R434), waits (R429). -/

namespace Sys2Proof.Machine

open Sys2Proof

/-! ### Threads -/

/-- The states of a thread (CUE.STAT.STATE, R417). -/
def cUNBOUND : Nat := 0
def cSTOPPED : Nat := 1
def cRUNNING : Nat := 2
def cWAITING : Nat := 3
def cFAULTED : Nat := 4

/-- A thread after reset. -/
def CueX.reset : CueX := ⟨0, 0, [], [], .none, none, 0⟩

/-- A thread besides its registers. -/
def State.cue (s : State) (t : Nat) : CueX := tget CueX.reset s.cueX t
/-- Change a thread. -/
def State.setCue (s : State) (t : Nat) (f : CueX → CueX) : State := { s with cueX := tmod CueX.reset s.cueX t f }
/-- The state of a thread. -/
def State.cueState (s : State) (t : Nat) : Nat := s.rd R.CUE_STAT_STATE t
/-- The instructions of a thread's program. -/
def State.cueWords (s : State) (t : Nat) : List Nat := tget [] s.progs (hIdx (s.rd R.CUE_PROG_HANDLE t))
/-- The index of the next instruction of a thread. -/
def State.cuePc (s : State) (t : Nat) : Nat := s.rd R.CUE_STAT_PC t
/-- The timeline of a thread. -/
def State.cueTln (s : State) (t : Nat) : Nat := s.rd R.CUE_STAT_TLN t
/-- General register `r` of a thread (R422). -/
def State.cueG (s : State) (t r : Nat) : Nat := s.rdk R.CUE_G_VALUE t r
/-- Parameter word `i` of a thread (R423). -/
def State.cueP (s : State) (t i : Nat) : Nat := s.rdk R.CUE_PARAM_VALUE t i
/-- Set a general register; arithmetic is modulo 2^32 (R422). -/
def State.setG (s : State) (t r v : Nat) : State := s.wrk R.CUE_G_VALUE t r v

/-- FSN and line of the last event of a thread's timeline that its engine has received; none before the first (R424, R435). -/
def State.lastEvent (s : State) (t : Nat) : Option (Nat × Nat) := tfind s.engEvt (16 * (t / 16) + s.cueTln t)

/-- A line event of timeline `tl` reaches the cue engines that are ON (R45). -/
def State.engineEvents (s : State) (tl l : Nat) : State :=
  let on' := (upFrom 0 10).filter (fun e => s.threadPresent (16 * e) && (s.domain (0x20 + e)).st == 0)
  { s with engEvt := on'.foldl (fun a e => tput a (16 * e + tl) (s.fsn tl, l)) s.engEvt }

/-- The format of a timeline. -/
def State.tlnFmt (s : State) (tl : Nat) : Format := fmtD (s.rd R.REF_TLN_CFG_FMT tl)

/-- The next target N of a COMMIT of a thread (R435). -/
def State.nextTarget (s : State) (t : Nat) : Option Nat :=
  (s.lastEvent t).map fun e =>
    let tl := s.cueTln t
    let k := kerbOf (s.tlnFmt tl) (s.rd R.REF_TLN_CFG_KERB tl)
    let n := if e.2 < k.1 then e.1 else e.1 + 1
    (if k.2 then n + 1 else n) % 2 ^ 32

/-! ### Events of a thread (R442, R448) -/

/-- An entry into the thread's ring, if one is bound, with the program's handle as SOURCE. -/
def State.cueEntry (s : State) (t code : Nat) (st : Status) (fsn : Option Nat) (occ arg : Nat) : State :=
  let e := (s.lastEvent t).getD (0, 0)
  if (s.cue t).ring = 0 then s
  else s.ringPushBy (some t) (hIdx (s.cue t).ring)
    (eventEntry (s.rd R.CUE_PROG_HANDLE t) code st.code (fsn.getD e.1) e.2 occ s.epochStamp (t * 2 ^ 32 + arg)) false

/-- FAULT, HALTED or C_LATE (bit 0 to 2): flag, counter and entry. -/
def State.cueEvent (s : State) (t bit : Nat) (st : Status) (fsn : Option Nat) (arg : Nat) : State :=
  let s := s.flag R.CUE_EVT_FLAGS 0x00800028 t 0 bit
  s.cueEntry t (0x0801 + bit) st fsn (s.rdk (occFld 0x00800028 bit) t 0) arg

/-! ### State changes (R417, R443) -/

/-- The stage buffer of a thread becomes `l`; CUE.STAT.STAGED counts it. -/
def State.setStage (s : State) (t : Nat) (l : List StageEnt) : State :=
  (s.setCue t fun x => { x with stage := l }).wr R.CUE_STAT_STAGED t l.length

/-- A thread leaves its execution for a state: stage buffer discarded, no wait, no COMMIT pending. -/
def State.cueHalt (s : State) (t st : Nat) : State :=
  let s := (s.setStage t []).setCue t fun x => { x with wait := .none, woken := none }
  (s.wr R.CUE_STAT_CPEND t 0).wr R.CUE_STAT_STATE t st

/-- THREAD_STOP, IDLE or LIMP: a RUNNING or WAITING thread stops (R417). -/
def State.cueStop (s : State) (t : Nat) : State :=
  if s.cueState t = cRUNNING ∨ s.cueState t = cWAITING then s.cueHalt t cSTOPPED else s

/-- A thread faults (R443): `ent` is the failing stage entry, 0xFF none. -/
def State.cueFault (s : State) (t : Nat) (st : Status) (ent : Nat) : State :=
  let pc := s.cuePc t
  let s := ((s.wr R.CUE_FAULT_STATUS t st.code).wr R.CUE_FAULT_PC t pc).wr R.CUE_FAULT_ENT_ENTRY t ent
  (s.cueEvent t 0 st none pc).cueHalt t cFAULTED

/-- A thread goes on at `pc`; running past the last instruction faults (R427). -/
def State.cueNext (s : State) (t pc : Nat) : State :=
  let s := (s.wr R.CUE_STAT_PC t pc).wr R.CUE_STAT_STATE t cRUNNING
  if (s.cueWords t).length ≤ pc then s.cueFault t .decode 0xFF else s

/-- An instruction that can return a status succeeds: S is SC_OK (R424). -/
def State.cueOk (s : State) (t pc : Nat) : State := (s.wr R.CUE_S_S t 0).cueNext t pc

/-! ### The instruction word (R425) -/

/-- The fields of an instruction word. -/
structure Ins where
  op : Nat
  gd : Nat
  gs : Nat
  r : Bool
  tr : Bool
  x : Nat
  sel : Nat
  imm : Nat
deriving DecidableEq, Repr

/-- The fields of a word. -/
def insOf (w : Nat) : Ins := ⟨bitsOf w 56 8, bitsOf w 52 4, bitsOf w 48 4, bitAt w 47, bitAt w 46, bitsOf w 40 6, bitsOf w 32 8, bitsOf w 0 32⟩

/-- What an instruction uses: GD, an operand (IMM or g(s) under M.R), GS by itself, SEL, the largest IMM without an operand, M.X. -/
structure InsForm where
  gd : Bool
  opnd : Bool
  gs : Bool
  sel : Bool
  immMax : Nat
  x : Nat
deriving DecidableEq, Repr

/-- The forms of the instructions, by opcode (R427 to R442); none for an undefined opcode. -/
def insForm : Nat → Option InsForm
  | 0x00 | 0x05 | 0x07 | 0x62 => some ⟨false, false, false, false, 0, 0⟩
  | 0x01 | 0x04 | 0x20 | 0x23 => some ⟨false, true, false, false, 0, 0⟩
  | 0x02 | 0x03 | 0x06 | 0x10 | 0x11 | 0x12 | 0x13 | 0x14 | 0x15 | 0x16 | 0x19 | 0x1A => some ⟨true, true, false, false, 0, 0⟩
  | 0x17 => some ⟨true, true, false, false, 0, 1⟩
  | 0x18 => some ⟨true, true, false, false, 0, 3⟩
  | 0x21 => some ⟨false, true, false, false, 0, 1⟩
  | 0x22 => some ⟨true, false, true, false, 0xFFFF, 0⟩
  | 0x30 => some ⟨false, true, false, true, 0, 0x1F⟩
  | 0x31 | 0x33 => some ⟨false, true, false, true, 0, 0xF⟩
  | 0x32 | 0x34 => some ⟨false, true, false, true, 0, 7⟩
  | 0x35 => some ⟨false, true, false, true, 0, 0⟩
  | 0x36 => some ⟨false, false, true, false, 0, 3⟩
  | 0x40 | 0x41 | 0x42 | 0x43 => some ⟨true, true, false, false, 0, 0⟩
  | 0x50 | 0x52 => some ⟨false, true, false, false, 0, 1⟩
  | 0x51 => some ⟨true, true, false, true, 0, 0⟩
  | 0x60 => some ⟨true, false, false, false, 0x7F, 0⟩
  | 0x61 => some ⟨true, true, false, false, 0, 0⟩
  | _ => none

/-- The length of the parameter run an instruction reads from p[b] (R430, R442); 0 when it reads none. -/
def runLen (i : Ins) : Nat :=
  if i.op = 0x31 then (if bitAt i.x 3 then 2 else 3)
  else if i.op = 0x32 ∨ i.op = 0x34 ∨ i.op = 0x61 then 4
  else if i.op = 0x33 then (if bitAt i.x 3 then 13 else 12)
  else if i.op = 0x35 then 2 else 0

/-- Whether an index of LDP is defined (R424). -/
def ldpIndex (i : Nat) : Bool := decide (i < 32) || (decide (0x40 ≤ i) && decide (i ≤ 0x46))

/-- Whether an instruction of a program of `count` instructions fails the load (R420). -/
def insBad (count : Nat) (i : Ins) : Bool :=
  match insForm i.op with
  | none => true
  | some f =>
    (!f.gd && i.gd != 0) || (!f.sel && i.sel != 0) || (i.x &&& f.x) != i.x
      || (if f.opnd then (if i.r then i.imm != 0 else i.gs != 0) else i.r || decide (f.immMax < i.imm) || (!f.gs && i.gs != 0))
      || ((i.op == 0x18 || i.op == 0x36) && i.x == 3) || (i.op == 0x36 && i.x != 0 && i.gs != 0)
      || ((i.op == 1 || i.op == 2 || i.op == 3 || i.op == 4 || i.op == 6) && !i.r && decide (count ≤ i.imm))
      || (i.op == 0x19 && !i.r && !ldpIndex i.imm) || (i.op == 0x1A && !i.r && decide (31 < i.imm))
      || (i.op == 0x30 && decide (351 < i.sel + 256 * (i.x / 16)))
      || (decide (0x31 ≤ i.op) && decide (i.op ≤ 0x35) && decide (95 < i.sel))
      || ((i.op == 0x31 || i.op == 0x33) && bitAt i.x 3 && i.x % 8 != 0)
      || (runLen i != 0 && !i.r && decide (32 < i.imm + runLen i))

/-- The first instruction that fails the load. -/
def firstBad (count : Nat) : Nat → List Nat → Option Nat
  | _, [] => none
  | k, w :: ws => if insBad count (insOf w) then some k else firstBad count (k + 1) ws

/-! ### Programs (R419 to R421) -/

/-- The `n` 64-bit little-endian words of a byte list. -/
def words64 : Nat → List Nat → List Nat
  | 0, _ => []
  | n + 1, bs => leVal (bs.take 8) :: words64 n (bs.drop 8)

/-- The instruction slots in use (R419). -/
def State.slotsUsed (s : State) : Nat := s.progs.foldl (fun a e => a + e.2.length) 0

/-- A program enters the store for a session; none when no index or too few slots are free (R419). -/
def State.progStore (s : State) (ss : Nat) (ws : List Nat) : Option (State × Nat) :=
  match s.freeIndex kProgram 0 with
  | none => none
  | some i =>
    if 2097152 < s.slotsUsed + ws.length then none
    else
      let s := s.issue kProgram i ss
      some ({ s with progs := tput s.progs i ws }, s.handleOf kProgram i)

/-- PROGRAM_LOAD, opcode 0x0030 (R419, R420): a load that fails names the first failing instruction in RESULT. -/
def programLoad (f : Nat) (payload : List Nat) (s : State) : State :=
  match tfind s.taken f with
  | none => s
  | some t =>
    let count := t.payLen / 8
    let ws := words64 count payload
    let bad := if t.payLen % 8 ≠ 0 ∨ 65536 < count then none else firstBad count 0 ws
    let st := check ([ (t.payLen % 8 != 0 || bad.isSome, .decode) ] ++ s.admChecks f t 8 524288 payload true false)
    if t.opcode ≠ 0x30 then s
    else if st ≠ .ok then s.complete f t st 0 (if st = .decode then bad.getD 0 else 0)
    else
      match s.progStore t.ss ws with
      | none => (s.refuse 9).complete f t .noContext 0 0
      | some r => r.1.finish f t payload [] .ok r.2 count

/-! ### Binding, start and stop (R415 to R418) -/

/-- The lowest UNBOUND thread of T128 to T159 (R415). -/
def State.freeThread (s : State) : Option Nat := (upFrom 128 32).find? (fun t => s.cueState t == cUNBOUND)

/-- The thread a THREAD_BIND names. -/
def State.bindThread (s : State) (inl : List Nat) : Option Nat :=
  let th := leField inl 0 2
  if th = 0xFFFF then s.freeThread else if th < 160 then some th else none

/-- Whether another host session has bound a thread (R416, R418). -/
def State.cueForeign (s : State) (ss t : Nat) : Bool := s.cueState t != cUNBOUND && s.cueSess t != 0 && s.cueSess t != ss

/-- The checks of THREAD_BIND (R416). -/
def State.bindChecks (s : State) (ss : Nat) (inl : List Nat) : List (Bool × Status) :=
  let th := leField inl 0 2
  let pr := leField inl 4 4
  let rg := leField inl 8 4
  let isProg := !s.badHandle pr && hKind pr == kProgram
  let isRing := !s.badHandle rg && hKind rg == kRing
  let o := s.bindThread inl
  [ ((decide (159 < th) && th != 0xFFFF) || decide (16 ≤ leField inl 2 1) || leField inl 3 1 != 0 || !allZero (inl.drop 16), .decode),
    (o.any (fun t => !s.threadPresent t), .unitAbsent),
    (o.any (fun t => s.threadPresent t && (s.domain (0x20 + t / 16)).st == 2), .domainOff),
    (o.any (s.cueForeign ss) || (isProg && !s.owns ss pr) || (isRing && !s.owns ss rg), .protected'),
    (s.badHandle pr || (rg != 0 && s.badHandle rg), .badHandle),
    ((!s.badHandle pr && hKind pr != kProgram) || (rg != 0 && !s.badHandle rg && hKind rg != kRing)
      || (isRing && (tfind s.rings (hIdx rg)).any (·.hostProduces)), .wrongKind),
    ((isProg && s.isDraining pr) || (isRing && s.isDraining rg), .draining),
    (o.any (fun t => s.cueState t == cRUNNING || s.cueState t == cWAITING), .unitRunning),
    (isProg && decide ((tget [] s.progs (hIdx pr)).length ≤ leField inl 12 4), .lenExceeds),
    ((formatOf (s.rd R.REF_TLN_CFG_FMT (leField inl 2 1 % 16))).isNone, .timeline),
    (th == 0xFFFF && o.isNone, .noContext) ]

/-- A thread is bound (R417): parameters and counters clear. -/
def State.cueBind (s : State) (t ssH prog ring tl entry : Nat) : State :=
  let s := (((s.wr R.CUE_PROG_HANDLE t prog).wr R.CUE_SESS_HANDLE t ssH).wr R.CUE_STAT_TLN t tl).wrWords R.CUE_PARAM_VALUE t 0 (List.replicate 32 0)
  let s := (s.wr R.CUE_CNT_COMMIT_COUNT t 0).wr R.CUE_CNT_LATE_COUNT t 0
  (s.cueHalt t cSTOPPED).setCue t fun x => { x with entry := entry, ring := ring, stack := [] }

/-- THREAD_BIND, opcode 0x0031 (R415, R416). -/
def threadBind (f : Nat) (payload : List Nat) (s : State) : State :=
  s.admin f 0x31 payload [] (fun t => s.admChecks f t 0 0 payload true false ++ (s.bindChecks t.ss t.inl).filter (fun c => c.2 ≠ .noContext))
    (fun t =>
      match s.bindThread t.inl with
      | none => ⟨s.refuse 3, .noContext, 0, 0⟩
      | some th => ⟨s.cueBind th t.session (leField t.inl 4 4) (leField t.inl 8 4) (leField t.inl 2 1) (leField t.inl 12 4), .ok, 0, th⟩)

/-- A thread starts at its entry (R417). -/
def State.cueStart (s : State) (t : Nat) : State :=
  let s := (s.wake (0x20 + t / 16)).cueHalt t cRUNNING
  let s := ((s.wr R.CUE_STAT_PC t (s.cue t).entry).wr R.CUE_S_S t 0).wrWords R.CUE_G_VALUE t 0 (List.replicate 16 0)
  s.setCue t fun x => { x with stack := [] }

/-- The checks THREAD_START and THREAD_STOP share (R418). -/
def State.threadChecks (s : State) (ss : Nat) (inl : List Nat) : List (Bool × Status) :=
  let t := leField inl 0 2
  [ (decide (159 < t) || !allZero (inl.drop 2), .decode), (decide (t < 160) && !s.threadPresent t, .unitAbsent), (s.cueForeign ss t, .protected') ]

/-- THREAD_START, opcode 0x0032 (R418). -/
def threadStart (f : Nat) (payload : List Nat) (s : State) : State :=
  s.admin f 0x32 payload [] (fun t =>
      let th := leField t.inl 0 2
      s.admChecks f t 0 0 payload true false ++ s.threadChecks t.ss t.inl ++
        [ ((s.domain (0x20 + th / 16)).st == 2, .domainOff), (s.modePending || (s.modeCode != mRUN && s.modeCode != mMIRROR), .mode),
          (s.cueState th == cUNBOUND, .notReady), (s.cueState th == cRUNNING || s.cueState th == cWAITING, .unitRunning) ])
    (fun t => ⟨s.cueStart (leField t.inl 0 2), .ok, 0, 0⟩)

/-- THREAD_STOP, opcode 0x0033 (R417, R418). -/
def threadStop (f : Nat) (payload : List Nat) (s : State) : State :=
  s.admin f 0x33 payload [] (fun t => s.admChecks f t 0 0 payload true false ++ s.threadChecks t.ss t.inl)
    (fun t => ⟨s.cueStop (leField t.inl 0 2), .ok, 0, 0⟩)

/-- The binding session closes: as THREAD_STOP, then UNBOUND (R417). -/
def State.cueUnbind (s : State) (t : Nat) : State :=
  let s := ((s.cueHalt t cUNBOUND).wr R.CUE_PROG_HANDLE t 0).wr R.CUE_SESS_HANDLE t 0
  s.setCue t fun x => { x with ring := 0 }

/-! ### Issue (R413, R426) -/

/-- A thread issues its instruction when that is `op`: it is RUNNING and its engine is ON. Any other thread is left as it is. -/
def State.cueIssue (s : State) (t op : Nat) (body : Ins → State) : State :=
  if !s.threadPresent t || s.cueState t != cRUNNING || (s.domain (0x20 + t / 16)).st != 0 then s
  else
    match (s.cueWords t)[s.cuePc t]? with
    | none => s.cueFault t .decode 0xFF
    | some w => if (insOf w).op = op then body (insOf w) else s

/-- The operand: IMM, or g(s) when M.R is 1 (R425). -/
def State.operand (s : State) (t : Nat) (i : Ins) : Nat := if i.r then s.cueG t i.gs else i.imm

/-- A failing check: no effect; S under M.T, a fault without (R426). -/
def State.cueFail (s : State) (t : Nat) (i : Ins) (st : Status) (ent : Nat) : State :=
  if i.tr then (s.wr R.CUE_S_S t st.code).cueNext t (s.cuePc t + 1) else s.cueFault t st ent

/-- An instruction with its checks: the effect when none fails. -/
def State.cueDo (s : State) (t : Nat) (i : Ins) (checks : List (Bool × Status)) (act : State → State) : State :=
  if check checks = .ok then act s else s.cueFail t i (check checks) 0xFF

/-! ### Waits (R417, R429) -/

/-- A thread waits; PC names the instruction it goes on with. -/
def State.cueWait (s : State) (t pc : Nat) (w : Wait) : State :=
  ((s.setCue t fun x => { x with wait := w, woken := none }).wr R.CUE_STAT_PC t pc).wr R.CUE_STAT_STATE t cWAITING

/-- Whether every value of the thread's last accepted COMMIT has been delivered (R442). -/
def State.cueDelivered (s : State) (t : Nat) : Bool := s.staged.all (fun x => x.thread != t || decide (x.id < (s.cue t).com) || x.delivered)

/-- The lifecycle state of a port, pipeline or job by its handle; a unit that is gone counts as STOPPED. -/
def State.unitLc (s : State) (h : Nat) : Nat :=
  if s.badHandle h then lcSTOPPED
  else if hKind h = kInput then s.rd R.INP_STAT_LC_STATE (hIdx h)
  else if hKind h = kPipe then s.rd R.OUT_STAT_LC_STATE (hIdx h)
  else match tfind s.jobs (hIdx h) with
    | some j => s.jobLc j
    | none => lcSTOPPED

/-- The status a wait ends with once what it waits for has come; none before. The timeout of a WAITE counts without its timeline too: then in frame
periods since issue (R429). -/
def State.waitDone (s : State) (t : Nat) : Option Nat :=
  match (s.cue t).wait with
  | .frames _ | .line _ => (s.cue t).woken
  | .event _ _ n due =>
    (match (s.cue t).woken with
     | some st => some st
     | none => if n.isSome && !s.tlnRuns (s.cueTln t) && s.modeCode != mMIRROR && decide (due ≤ s.now) then some Status.late.code else none)
  | .until' x => if x ≤ s.epoch then some 0 else none
  | .unit h want => if s.unitLc h = want then some 0 else none
  | .fence => if s.cueDelivered t then some 0 else none
  | .target _ | .record _ | .none => none

/-- Whether the end of a wait loads S: WAITL, WAITE, UHALT and URUN can return a status, WAITF, WAITT and FENCE cannot (R424). -/
def waitSetsS : Wait → Bool
  | .line _ | .event _ _ _ _ | .unit _ _ => true
  | _ => false

/-- A WAITING thread resumes when its wait is over (R417), with the instruction after the wait: PC 0 stands for 65,536, past the longest program (R427); the primary of a pair records the end of a WAITE (R582). -/
def waitComplete (t : Nat) (s : State) : State :=
  match s.waitDone t with
  | none => s
  | some st =>
    if s.cueState t ≠ cWAITING ∨ (s.domain (0x20 + t / 16)).st ≠ 0 then s
    else
      let w := (s.cue t).wait
      let s := match w with
        | .event _ _ _ _ => s.sendDet (s.cueTln t) (s.fsn (s.cueTln t)) (.waite t ((s.cuePc t + 65535) % 65536) st)
        | _ => s
      let s := s.setCue t fun x => { x with wait := .none, woken := none }
      let s := if waitSetsS w then s.wr R.CUE_S_S t st else s
      s.cueNext t (if s.cuePc t = 0 then 65536 else s.cuePc t)

/-- A line event reaches the threads of its timeline: frame counts, lines and timeouts (R429). -/
def cueLine (fsnLine : Nat) (x : CueX) : CueX :=
  match x.wait, x.woken with
  | .frames n, none => if fsnLine = 1 then { x with wait := .frames (n - 1), woken := if n ≤ 1 then some 0 else none } else x
  | .line l, none => if fsnLine = l then { x with woken := some 0 } else x
  | .event h c (some n) due, none => if fsnLine = 1 then { x with wait := .event h c (some (n - 1)) due, woken := if n ≤ 1 then some Status.late.code else none } else x
  | _, _ => x

/-- Whether a thread waits in a WAITE. -/
def inWaite (x : CueX) : Bool := match x.wait with
  | .event _ _ _ _ => true
  | _ => false

/-- In MIRROR the end of a WAITE comes by its record (R444, R582): a thread that waits takes the one that has come. -/
def State.waiteTake (s : State) (t : Nat) : State :=
  let mine := s.recs.findSome? fun r => match r.body with
    | .waite t' _ st => if t' = t then some (r, st) else none
    | _ => none
  match (if s.modeCode = mMIRROR ∧ s.cueState t = cWAITING ∧ inWaite (s.cue t) ∧ (s.cue t).woken = none then mine else none) with
  | some (r, st) => (s.recUse r).setCue t fun x => { x with woken := some st }
  | none => s

/-- The line event of line `l` at the threads bound to timeline `tl`; in MIRROR the timeout of a WAITE comes by its record (R582). -/
def State.cueLines (s : State) (tl l : Nat) : State :=
  let s := s.engineEvents tl l
  { s with cueX := s.cueX.map fun e =>
      if s.cueTln e.1 = tl ∧ s.cueState e.1 = cWAITING ∧ !(s.modeCode == mMIRROR && inWaite e.2) then (e.1, cueLine l e.2) else e }

/-! ### The stage buffer (R434) -/

/-- The words `new` over the words `old` of one entry. -/
def mergeVals (old new : List (Nat × Nat)) : List (Nat × Nat) := new.foldl (fun a e => tput a e.1 e.2) old

/-- The buffer with an entry staged: a key already there takes the new values. -/
def stageInto (l : List StageEnt) (k : StageKey) (v : List (Nat × Nat)) : List StageEnt :=
  if l.any (fun e => e.key == k) then l.map (fun e => if e.key = k then { e with vals := mergeVals e.vals v } else e)
  else l ++ [⟨k, mergeVals [] v⟩]

/-- A staging instruction fills one entry (R430): a full buffer fails it. -/
def State.cueStage (s : State) (t : Nat) (i : Ins) (checks : List (Bool × Status)) (k : StageKey) (v : List (Nat × Nat)) : State :=
  let l := (s.cue t).stage
  s.cueDo t i (checks ++ [(decide (128 ≤ l.length) && !l.any (fun e => e.key == k), .lenExceeds)])
    (fun s => (s.setStage t (stageInto l k v)).cueOk t (s.cuePc t + 1))

/-- Parameter words `b` to `b + n - 1` as the words `at'` onward of an entry. -/
def State.paramRun (s : State) (t b n at' : Nat) : List (Nat × Nat) := (upFrom 0 n).map (fun i => (at' + i, s.cueP t (b + i)))

/-- PROGRAM_LOAD. -/
def execProgramLoad (f : Nat) (payload : List Nat) (s : State) : Res := .next (programLoad f payload s)
/-- THREAD_BIND. -/
def execThreadBind (f : Nat) (payload : List Nat) (s : State) : Res := .next (threadBind f payload s)
/-- THREAD_START. -/
def execThreadStart (f : Nat) (payload : List Nat) (s : State) : Res := .next (threadStart f payload s)
/-- THREAD_STOP. -/
def execThreadStop (f : Nat) (payload : List Nat) (s : State) : Res := .next (threadStop f payload s)
/-- WAIT_COMPLETE. -/
def execWaitComplete (t : Nat) (s : State) : Res := .next (waitComplete t s)

end Sys2Proof.Machine
end

