-- ==== Sys2Proof/Machine/Cue.lean ====
section
/-! DEFINITION. The cue instructions that end within their own engine: control flow (R427), arithmetic and parameters (R428), waits (R429), video
and audio staging (R430 to R432), rings and events (R442); and the parameter writes of the host (R423). -/

namespace Sys2Proof.Machine

open Sys2Proof

/-! ### Control flow (R427) -/

/-- NOP, 0x00. -/
def cueNop (t : Nat) (s : State) : State := s.cueIssue t 0x00 fun _ => s.cueNext t (s.cuePc t + 1)

/-- A branch to the operand: a target at or beyond the program's length fails. -/
def State.cueBranch (s : State) (t : Nat) (i : Ins) (act : State → State) : State :=
  s.cueDo t i [(decide ((s.cueWords t).length ≤ s.operand t i), .decode)] (fun s => (act s).cueOk t (s.operand t i))

/-- BR, 0x01. -/
def cueBr (t : Nat) (s : State) : State := s.cueIssue t 0x01 fun i => s.cueBranch t i id

/-- BRZ, 0x02. -/
def cueBrz (t : Nat) (s : State) : State :=
  s.cueIssue t 0x02 fun i => if s.cueG t i.gd = 0 then s.cueBranch t i id else s.cueOk t (s.cuePc t + 1)

/-- BRNZ, 0x03. -/
def cueBrnz (t : Nat) (s : State) : State :=
  s.cueIssue t 0x03 fun i => if s.cueG t i.gd ≠ 0 then s.cueBranch t i id else s.cueOk t (s.cuePc t + 1)

/-- CALL, 0x04: the call stack is 8 entries deep. -/
def cueCall (t : Nat) (s : State) : State :=
  s.cueIssue t 0x04 fun i =>
    s.cueDo t i [ (decide ((s.cueWords t).length ≤ s.operand t i), .decode), (decide (8 ≤ (s.cue t).stack.length), .lenExceeds) ]
      (fun s => (s.setCue t fun x => { x with stack := (s.cuePc t + 1) :: x.stack }).cueOk t (s.operand t i))

/-- RET, 0x05. -/
def cueRet (t : Nat) (s : State) : State :=
  s.cueIssue t 0x05 fun i =>
    match (s.cue t).stack with
    | [] => s.cueFail t i .decode 0xFF
    | r :: rest => (s.setCue t fun x => { x with stack := rest }).cueOk t r

/-- LOOP, 0x06: entered with 0 it wraps and branches. -/
def cueLoop (t : Nat) (s : State) : State :=
  s.cueIssue t 0x06 fun i =>
    let v := (s.cueG t i.gd + (2 ^ 32 - 1)) % 2 ^ 32
    if v = 0 then (s.setG t i.gd v).cueOk t (s.cuePc t + 1)
    else s.cueDo t i [(decide ((s.cueWords t).length ≤ s.operand t i), .decode)] (fun s => (s.setG t i.gd v).cueOk t (s.operand t i))

/-- HALT, 0x07: the stage buffer is discarded and HALTED is raised (R417, R448). -/
def cueHaltIns (t : Nat) (s : State) : State :=
  s.cueIssue t 0x07 fun _ => (s.cueEvent t 1 .ok none ((s.cue t).stage.length * 2 ^ 16 + s.cuePc t)).cueHalt t cSTOPPED

/-! ### Arithmetic and parameters (R428) -/

/-- An instruction that sets g(d) from its old value and the operand. -/
def State.cueAlu (s : State) (t op : Nat) (f : Ins → Nat → Nat → Nat) : State :=
  s.cueIssue t op fun i => (s.setG t i.gd (f i (s.cueG t i.gd) (s.operand t i))).cueNext t (s.cuePc t + 1)

/-- LDI, 0x10. -/
def cueLdi (t : Nat) (s : State) : State := s.cueAlu t 0x10 fun _ _ b => b
/-- ADD, 0x11. -/
def cueAdd (t : Nat) (s : State) : State := s.cueAlu t 0x11 fun _ a b => a + b
/-- SUB, 0x12. -/
def cueSub (t : Nat) (s : State) : State := s.cueAlu t 0x12 fun _ a b => a + 2 ^ 32 - b
/-- AND, 0x13. -/
def cueAnd (t : Nat) (s : State) : State := s.cueAlu t 0x13 fun _ a b => a &&& b
/-- OR, 0x14. -/
def cueOr (t : Nat) (s : State) : State := s.cueAlu t 0x14 fun _ a b => a ||| b
/-- XOR, 0x15. -/
def cueXor (t : Nat) (s : State) : State := s.cueAlu t 0x15 fun _ a b => a ^^^ b
/-- SHL, 0x16: shifts use bits [4:0] of the operand (R422). -/
def cueShl (t : Nat) (s : State) : State := s.cueAlu t 0x16 fun _ a b => a * 2 ^ (b % 32)
/-- SHR, 0x17: arithmetic with M.X[0]. -/
def cueShr (t : Nat) (s : State) : State :=
  s.cueAlu t 0x17 fun i a b => if bitAt i.x 0 then twos 32 (sext 32 a / ((2 ^ (b % 32) : Nat) : Int)) else a / 2 ^ (b % 32)

/-- The result of CMP: 0 equal, 1 greater, 0xFFFF_FFFF less, of two integers. -/
def cmpWord (a b : Int) : Nat := if a = b then 0 else if b < a then 1 else 2 ^ 32 - 1

/-- CMP under its modifiers: MOD compares the difference modulo 2^32 with 0. -/
def cmpOf (x a b : Nat) : Nat :=
  if bitAt x 1 then cmpWord (sext 32 (a + 2 ^ 32 - b)) 0 else if bitAt x 0 then cmpWord (sext 32 a) (sext 32 b) else cmpWord a b

/-- CMP, 0x18. -/
def cueCmp (t : Nat) (s : State) : State := s.cueAlu t 0x18 fun i a b => cmpOf i.x a b

/-- The value at an index of LDP (R424); before the first event of the timeline at the engine FSN, LINE and NEXT are free. -/
def State.special (s : State) (t i : Nat) : Nat :=
  let free := Config.noEvent s.free
  let e := s.lastEvent t
  if i < 32 then s.cueP t i
  else if i = 0x40 then s.rd R.CUE_S_S t
  else if i = 0x41 then (e.map (·.1)).getD free
  else if i = 0x42 then (e.map (·.2)).getD free
  else if i = 0x43 then (s.nextTarget t).getD free
  else if i = 0x44 then t
  else if i = 0x45 then s.epoch % 1000000000
  else s.rd R.CUE_LAST_TGT_FSN t

/-- LDP, 0x19. -/
def cueLdp (t : Nat) (s : State) : State :=
  s.cueIssue t 0x19 fun i =>
    s.cueDo t i [(!ldpIndex (s.operand t i), .decode)] (fun s => (s.drawn.setG t i.gd (s.special t (s.operand t i))).cueOk t (s.cuePc t + 1))

/-- STP, 0x1A. -/
def cueStp (t : Nat) (s : State) : State :=
  s.cueIssue t 0x1A fun i =>
    s.cueDo t i [(decide (31 < s.operand t i), .decode)]
      (fun s => (s.wrk R.CUE_PARAM_VALUE t (s.operand t i) (s.cueG t i.gd)).cueOk t (s.cuePc t + 1))

/-- A write of CUE.PARAM by the principal of the binding session (R423); the primary of a pair records it (R582). -/
def paramWrite (p t index data : Nat) (s : State) : State :=
  s.gate p (0x800080 + 0x100 * t + 4 * (index % 32)) true
    [ (!(if s.cueSess t = 0 then isCore p && s.cueState t != cUNBOUND else s.prinOf (s.cueSess t) == p) && !s.replay, .protected') ]
    fun s => (s.wrk R.CUE_PARAM_VALUE t (index % 32) data).sendDet (s.cueTln t) (s.fsn (s.cueTln t)) (.param t (index % 32) (data % 2 ^ 32))

/-! ### Waits (R429) -/

/-- WAITF, 0x20: an operand of 0 completes at once. -/
def cueWaitf (t : Nat) (s : State) : State :=
  s.cueIssue t 0x20 fun i =>
    if s.operand t i = 0 then s.cueNext t (s.cuePc t + 1) else s.cueWait t (s.cuePc t + 1) (.frames (s.operand t i))

/-- The line a WAITL waits for: KERB counts back from the kerb line. -/
def State.waitLine (s : State) (t : Nat) (i : Ins) : Int :=
  let f := s.tlnFmt (s.cueTln t)
  let kl := (kerbOf f (s.rd R.REF_TLN_CFG_KERB (s.cueTln t))).1
  if bitAt i.x 0 then ((kl : Int) - 1 - (s.operand t i : Int)) % (f.lines : Int) + 1 else s.operand t i

/-- WAITL, 0x21. -/
def cueWaitl (t : Nat) (s : State) : State :=
  s.cueIssue t 0x21 fun i =>
    let l := s.waitLine t i
    s.cueDo t i [(decide (l ≤ 0) || decide (((s.tlnFmt (s.cueTln t)).lines : Int) < l), .decode)] (fun s => s.cueWait t (s.cuePc t + 1) (.line l.toNat))

/-- Whether a kind raises an event code (R106 and the event tables of the chapters). -/
def kindRaises (kind code : Nat) : Bool :=
  let within := fun (lo hi : Nat) => decide (lo ≤ code) && decide (code ≤ hi)
  if kind = kInput then within 0x0101 0x0105 || within 0x0110 0x0119 || within 0x0201 0x020C || within 0x0701 0x0705
  else if kind = kPipe then within 0x0301 0x0303 || within 0x0501 0x0505 || within 0x0601 0x0608
  else if kind = kJob then within 0x0301 0x0303 || within 0x0401 0x0409
  else if kind = kRing then within 0x0721 0x0721
  else if kind = kRoute then within 0x0711 0x0713
  else if kind = kCand then within 0x0901 0x0906
  else if kind = kTimeline then within 0x0A01 0x0A04
  else if kind = kSession then within 0x0B01 0x0B02
  else false

/-- The checks of a handle that a cue instruction names: one of some kinds, present, owned or held by the binding session. -/
def State.cueHandle (s : State) (t h : Nat) (kinds : List Nat) : List (Bool × Status) :=
  s.handleChecks (s.cueSess t) h (!kinds.contains (hKind h))

/-- WAITE, 0x22. -/
def cueWaite (t : Nat) (s : State) : State :=
  s.cueIssue t 0x22 fun i =>
    let h := s.cueG t i.gs
    let n := s.cueG t i.gd
    s.cueDo t i ((!s.badHandle h && !kindRaises (hKind h) (i.imm % 65536), .decode) :: s.cueHandle t h [kInput, kPipe, kJob, kRoute, kRing])
      (fun s => (s.cueWait t (s.cuePc t + 1) (.event h (i.imm % 65536) (if n = 0 then none else some n)
        (s.now + n * periodNs (s.tlnFmt (s.cueTln t))))).waiteTake t)

/-- WAITT, 0x23: microseconds of the device epoch. -/
def cueWaitt (t : Nat) (s : State) : State :=
  s.cueIssue t 0x23 fun i => s.cueWait t (s.cuePc t + 1) (.until' (s.epoch + 1000 * s.operand t i))

/-! ### Video staging (R430) -/

/-- TAKE, 0x30: words 0 (KIND and NUM) and 1 (handle). -/
def cueTake (t : Nat) (s : State) : State :=
  s.cueIssue t 0x30 fun i =>
    let d := i.sel + 256 * (i.x / 16)
    let k := i.x % 16
    let o := s.operand t i
    let byHandle := k = selARCADE ∨ k = selSURFACE
    s.cueStage t i [(!s.destPresent d, .unitAbsent)] (.sel d) [(0, k * 2 ^ 28 + (if byHandle then 0 else o % 256)), (1, if byHandle then o else 0)]

/-- A staging instruction of a pipeline with a parameter run: `n` words from p[b] as the words `at'` onward. -/
def State.cueRun (s : State) (t : Nat) (i : Ins) (absent : Bool) (k : StageKey) (n at' : Nat) : State :=
  let b := s.operand t i
  s.cueStage t i [ (decide (32 < b + n), .decode), (decide (s.lanes ≤ i.sel) || absent, .unitAbsent) ] k (s.paramRun t b n at')

/-- LAYER, 0x31: SURF, CTL and FILL, or the Undercoat words. -/
def cueLayer (t : Nat) (s : State) : State :=
  s.cueIssue t 0x31 fun i =>
    if bitAt i.x 3 then s.cueRun t i false (.uc i.sel) 2 0 else s.cueRun t i (i.x % 8 == 7 && !s.stencil) (.layer i.sel (i.x % 8)) 3 0

/-- LAYPOS, 0x32: SRC_XY, SRC_WH, DST_XY, DST_WH. -/
def cueLaypos (t : Nat) (s : State) : State :=
  s.cueIssue t 0x32 fun i => s.cueRun t i (i.x % 8 == 7 && !s.stencil) (.layer i.sel (i.x % 8)) 4 3

/-- MATRIX, 0x33: a layer's MAT, or OM_CTL and OM_MAT. -/
def cueMatrix (t : Nat) (s : State) : State :=
  s.cueIssue t 0x33 fun i =>
    if bitAt i.x 3 then s.cueRun t i false (.om i.sel) 13 0 else s.cueRun t i (i.x % 8 == 7 && !s.stencil) (.layer i.sel (i.x % 8)) 12 7

/-- SKIMX, 0x34: XY, WH, EXP, RCTL of a rectangle. -/
def cueSkimx (t : Nat) (s : State) : State := s.cueIssue t 0x34 fun i => s.cueRun t i (!s.stencil) (.skim i.sel (i.x % 8)) 4 0

/-- CLONE, 0x35: the member list is replaced at once, as the session that bound the thread (R258, R431). -/
def cueClone (t : Nat) (s : State) : State :=
  s.cueIssue t 0x35 fun i =>
    let b := s.operand t i
    let bytes := leBytes 4 (s.cueP t b) ++ leBytes 3 (s.cueP t (b + 1))
    let has := (s.obj kClone i.sel).live
    s.cueDo t i ([ (decide (32 < b + 2) || decide (2 ^ 24 ≤ s.cueP t (b + 1)), .decode), (decide (s.lanes ≤ i.sel), .unitAbsent), (!has, .badHandle),
        (has && (s.obj kClone i.sel).owner != s.cueSess t, .protected'), (has && (s.obj kClone i.sel).draining, .draining) ]
        ++ s.cloneChecks i.sel bytes)
      (fun s => (s.setClone i.sel bytes).cueOk t (s.cuePc t + 1))

/-! ### Audio staging (R432) -/

/-- An audio instruction: field `f` of the route named by g(d), `mask` the operand bits of the field. -/
def State.cueAudio (s : State) (t op f mask : Nat) : State :=
  s.cueIssue t op fun i =>
    let h := s.cueG t i.gd
    let o := s.operand t i
    s.cueStage t i [ ((o &&& mask) != o, .decode), (!s.audio, .unitAbsent), (s.badHandle h, .badHandle), (!s.badHandle h && hKind h != kRoute, .wrongKind) ]
      (.route h f) [(0, o)]

/-- AMAP, 0x40. -/
def cueAmap (t : Nat) (s : State) : State := s.cueAudio t 0x40 0 0x0FFF0FFF
/-- AGAIN, 0x41. -/
def cueAgain (t : Nat) (s : State) : State := s.cueAudio t 0x41 1 0xFFFF
/-- ADELAY, 0x42. -/
def cueAdelay (t : Nat) (s : State) : State := s.cueAudio t 0x42 2 0x1FFFF
/-- AMUTE, 0x43. -/
def cueAmute (t : Nat) (s : State) : State := s.cueAudio t 0x43 3 1

/-! ### Rings and events (R442) -/

/-- EMIT, 0x60. -/
def cueEmit (t : Nat) (s : State) : State :=
  s.cueIssue t 0x60 fun i => (s.cueEntry t (0x0880 + i.imm % 128) .ok none 0 (s.cueG t i.gd)).cueNext t (s.cuePc t + 1)

/-- The words a POST writes: the entry size of the ring in words. -/
def State.postLen (s : State) (h : Nat) : Nat := match tfind s.rings (hIdx h) with
  | some r => entrySize r / 4
  | none => 4

/-- The checks of POST but for a full ring. -/
def State.postChecks (s : State) (t h b : Nat) : List (Bool × Status) :=
  let ring := !s.badHandle h && hKind h == kRing
  s.cueHandle t h [kRing] ++ [ (ring && (tfind s.rings (hIdx h)).any (·.hostProduces), .wrongKind), (ring && s.isDraining h, .draining),
    (ring && decide (32 < b + s.postLen h), .decode) ]

/-- A POST writes these words, or loads S with SC_BUSY on a full ring (R426); the primary of a pair records it (R582). -/
def State.postWrite (s : State) (t h : Nat) (ws : List Nat) : State :=
  let full := (tfind s.rings (hIdx h)).any ringFull
  let s := s.sendDet (s.cueTln t) (s.fsn (s.cueTln t)) (.post t h (if full then Status.busy.code else 0) ws)
  if full then (s.wr R.CUE_S_S t Status.busy.code).cueNext t (s.cuePc t + 1)
  else (s.ringPushBy (some t) (hIdx h) (ws.flatMap (leBytes 4)) false).cueOk t (s.cuePc t + 1)

/-- The next POST record of a thread (R444). -/
def State.postRec (s : State) (t : Nat) : Option (DetRec × List Nat) :=
  s.recs.findSome? fun r => match r.body with
    | .post t' _ _ ws => if t' = t then some (r, ws) else none
    | _ => none

/-- POST, 0x61: in MIRROR the words are the primary's, for whose record the thread waits (R444); `useRec` false, it no longer waits (assumption 172). -/
def State.postIssue (s : State) (t : Nat) (useRec : Bool) : State :=
  s.cueIssue t 0x61 fun i =>
    let h := s.cueG t i.gd
    let b := s.operand t i
    let own := (upFrom b (s.postLen h)).map (s.cueP t)
    s.cueDo t i (s.postChecks t h b) fun s =>
      match (if s.modeCode = mMIRROR then s.postRec t else none) with
      | some (r, ws) => (s.recUse r).postWrite t h ws
      | none => if s.modeCode = mMIRROR ∧ useRec then s.cueWait t (s.cuePc t) (.record s.now) else s.postWrite t h own

/-- POST, 0x61. -/
def cuePost (t : Nat) (s : State) : State := s.postIssue t true

/-- FENCE, 0x62. -/
def cueFence (t : Nat) (s : State) : State :=
  s.cueIssue t 0x62 fun _ =>
    let s := s.hbmFence t
    if s.cueDelivered t then s.cueNext t (s.cuePc t + 1) else s.cueWait t (s.cuePc t + 1) .fence

/-- NOP. -/
def execNop (t : Nat) (s : State) : Res := .next (cueNop t s)
/-- BR. -/
def execBr (t : Nat) (s : State) : Res := .next (cueBr t s)
/-- BRZ. -/
def execBrz (t : Nat) (s : State) : Res := .next (cueBrz t s)
/-- BRNZ. -/
def execBrnz (t : Nat) (s : State) : Res := .next (cueBrnz t s)
/-- CALL. -/
def execCall (t : Nat) (s : State) : Res := .next (cueCall t s)
/-- RET. -/
def execRet (t : Nat) (s : State) : Res := .next (cueRet t s)
/-- LOOP. -/
def execLoopOp (t : Nat) (s : State) : Res := .next (cueLoop t s)
/-- HALT. -/
def execHalt (t : Nat) (s : State) : Res := .next (cueHaltIns t s)
/-- LDI. -/
def execLdi (t : Nat) (s : State) : Res := .next (cueLdi t s)
/-- ADD. -/
def execAdd (t : Nat) (s : State) : Res := .next (cueAdd t s)
/-- SUB. -/
def execSub (t : Nat) (s : State) : Res := .next (cueSub t s)
/-- AND. -/
def execAndOp (t : Nat) (s : State) : Res := .next (cueAnd t s)
/-- OR. -/
def execOrOp (t : Nat) (s : State) : Res := .next (cueOr t s)
/-- XOR. -/
def execXorOp (t : Nat) (s : State) : Res := .next (cueXor t s)
/-- SHL. -/
def execShl (t : Nat) (s : State) : Res := .next (cueShl t s)
/-- SHR. -/
def execShr (t : Nat) (s : State) : Res := .next (cueShr t s)
/-- CMP. -/
def execCmp (t : Nat) (s : State) : Res := .next (cueCmp t s)
/-- LDP. -/
def execLdp (t : Nat) (s : State) : Res := .next (cueLdp t s)
/-- STP. -/
def execStp (t : Nat) (s : State) : Res := .next (cueStp t s)
/-- WAITF. -/
def execWaitf (t : Nat) (s : State) : Res := .next (cueWaitf t s)
/-- WAITL. -/
def execWaitl (t : Nat) (s : State) : Res := .next (cueWaitl t s)
/-- WAITE. -/
def execWaite (t : Nat) (s : State) : Res := .next (cueWaite t s)
/-- WAITT. -/
def execWaitt (t : Nat) (s : State) : Res := .next (cueWaitt t s)
/-- TAKE. -/
def execTake (t : Nat) (s : State) : Res := .next (cueTake t s)
/-- LAYER. -/
def execLayer (t : Nat) (s : State) : Res := .next (cueLayer t s)
/-- LAYPOS. -/
def execLaypos (t : Nat) (s : State) : Res := .next (cueLaypos t s)
/-- MATRIX. -/
def execMatrix (t : Nat) (s : State) : Res := .next (cueMatrix t s)
/-- SKIMX. -/
def execSkimx (t : Nat) (s : State) : Res := .next (cueSkimx t s)
/-- CLONE. -/
def execClone (t : Nat) (s : State) : Res := .next (cueClone t s)
/-- AMAP. -/
def execAmap (t : Nat) (s : State) : Res := .next (cueAmap t s)
/-- AGAIN. -/
def execAgain (t : Nat) (s : State) : Res := .next (cueAgain t s)
/-- ADELAY. -/
def execAdelay (t : Nat) (s : State) : Res := .next (cueAdelay t s)
/-- AMUTE. -/
def execAmute (t : Nat) (s : State) : Res := .next (cueAmute t s)
/-- EMIT. -/
def execEmit (t : Nat) (s : State) : Res := .next (cueEmit t s)
/-- POST. -/
def execPost (t : Nat) (s : State) : Res := .next (cuePost t s)
/-- FENCE. -/
def execFence (t : Nat) (s : State) : Res := .next (cueFence t s)
/-- PARAM_WRITE. -/
def execParamWrite (p t index data : Nat) (s : State) : Res := .next (paramWrite p t index data s)

end Sys2Proof.Machine
end

