-- ==== Sys2Proof/Machine/Commit.lean ====
section
/-! DEFINITION. COMMIT (R434 to R441): the words of a stage entry in staging and live registers, the checks of R238, R336, R376 and R396, shared
fetch units and decode slots (R320, R321), admission (R267), acceptance, the late COMMIT, delivery (R49) and going live (R40, R50, R51). -/

namespace Sys2Proof.Machine

open Sys2Proof

/-! ### The registers behind a stage entry -/

/-- Where a word goes: field, unit, index, and the lowest bit of the word it takes. -/
abbrev Place := Fld × Nat × Nat × Nat

/-- A word that is one field of a register with the same bits in both copies. -/
def onePlace (f : Fld) (u k : Nat) : List Place := [(f, u, k, 0)]

/-- The staging (`live` false) or live registers of word `w` of a layer (R334). -/
def layerPlaces (live : Bool) (n l w : Nat) : List Place :=
  let pick := fun (a b : Fld) => if live then b else a
  match w with
  | 0 => onePlace (pick R.OUT_LYR_SURF_HANDLE R.OUT_LYR_SURF_LIVE_HANDLE) n l
  | 1 => [ (pick R.OUT_LYR_CTL_ALPHA R.OUT_LYR_CTL_LIVE_ALPHA, n, l, 30), (pick R.OUT_LYR_CTL_MSEL R.OUT_LYR_CTL_LIVE_MSEL, n, l, 28),
      (pick R.OUT_LYR_CTL_GA R.OUT_LYR_CTL_LIVE_GA, n, l, 16) ]
  | 2 => onePlace (pick R.OUT_LYR_FILL_YCBCR R.OUT_LYR_FILL_LIVE_YCBCR) n l
  | 3 => onePlace (pick R.OUT_LYR_SRC_XY_XY R.OUT_LYR_SRC_XY_LIVE_XY) n l
  | 4 => onePlace (pick R.OUT_LYR_SRC_WH_WH R.OUT_LYR_SRC_WH_LIVE_WH) n l
  | 5 => onePlace (pick R.OUT_LYR_DST_XY_XY R.OUT_LYR_DST_XY_LIVE_XY) n l
  | 6 => onePlace (pick R.OUT_LYR_DST_WH_WH R.OUT_LYR_DST_WH_LIVE_WH) n l
  | m => if m < 19 then onePlace (pick R.OUT_LYR_MAT_WORD R.OUT_LYR_MAT_LIVE_WORD) n (12 * l + (m - 7)) else []

/-- The staging or live registers of word `w` of a stage entry. -/
def State.places (s : State) (live : Bool) (k : StageKey) (w : Nat) : List Place :=
  let pick := fun (a b : Fld) => if live then b else a
  match k with
  | .sel d =>
    if w = 1 then onePlace (pick R.PLZ_SEL_STG_H_HANDLE R.PLZ_SEL_LIVE_H_HANDLE) d 0
    else if live then onePlace R.PLZ_SEL_LIVE_SEL d 0 else [ (R.PLZ_SEL_STG_KIND, d, 0, 28), (R.PLZ_SEL_STG_NUM, d, 0, 0) ]
  | .layer n l => layerPlaces live n l w
  | .uc n => if w = 0 then onePlace (pick R.OUT_UC_PAT_PAT R.OUT_UC_PAT_LIVE_PAT) n 0
    else onePlace (pick R.OUT_UC_COLOR_YCBCR R.OUT_UC_COLOR_LIVE_YCBCR) n 0
  | .om n => if w = 0 then onePlace (pick R.OUT_OM_CTL_OM_SEL R.OUT_OM_CTL_LIVE_OM_SEL) n 0
    else onePlace (pick R.OUT_OM_MAT_WORD R.OUT_OM_MAT_LIVE_WORD) n (w - 1)
  | .skim n r => match w with
    | 0 => onePlace (pick R.OUT_SKIM_XY_XY R.OUT_SKIM_XY_LIVE_XY) n r
    | 1 => onePlace (pick R.OUT_SKIM_WH_WH R.OUT_SKIM_WH_LIVE_WH) n r
    | 2 => onePlace (pick R.OUT_SKIM_EXP_CRC R.OUT_SKIM_EXP_LIVE_CRC) n r
    | _ => onePlace (pick R.OUT_SKIM_RCTL_MODE R.OUT_SKIM_RCTL_LIVE_MODE) n r
  | .route h f => match f with
    | 0 => [ (pick R.AUD_RT_MAP_DST R.AUD_RT_MAP_LIVE_DST, hIdx h, 0, 16), (pick R.AUD_RT_MAP_SRC R.AUD_RT_MAP_LIVE_SRC, hIdx h, 0, 0) ]
    | 1 => onePlace (pick R.AUD_RT_GAIN_GAIN R.AUD_RT_GAIN_LIVE_GAIN) (hIdx h) 0
    | 2 => onePlace (pick R.AUD_RT_DELAY_DELAY R.AUD_RT_DELAY_LIVE_DELAY) (hIdx h) 0
    | _ => onePlace (pick R.AUD_RT_GAIN_MUTE R.AUD_RT_GAIN_LIVE_MUTE) (hIdx h) 0
  | .sync h t => onePlace (pick R.INP_SYNC_STG_FREEZE R.INP_SYNC_STG_FREEZE_LIVE) (hIdx h) t
  | .job h => match tfind s.jobs (hIdx h) with
    | some j => [ (pick R.CVA_JOB_STG_BANK R.CVA_JOB_STAT_BANK_LIVE, j.head, j.slot, 2), (pick R.CVA_JOB_STG_FORCE R.CVA_JOB_STAT_FORCE_LIVE, j.head, j.slot, 0) ]
    | none => []

/-- The words of an entry written into the staging or the live registers. -/
def State.applyEnt (s : State) (live : Bool) (e : StageEnt) : State :=
  e.vals.foldl (fun s v => (s.places live e.key v.1).foldl (fun s p => s.wrk p.1 p.2.1 p.2.2.1 (bitsOf v.2 p.2.2.2 p.1.width)) s) s

/-- The live values the units will hold after the switch line: what is accepted, then what the COMMIT carries (R336). -/
def State.projected (s : State) (ents : List StageEnt) : State := (s.staged.map (·.ent) ++ ents).foldl (fun s e => s.applyEnt true e) s

/-- The timeline a stage entry's unit lies on; none for a route without a destination (R395, R437). -/
def State.keyTln (p : State) : StageKey → Option Nat
  | .sel d => p.destTln d
  | .layer n _ | .uc n | .om n | .skim n _ => some (p.rd R.OUT_TMG_FMT_TLN n)
  | .route h _ => if p.rd R.AUD_RT_MAP_LIVE_DST (hIdx h) = 0xFFF then none else some (p.audTln (p.rd R.AUD_RT_MAP_LIVE_DST (hIdx h)))
  | .sync _ t => some t
  | .job h => (tfind p.jobs (hIdx h)).map (·.tln)

/-! ### The checks of a select (R238) -/

/-- The active picture of a source, where one is known (R238). -/
def State.srcDims (s : State) (kind num h : Nat) : Option (Nat × Nat) :=
  if kind = selFRAME ∨ kind = selSTREET then (formatOf (s.rd R.INP_FMT_DET_FMT num)).map (fun f => (f.w, f.h))
  else if kind = selARCADE then (tfind s.jobs (hIdx h)).map (fun j => (j.outW, j.outH))
  else if kind = selSURFACE then some ((s.surfH h).w, (s.surfH h).h)
  else if kind = selXFEED then (tfind s.xfeed num).bind (fun x => (formatOf x.fmt).map (fun f => (f.w, f.h)))
  else none

/-- The job a live or projected select reads, directly or as its output surface. -/
def State.selJob (p : State) (d : Nat) : Option Nat :=
  if p.selKind d = selARCADE then some (hIdx (p.selH d)) else if p.selKind d = selSURFACE then (p.surfH (p.selH d)).job else none

/-- Whether the job at destination `d` is reached from the source of destination `e`, through at most `fuel` jobs (R238). -/
def State.readsJob (p : State) (i : Nat) : Nat → Nat → Bool
  | 0, _ => false
  | fuel + 1, d => match p.selJob d with
    | none => false
    | some j => j == i || p.readsJob i fuel (96 + j)

/-- The checks of a select of destination `d` by session `ss`; `p` holds the values after the switch line (R238). -/
def State.selChecks (p : State) (ss d : Nat) : List (Bool × Status) :=
  let k := p.selKind d
  let num := p.selNum d
  let h := p.selH d
  let port := k == selFRAME || k == selSTREET
  let byH := k == selARCADE || k == selSURFACE
  let good := byH && !p.badHandle h && hKind h == (if k == selARCADE then kJob else kSurface)
  let j := p.jobAt d
  [ (decide (6 < k) || (port && decide (95 < num)) || (k == selXFEED && decide (7 < num)) || (k == selUNDERCOAT && decide (4 < num))
      || (k == selNONE && num != 0) || (port && decide (num < 96) && p.quadMember num), .decode),
    (!p.destPresent d || (port && decide (num < 96) && decide (p.lanes ≤ num)) || (k == selXFEED && !p.twin), .unitAbsent),
    ((decide (d < 96) && (p.gangMember d || (p.obj kPipe d).owner != ss)) || (decide (96 ≤ d) && j.isSome && (p.obj kJob (d - 96)).owner != ss)
      || (good && (if k == selARCADE then !p.owns ss h else !p.mayRead ss h)), .protected'),
    ((byH && p.badHandle h) || (decide (96 ≤ d) && j.isNone), .badHandle),
    ((byH && !p.badHandle h && !good) || (k == selSTREET && decide (96 ≤ d)) || (decide (96 ≤ d) && p.readsJob (d - 96) 257 d)
      || (decide (d < 96) && k == selSURFACE && good && ((p.surfH h).fmt == 5 || (p.surfH h).fmt == 0x15))
      || (decide (96 ≤ d) && k == selSURFACE && good && ((p.surfH h).fmt == 5 || (p.surfH h).fmt == 0x20)), .wrongKind),
    (good && p.isDraining h, .draining),
    (j.any (fun j => (p.srcDims k num h).any (fun x => decide (j.inW < x.1) || decide (j.inH < x.2)))
      || (good && k == selSURFACE && decide (d < 96) && (p.surfH h).fmt == 0x20
        && decide (497664000 < (p.surfH h).w * (p.surfH h).h * p.pipeChargeRate d)), .lenExceeds),
    (k == selARCADE && good && (tfind p.jobs (hIdx h)).any (fun x => some x.tln != p.destTln d), .timeline) ]

/-! ### The checks of layers, matrices and rectangles (R336, R351, R354, R376) -/

/-- Whether a ratio on one axis lies outside what a slot allows (R317). -/
def ratioBad (l src dst : Nat) : Bool :=
  if l = 7 then src != dst else if l ≤ 1 then decide (4 * dst < src) || decide (8 * src < dst) else decide (2 * dst < src) || decide (8 * src < dst)

/-- The checks of a layer's values after the switch line; `mat` says whether the COMMIT stages its MAT (R336, R351, R354). -/
def State.layerChecks (p : State) (ss n l : Nat) (mat : Bool) : List (Bool × Status) :=
  let c := p.layerLive n l
  let h := c.surf
  let x := p.surfH h
  let full := l ≠ 0 && c.srcXY == 0 && lo16 c.srcWH == x.w && hi16 c.srcWH == x.h
  let sw := lo16 c.srcWH
  let sh := hi16 c.srcWH
  let dstSame := c.dstWH = 0 && (full || l == 0)
  let dw := if dstSame then sw else lo16 c.dstWH
  let dh := if dstSame then sh else hi16 c.dstWH
  let zero := if l = 0 then (c.srcWH != 0 && (sw == 0 || sh == 0)) || (c.dstWH != 0 && (lo16 c.dstWH == 0 || hi16 c.dstWH == 0))
    else sw == 0 || sh == 0 || dw == 0 || dh == 0
  let ratio := if l = 0 ∧ c.srcWH = 0 then false else ratioBad l sw dw || ratioBad l sh dh
  let live := l == 0 || h != 0
  let good := l ≠ 0 && h != 0 && !p.badHandle h && hKind h == kSurface
  [ (live && (c.alpha == 3 || (c.msel == 3 && !matOk c.mat) || decide (1024 < c.ga) || (l == 0 && h != 0) || zero || (!zero && ratio)), .decode),
    (l == 7 && mat && p.rd R.OUT_STN_CFG_SLATE_MSEL n == 3 && !matOk c.mat, .decode),
    (decide (p.lanes ≤ n) || (l == 7 && !p.stencil), .unitAbsent),
    (p.gangMember n || (if l = 7 then ss != p.stnOwner n else (p.obj kPipe n).owner != ss)
      || (good && (if l = 7 then !p.owns (p.stnOwner n) h else !p.mayRead ss h)), .protected'),
    (l != 0 && h != 0 && p.badHandle h, .badHandle),
    (l != 0 && h != 0 && !p.badHandle h && (hKind h != kSurface
      || (l == 7 && (!((decide (3 ≤ x.fmt) && decide (x.fmt ≤ 5)) || (decide (0x13 ≤ x.fmt) && decide (x.fmt ≤ 0x15))) || x.writeback || x.job.isSome))), .wrongKind),
    (good && p.isDraining h, .draining),
    ((good && (decide (x.w < lo16 c.srcXY + sw) || decide (x.h < hi16 c.srcXY + sh)))
      || (l == 0 && c.srcWH != 0 && p.selKind n == selSURFACE && (decide ((p.surfH (p.selH n)).w < lo16 c.srcXY + sw) || decide ((p.surfH (p.selH n)).h < hi16 c.srcXY + sh)))
      || (good && x.fmt == 0x20 && decide (497664000 < x.w * x.h * p.pipeChargeRate n)), .lenExceeds) ]

/-- The ownership checks of a pipeline's own words (R78, R263, R430). -/
def State.pipeOwn (p : State) (ss n : Nat) : List (Bool × Status) :=
  [ (decide (p.lanes ≤ n), .unitAbsent), (p.gangMember n || (p.obj kPipe n).owner != ss, .protected') ]

/-- The checks of a Skim rectangle (R376); a pipeline without a Skim set has no rectangle to commit. -/
def State.skimChecks (p : State) (ss n r : Nat) : List (Bool × Status) :=
  let (xy, wh, _, mode) := p.skimRect n r
  let f := p.pipeFmt n
  let o := p.obj kSkim n
  [ (mode == 3 || (mode != 0 && (lo16 wh == 0 || hi16 wh == 0)) || (p.pipeStruct n == 0 && (lo16 xy % 2 == 1 || lo16 wh % 2 == 1)), .decode),
    (!p.stencil, .unitAbsent), (o.live && o.owner != ss, .protected'), (!o.live, .badHandle), (o.live && o.draining, .draining),
    (rectOut xy wh f.w f.h, .lenExceeds) ] ++ p.pipeOwn ss n

/-! ### The checks of routes, contexts and jobs (R396, R218, R312) -/

/-- The checks of a route's words (R396). -/
def State.routeWordChecks (p : State) (ss h : Nat) : List (Bool × Status) :=
  let r := hIdx h
  let src := p.rd R.AUD_RT_MAP_LIVE_SRC r
  let dst := p.rd R.AUD_RT_MAP_LIVE_DST r
  let gain := sext 16 (p.rd R.AUD_RT_GAIN_LIVE_GAIN r)
  let good := !p.badHandle h && hKind h == kRoute
  let owner := (p.hobj h).owner
  let ring := p.rd R.AUD_TAP_RING_RING ((dst - 3072) / 8)
  [ (decide (3583 < src) || (decide (3583 < dst) && dst != 0xFFF) || decide (96000 < p.rd R.AUD_RT_DELAY_LIVE_DELAY r)
      || ((decide (gain < -6144) || decide (1536 < gain)) && gain != -32768), .decode),
    ((decide (src < 3072) && decide (p.lanes ≤ src / 32)) || (decide (dst < 3072) && decide (p.lanes ≤ dst / 32)), .unitAbsent),
    ((good && !p.owns ss h) || (decide (dst < 3072) && ((p.obj kPipe (dst / 32)).owner != owner || p.gangMember (dst / 32)))
      || (decide (3072 ≤ dst) && decide (dst ≤ 3583) && (p.badHandle ring || !p.owns owner ring)), .protected'),
    (p.badHandle h, .badHandle), (good && p.isDraining h, .draining) ]

/-- The checks of an entry by session `ss`: `p` holds the values after the switch line (R437). -/
def State.entChecks (p : State) (ss tl : Nat) (e : StageEnt) : List (Bool × Status) :=
  (match e.key with
    | .sel d => p.selChecks ss d
    | .layer n l => p.layerChecks ss n l (e.vals.any (fun v => decide (7 ≤ v.1)))
    | .uc n => p.pipeOwn ss n
    | .om n => (p.rd R.OUT_OM_CTL_LIVE_OM_SEL n == 3 && !matOk (p.rdWords R.OUT_OM_MAT_LIVE_WORD n 0 12), .decode) :: p.pipeOwn ss n
    | .skim n r => p.skimChecks ss n r
    | .route h _ => p.routeWordChecks ss h
    | .sync h _ => p.ownChecks ss h kInput
    | .job h => p.ownChecks ss h kJob ++ [ ((tfind p.jobs (hIdx h)).any (fun j => !bankOk (p.bankInHbm j (p.jrd j R.CVA_JOB_STAT_BANK_LIVE)) j.filter), .decode) ])
    ++ [ ((p.keyTln e.key).any (· != tl), .timeline) ]

/-! ### Shared fetch units and decode slots (R320, R321) -/

/-- The layers of pipelines whose resources an entry touches. -/
def entLayers (k : StageKey) : List (Nat × Nat) := match k with
  | .layer n l => [(n, l)]
  | .sel d => if d < 96 then [(d, 0)] else []
  | _ => []

/-- The shared fetch units a layer holds while it is not empty: four at a gang head. -/
def State.fetchCost (s : State) (n l : Nat) : Nat := if l = 0 ∨ l = 7 then 0 else if s.gangHead n then 4 else 1

/-- Whether a layer needs a shared fetch unit with these live values. -/
def State.needsFetch (p : State) (n l : Nat) : Bool := l != 0 && l != 7 && p.rdk R.OUT_LYR_SURF_LIVE_HANDLE n l != 0

/-- Whether a layer, or LY0's select, needs a decode slot with these live values. -/
def State.needsJxs (p : State) (n l : Nat) : Bool :=
  if l = 0 then p.selKind n == selSURFACE && (p.surfH (p.selH n)).fmt == 0x20
  else p.rdk R.OUT_LYR_SURF_LIVE_HANDLE n l != 0 && (p.surfH (p.rdk R.OUT_LYR_SURF_LIVE_HANDLE n l)).fmt == 0x20

/-- The layers that hold something, as pipeline and layer, by a flag of OUT.LYR_STAT. -/
def State.flagged (s : State) (f : Fld) : List (Nat × Nat) :=
  (tget [] s.regs (Fld.key f)).flatMap (fun u => (u.2.filter (fun e => e.2 == 1)).map (fun e => (u.1, e.1)))

/-- A layer's key among the units that are lent (R320). -/
def layerKey (e : Nat × Nat) : Nat := 8 * e.1 + e.2

/-- The sum of a list. -/
def natSum (l : List Nat) : Nat := l.foldl (· + ·) 0

/-- The free shared fetch units and decode slots: those no layer holds. A unit that an accepted COMMIT gives up and takes in one is lent until it goes
live: both layers hold it, and it counts once. -/
def State.fetchFree (s : State) : Nat :=
  s.fetchShared + natSum (s.lentFetch.map (·.2)) - natSum ((s.flagged R.OUT_LYR_STAT_FETCH).map (fun e => s.fetchCost e.1 e.2))
def State.jxsFree (s : State) : Nat := 16 + natSum (s.lentJxs.map (·.2)) - (s.flagged R.OUT_LYR_STAT_JXS).length

/-- OUT.POOL_FREE shows them. -/
def State.poolShow (s : State) : State := (s.wr R.OUT_POOL_FREE_FETCH 0 s.fetchFree).wr R.OUT_POOL_FREE_JXS 0 s.jxsFree

/-- One of the two pools (R320, R321): the flag of a layer that holds of it, whether a layer needs it, how much, and what is lent. -/
structure Pool where
  flag : Fld
  need : State → Nat → Nat → Bool
  cost : Nat → Nat → Nat
  lent : Tab Nat

/-- The pool of shared fetch units, and that of decode slots. -/
def State.fetchPool (s : State) : Pool := ⟨R.OUT_LYR_STAT_FETCH, State.needsFetch, s.fetchCost, s.lentFetch⟩
def State.jxsPool (s : State) : Pool := ⟨R.OUT_LYR_STAT_JXS, State.needsJxs, fun _ _ => 1, s.lentJxs⟩

/-- What a COMMIT takes of a pool for a layer: `q` and `p` hold the values after the switch line without and with it. A layer that an earlier COMMIT
empties takes back what it has lent. -/
def State.unitsTook (s q p : State) (x : Pool) (e : Nat × Nat) : Nat :=
  if !x.need p e.1 e.2 then 0
  else if s.rdk x.flag e.1 e.2 = 0 then x.cost e.1 e.2
  else if x.need q e.1 e.2 then 0 else tget 0 x.lent (layerKey e)

/-- What a COMMIT gives up of a pool at a layer: nothing where an earlier COMMIT has already emptied it. -/
def State.unitsGave (s q p : State) (x : Pool) (e : Nat × Nat) : Nat :=
  if s.rdk x.flag e.1 e.2 = 1 ∧ !x.need p e.1 e.2 ∧ x.need q e.1 e.2 then x.cost e.1 e.2 else 0

/-- Whether what a COMMIT takes of a pool with `free` units left, netted with what it gives up, does not fit. -/
def State.poolShort (s p : State) (x : Pool) (free : Nat) (ls : List (Nat × Nat)) : Bool :=
  let q := s.projected []
  let took := natSum (ls.map (s.unitsTook q p x))
  decide (0 < took) && decide (free + natSum (ls.map (s.unitsGave q p x)) < took)

/-- What is lent after an accepted COMMIT: up to `n` units of those its layers give up, and none of a layer that is in use again. -/
def lend (n : Nat) : List (Nat × Nat) → Tab Nat → Tab Nat
  | [], t => t
  | (k, c) :: l, t => lend (n - c) l (tset 0 t k (min n c))

/-- The lent units of a pool after an accepted COMMIT. -/
def State.poolLend (s p : State) (x : Pool) (ls : List (Nat × Nat)) : Tab Nat :=
  let q := s.projected []
  let kept := ls.foldl (fun t e => if x.need p e.1 e.2 then tset 0 t (layerKey e) 0 else t) x.lent
  lend (natSum (ls.map (s.unitsTook q p x))) ((ls.filter (fun e => s.unitsGave q p x e != 0)).map (fun e => (layerKey e, s.unitsGave q p x e))) kept

/-- What a COMMIT takes and gives up, netted, does not fit: shared fetch units, decode slots. -/
def State.shortOf (s p : State) (ls : List (Nat × Nat)) : Bool × Bool :=
  (s.poolShort p s.fetchPool s.fetchFree ls, s.poolShort p s.jxsPool s.jxsFree ls)

/-- What an accepted COMMIT takes it holds at once. -/
def State.takeUnits (s p : State) (ls : List (Nat × Nat)) : State :=
  let s : State := { s with lentFetch := s.poolLend p s.fetchPool ls, lentJxs := s.poolLend p s.jxsPool ls }
  (ls.foldl (fun s e =>
    let s := if p.needsFetch e.1 e.2 then s.wrk R.OUT_LYR_STAT_FETCH e.1 e.2 1 else s
    if p.needsJxs e.1 e.2 then s.wrk R.OUT_LYR_STAT_JXS e.1 e.2 1 else s) s).poolShow

/-- A layer's holdings follow its live and accepted values at a switch line; what it no longer holds it no longer lends (R320, R321). -/
def State.holdUnits (s : State) (n l : Nat) : State :=
  let p := s.projected []
  let f := s.needsFetch n l || p.needsFetch n l
  let j := s.needsJxs n l || p.needsJxs n l
  let s : State := { s with lentFetch := if f then s.lentFetch else tdel s.lentFetch (layerKey (n, l)), lentJxs := if j then s.lentJxs else tdel s.lentJxs (layerKey (n, l)) }
  ((s.wrk R.OUT_LYR_STAT_FETCH n l (b2n f)).wrk R.OUT_LYR_STAT_JXS n l (b2n j)).poolShow

/-! ### Charges (R58, R349) -/

/-- The new charges of the layers a COMMIT touches at pipelines that are not STOPPED (R57, R441). -/
def State.commitCharges (s p : State) (ls : List (Nat × Nat)) : List (Nat × Nat) :=
  (ls.filter (fun e => s.rd R.OUT_STAT_LC_STATE e.1 != lcSTOPPED)).map fun e =>
    if e.2 = 0 then
      (cSelect e.1, p.selectCharge e.1 (p.selKind e.1) (p.selNum e.1) (p.selH e.1) (p.rdk R.OUT_LYR_SRC_XY_LIVE_XY e.1 0) (p.rdk R.OUT_LYR_SRC_WH_LIVE_WH e.1 0))
    else (cLayer e.1 e.2, p.layerCharge e.1 e.2 (p.rdk R.OUT_LYR_SURF_LIVE_HANDLE e.1 e.2) (p.rdk R.OUT_LYR_SRC_XY_LIVE_XY e.1 e.2)
          (p.rdk R.OUT_LYR_SRC_WH_LIVE_WH e.1 e.2))

/-! ### The outcome of a COMMIT (R437 to R439) -/

/-- The first entry for which `p` holds; 0xFF when there is none. -/
def entIndex (p : StageEnt → Bool) (l : List StageEnt) : Nat := (l.findIdx? p).getD 0xFF

/-- The checks and the admission of a stage buffer: status, failing entry, and the state with its refusal counted. Nothing is taken. -/
def State.commitTry (s : State) (ss tl : Nat) (ents : List StageEnt) : State × Status × Nat :=
  let p := s.projected ents
  let ls := (ents.flatMap (fun e => entLayers e.key)).eraseDups
  let st := check (ents.flatMap (p.entChecks ss tl))
  let short := s.shortOf p ls
  let ch := s.commitCharges p ls
  if st ≠ .ok then (s, st, entIndex (fun e => (p.entChecks ss tl e).any (fun c => c.1 && c.2 == st)) ents)
  else if short.1 then
    (s.refuse 1, .noContext, entIndex (fun e => (entLayers e.key).any (fun x => s.unitsTook (s.projected []) p s.fetchPool x != 0)) ents)
  else if short.2 then
    (s.refuse 5, .noContext, entIndex (fun e => (entLayers e.key).any (fun x => s.unitsTook (s.projected []) p s.jxsPool x != 0)) ents)
  else if !s.admits ch then
    (s.inc R.PLZ_ISO_REFUSED_COUNT 0, .bandwidth,
      entIndex (fun e => (s.commitCharges p (entLayers e.key)).any (fun c => decide (s.chargeOf c.1 < c.2))) ents)
  else (s, .ok, 0xFF)

/-- The surfaces an accepted COMMIT puts on LY7 are write-locked to the Stencil owner (R352). -/
def State.lockStencil (s p : State) (ents : List StageEnt) : State :=
  ents.foldl (fun s e => match e.key with
    | .layer n 7 =>
      let h := p.rdk R.OUT_LYR_SURF_LIVE_HANDLE n 7
      if h = 0 then s else s.surfLock (hIdx h) (p.stnOwner n)
    | _ => s) s

/-- An accepted COMMIT (R438): everything is taken, and its values are on their way to target `tgt`. -/
def State.commitAccept (s : State) (t tgt : Nat) (ents : List StageEnt) : State :=
  let tl := s.cueTln t
  let p := s.projected ents
  let ls := (ents.flatMap (fun e => entLayers e.key)).eraseDups
  let ch := s.commitCharges p ls
  let s := if ch.isEmpty then s else s.takeCharges ch
  let s := (s.takeUnits p ls).lockStencil p ents
  let items := (upFrom 0 ents.length).filterMap (fun i => (ents[i]?).map (fun e => (⟨s.stagedN + i, tl, tgt, t, e, false, false⟩ : Staged)))
  let s := { s with staged := s.staged ++ items, stagedN := s.stagedN + ents.length }
  let s := s.setCue t fun x => { x with com := s.stagedN - ents.length }
  ((s.wr R.CUE_LAST_TGT_FSN t tgt).inc R.CUE_CNT_COMMIT_COUNT t).setStage t []

/-- The pipelines and routes an entry's lateness is raised for. -/
def isLateKey : StageKey → Bool
  | .layer _ _ | .route _ _ => true
  | _ => false

/-- LATE of a pipeline for the layers of `mask` (R338, R356), and A_LATE of a route (R400). -/
def State.raiseLate (s : State) (n tgt applied mask : Nat) : State :=
  s.raise evLYR n 0 0 kPipe n .late tgt (s.pipeFmt n).sw (applied * 2 ^ 32 + mask)
def State.raiseALate (s : State) (h fsn tgt : Nat) : State :=
  s.raise evART (hIdx h) 0 2 kRoute (hIdx h) .late fsn 0 tgt

/-- The lateness of a list of keys for the switch line of `tgt`: one LATE for each pipeline, one A_LATE for each route. -/
def State.raiseLates (s : State) (keys : List StageKey) (tgt applied : Nat) : State :=
  let pipes := (keys.filterMap (fun k => match k with | .layer n _ => some n | _ => none)).eraseDups
  let routes := (keys.filterMap (fun k => match k with | .route h _ => some h | _ => none)).eraseDups
  let s := pipes.foldl (fun s n => s.raiseLate n tgt applied ((upFrom 0 8).foldl (fun m l => if keys.contains (.layer n l) then m + 2 ^ l else m) 0)) s
  routes.foldl (fun s h => s.raiseALate h tgt tgt) s

/-- The pipeline a staged value belongs to. -/
def lateUnit : StageKey → Option Nat
  | .layer n _ | .uc n | .om n | .skim n _ => some n
  | .sel d => if d < 96 then some d else none
  | _ => none

/-- The layer a staged value belongs to, in the mask of a LATE event: a select is LY0's. -/
def lateBit : StageKey → Nat
  | .layer _ l => 2 ^ l
  | .sel _ => 1
  | _ => 0

/-- Values that missed the switch line of `tgt` by a late delivery have been applied at that of `applied` (R51): every unit concerned raises a LATE
event with both FSNs. A pipeline raises LATE for any of its values, a route A_LATE with the FSN applied as its FSN; a port, a job and an
Arcade destination have no LATE among their events, so theirs has neither flag nor code (assumption 125). -/
def State.raiseMissed (s : State) (keys : List StageKey) (tgt applied : Nat) : State :=
  let pipes := (keys.filterMap lateUnit).eraseDups
  let routes := (keys.filterMap (fun k => match k with | .route h _ => some h | _ => none)).eraseDups
  let others := keys.filter fun k => match k with | .route _ _ => false | _ => (lateUnit k).isNone
  let mask := fun (n : Nat) => ((keys.filter (fun k => lateUnit k == some n)).map lateBit).foldl (· ||| ·) 0
  let s := pipes.foldl (fun s n => s.raiseLate n tgt applied (mask n)) s
  let s := routes.foldl (fun s h => s.raiseALate h applied tgt) s
  { s with evts := others.map (fun k => .late k tgt applied) ++ s.evts }

/-- Whether the switch line of an FSN has passed on a thread's timeline (R439). -/
def State.switchPassed (s : State) (t tgt : Nat) : Bool :=
  match s.lastEvent t with
  | none => false
  | some (f, l) => tgt == f && decide ((s.tlnFmt (s.cueTln t)).sw ≤ l) || (tgt != f && decide ((f + 2 ^ 32 - tgt) % 2 ^ 32 < 2 ^ 31))

/-- A COMMIT returns SC_LATE (R439): the buffer is kept; LATE and A_LATE at the switch line of the target, at once when it has passed. -/
def State.commitLate (s : State) (t tgt n : Nat) (ents : List StageEnt) : State :=
  let tl := s.cueTln t
  let s := ((s.wr R.CUE_S_S t Status.late.code).inc R.CUE_CNT_LATE_COUNT t).cueEvent t 2 .late (some tgt) n
  let keys := (ents.map (·.key)).filter isLateKey
  if s.switchPassed t tgt then s.raiseLates keys tgt 0 else { s with lateDue := s.lateDue ++ keys.map (fun k => (tl, tgt, k)) }

/-- The digest of a stage buffer in its COMMIT record (R582). -/
def keyNums : StageKey → List Nat
  | .sel d => [0, d] | .layer n l => [1, n, l] | .uc n => [2, n] | .om n => [3, n] | .skim n r => [4, n, r]
  | .route h f => [5, h, f] | .sync h t => [6, h, t] | .job h => [7, h]
def bufDigest (ents : List StageEnt) : Nat := Config.stageDigest (ents.map (fun e => (keyNums e.key, e.vals)))

/-- The local outcome of a COMMIT for target `tgt`; `late` when it lies behind N. The primary of a pair records it. -/
def State.commitRun (s : State) (t : Nat) (i : Ins) (tgt n : Nat) (late : Bool) : State :=
  let ents := (s.cue t).stage
  let tl := s.cueTln t
  let pc := s.cuePc t
  let r := s.commitTry (s.cueSess t) tl ents
  let rec' := fun (s : State) (st : Status) => s.sendDet tl (s.fsn tl) (.commit t pc st.code tgt (bufDigest ents))
  let s := r.1.wr R.CUE_STAT_CPEND t 0
  if r.2.1 ≠ .ok then ((rec' s r.2.1).wr R.CUE_FAULT_ENT_ENTRY t r.2.2).cueFail t i r.2.1 r.2.2
  else if late then ((rec' s .late).commitLate t tgt n ents).cueNext t (pc + 1)
  else ((rec' s .ok).commitAccept t tgt ents).cueOk t (pc + 1)

/-! ### COMMIT in MIRROR (R444, R584) -/

/-- The next COMMIT record of a thread: PC, status, target, digest. -/
def State.commitRec (s : State) (t : Nat) : Option (DetRec × Nat × Nat × Nat × Nat) :=
  s.recs.findSome? fun r => match r.body with
    | .commit t' pc st tgt d => if t' = t then some (r, pc, st, tgt, d) else none
    | _ => none

/-- The status a code names. -/
def statusOf (c : Nat) : Status :=
  ([.ok, .badHandle, .wrongKind, .noContext, .unitAbsent, .unitRunning, .lenExceeds, .busy, .protected', .notReady, .domainOff, .decode, .bandwidth,
    .late, .draining, .auth, .eccUncorr, .mode, .noMemory, .timeline] : List Status).getD c .ok

/-- A COMMIT takes its outcome from the primary's record; one that differs, or cannot be applied, makes the card DIVERGED (R584). -/
def State.commitMirror (s : State) (t : Nat) (i : Ins) (r : DetRec) (pc st tgt d : Nat) : State :=
  let ents := (s.cue t).stage
  let s := (s.recUse r).wr R.CUE_STAT_CPEND t 0
  let s := if pc ≠ s.cuePc t ∨ d ≠ bufDigest ents then s.diverge else s
  if statusOf st = .late then (s.commitLate t tgt ((s.nextTarget t).getD 0) ents).cueNext t (s.cuePc t + 1)
  else if statusOf st ≠ .ok then s.cueFail t i (statusOf st) 0xFF
  else if (s.commitTry (s.cueSess t) (s.cueTln t) ents).2.1 ≠ .ok then ((s.diverge).setStage t []).cueOk t (s.cuePc t + 1)
  else (s.commitAccept t tgt ents).cueOk t (s.cuePc t + 1)

/-- The target of a COMMIT and how far it lies ahead of N (R436). -/
def State.commitTarget (s : State) (t : Nat) (i : Ins) (n : Nat) : Nat × Nat :=
  let tgt := if bitAt i.x 0 then n else s.cueG t i.gs
  (tgt, (tgt + 2 ^ 32 - n) % 2 ^ 32)

/-- Whether a COMMIT waits for N to reach its target (R436). -/
def State.commitAhead (s : State) (t : Nat) (i : Ins) : Bool :=
  match s.nextTarget t with
  | none => false
  | some n => let a := (s.commitTarget t i n).2; decide (a ≠ 0) && decide (a < 2 ^ 31)

/-- A COMMIT that a thread issues, or issues again (R436): `i` holds its modifiers. In MIRROR one whose target is reached takes its outcome from the
primary's record, for which it waits (R444). -/
def State.commitIssue (s : State) (t : Nat) (i : Ins) (useRec : Bool) : State :=
  match (if s.modeCode = mMIRROR ∧ useRec then s.commitRec t else none) with
  | some (r, pc, st, tgt, d) => s.commitMirror t i r pc st tgt d
  | none =>
    if s.commitAhead t i then (s.cueWait t (s.cuePc t) (.target (s.cueG t i.gs))).wr R.CUE_STAT_CPEND t 1
    else if s.modeCode = mMIRROR ∧ useRec then s.cueWait t (s.cuePc t) (.record s.now)
    else match s.nextTarget t with
      | none => (s.wr R.CUE_STAT_CPEND t 0).cueFail t i .timeline 0xFF
      | some n =>
        let g := s.commitTarget t i n
        s.commitRun t i g.1 n (decide (g.2 ≠ 0))

/-- COMMIT, 0x36 (R436). -/
def cueCommit (t : Nat) (s : State) : State :=
  s.cueIssue t 0x36 fun i =>
    if bitAt i.x 1 then (s.setStage t []).cueOk t (s.cuePc t + 1) else s.commitIssue t i true

/-- A thread that waits in a COMMIT, or in a POST for its record, issues it again. -/
def State.commitAgain (s : State) (t : Nat) (useRec : Bool) : State :=
  let s := (s.setCue t fun x => { x with wait := .none, woken := none }).wr R.CUE_STAT_STATE t cRUNNING
  match (s.cueWords t)[s.cuePc t]? with
  | some w => if (insOf w).op = 0x61 then s.postIssue t useRec else s.cueIssue t 0x36 fun i => s.commitIssue t i useRec
  | none => s.cueIssue t 0x36 fun i => s.commitIssue t i useRec

/-- Whether the record has come for which a thread waits (R444). -/
def State.recCame (s : State) (t : Nat) : Bool :=
  if ((s.cueWords t)[s.cuePc t]?).any (fun w => (insOf w).op == 0x61) then (s.postRec t).isSome else (s.commitRec t).isSome

/-- COMMIT_TARGET_REACHED: N has reached the target of a waiting COMMIT, or, in MIRROR, the record of a COMMIT or POST has come or is 1 ms overdue (R436,
R444, R584). -/
def commitTargetReached (t : Nat) (s : State) : State :=
  if s.cueState t ≠ cWAITING then s
  else match (s.cue t).wait with
    | .target tgt =>
      (match s.nextTarget t with
       | some n => if (n + 2 ^ 32 - tgt) % 2 ^ 32 < 2 ^ 31 then s.commitAgain t true else s
       | none => s)
    | .record since =>
      if s.recCame t then s.commitAgain t true
      else if since + 1000000 ≤ s.now then s.diverge.commitAgain t false
      else s
    | _ => s

/-! ### Delivery and going live (R40, R49 to R51, R397) -/

/-- The domain a staging register lies in. -/
def State.keyDomain (s : State) : StageKey → Nat
  | .sel _ => 8
  | .layer n _ | .uc n | .om n | .skim n _ => 0x180 + n
  | .route _ _ => 7
  | .sync h _ => 0x100 + hIdx h
  | .job h => ((tfind s.jobs (hIdx h)).map (fun j => 0x40 + j.head)).getD 8

/-- The BAR0 offset of a register's copy for a unit and an index: the inverse of `placeOf`. -/
def addrOf (f : Fld) (u k : Nat) : Nat :=
  match (R.regMap.find? (fun r => r.base == f.base)).map (·.dims) with
  | some [(a, _)] => f.base + a * u
  | some [(a, _), (b, _)] => f.base + a * u + b * k
  | some ((a, _) :: (b, _) :: (c, _) :: _) => f.base + a * u + b * (k / 12) + c * (k % 12)
  | _ => f.base

/-- The offset of the first staging register an entry writes, as the error log names it. -/
def State.entAddr (s : State) (e : StageEnt) : Nat :=
  match (e.vals.flatMap (fun v => s.places false e.key v.1)).head? with
  | some p => addrOf p.1 p.2.1 p.2.2.1
  | none => 0

/-- An error of the staging path is logged under the principal of the thread's session and the port of its engine (R492, R507). -/
def State.stageErr (s : State) (st : Status) (x : Staged) : State :=
  s.logErr st (s.prinOf (s.cueSess x.thread)) (0x30 + x.thread / 16) true false (s.entAddr x.ent) 0

/-- A staged value reaches its unit's staging registers (R49), and wakes its domain from SLEEP; of a domain that is OFF the fabric answers SC_DOMAIN_OFF, and
the value is gone (R504). One that comes after its switch line is logged (R51). -/
def stagedValueDelivery (item : Nat) (s : State) : State :=
  match s.staged.find? (fun x => x.id == item) with
  | none => s
  | some x =>
    if x.delivered then s
    else if (s.domain (s.keyDomain x.ent.key)).st = 2 then
      { s with staged := s.staged.filter (fun (y : Staged) => y.id ≠ item) }.stageErr .domainOff x
    else
      let s := { s with staged := s.staged.map (fun (y : Staged) => if y.id = item then { y with delivered := true } else y) }
      let s := (s.wake (s.keyDomain x.ent.key)).applyEnt false x.ent
      if x.missed then (s.stageErr .late x).evidence 4 0 else s

/-- What going live does besides the registers (R283, R296, R312, R320, R321, R337, R353, R380). -/
def State.liveEffect (s : State) (old : State) (e : StageEnt) : State :=
  match e.key with
  | .sel d =>
    let s := s.selectLeft old d
    if d < 96 then
      let s := s.setPipe d fun q => { q with fmtTold := false }
      s.holdUnits d 0
    else
      let changed := s.rd R.PLZ_SEL_LIVE_SEL d != old.rd R.PLZ_SEL_LIVE_SEL d || s.selH d != old.selH d
      s.setJob (d - 96) fun j =>
        if changed then { j with sizeTold := false, fmtTold := false, samples := [], held := [], times := [], lastIn := none, lastA := none } else { j with sizeTold := false, fmtTold := false }
  | .layer n l =>
    let h := s.rdk R.OUT_LYR_SURF_LIVE_HANDLE n l
    let s := if l ≠ 0 ∧ h ≠ 0 then s.wrk R.OUT_LYR_STAT_COMMITTED n l 1 else s
    let s := s.holdUnits n l
    if l = 7 ∧ e.vals.any (fun v => v.1 == 0) then s.setPipe n fun q => { q with refresh := true } else s
  | .skim n r => s.wrk R.OUT_SKIM_STATE_FAILING n r 0
  | .job h => match tfind s.jobs (hIdx h) with
    | some j => s.setJob (hIdx h) fun x => { x with bank := s.loadBank j (s.jrd j R.CVA_JOB_STAT_BANK_LIVE) }
    | none => s
  | _ => s

/-- A route that goes live on a destination displaces any other there (R397). -/
def State.displace (s : State) (e : StageEnt) : State :=
  match e.key with
  | .route h 0 =>
    let d := s.rd R.AUD_RT_MAP_LIVE_DST (hIdx h)
    if d = 0xFFF then s
    else ((s.routeX.map (·.1)).filter (fun r => r != hIdx h && s.rd R.AUD_RT_MAP_LIVE_DST r == d)).foldl
      (fun s r => (s.wr R.AUD_RT_MAP_LIVE_DST r 0xFFF).raise evART r 0 0 kRoute r .ok (s.fsn (s.audTln d)) 0 h) s
  | _ => s

/-- One accepted value goes live. -/
def State.goLive1 (s : State) (x : Staged) : State := ((s.applyEnt true x.ent).liveEffect s x.ent).displace x.ent

/-- What goes live of an entry `x` among the entries `now` of a switch line: not the words that a later COMMIT sets for the same key and switch line
(R240, R440), wherever the delivery of either stands; none where no word is left. -/
def overridden (now : List Staged) (x : Staged) : Option Staged :=
  let places := (now.filter (fun y => y.ent.key == x.ent.key && y.tgt == x.tgt && y.tln == x.tln && decide (x.id < y.id))).flatMap (fun y => y.ent.vals.map (·.1))
  let vals := x.ent.vals.filter (fun v => !places.contains v.1)
  if vals.isEmpty && !x.ent.vals.isEmpty then none else some { x with ent := { x.ent with vals := vals } }

/-- The switch line of FSN `f` on timeline `tl`: delivered values whose switch line has come go live, in the order of their COMMITs (R50), but for what
a later COMMIT of the same switch line overrides (R240, R440); those that missed theirs raise LATE (R51); values still on their way stay; LATE and
A_LATE of late COMMITs are raised (R439). -/
def State.goLive (s : State) (tl f : Nat) : State :=
  let due := fun (x : Staged) => x.tln == tl && decide ((f + 2 ^ 32 - x.tgt) % 2 ^ 32 < 2 ^ 31)
  let left := s.staged.filterMap (fun x => if due x then overridden (s.staged.filter due) x else some x)
  let now := left.filter (fun x => due x && x.delivered)
  let s := { s with staged := (left.filter (fun x => !(due x && x.delivered))).map (fun x => if due x then { x with missed := true } else x) }
  let s := now.foldl State.goLive1 s
  let s := if now.any (fun x => match x.ent.key with | .route _ _ => true | _ => false) then s.npcmShow else s
  let lates := now.filter (fun x => x.missed)
  let s := ((lates.map (·.tgt)).eraseDups).foldl (fun s tgt => s.raiseMissed ((lates.filter (fun x => x.tgt == tgt)).map (·.ent.key)) tgt f) s
  let mine : List (Nat × Nat × StageKey) := s.lateDue.filter (fun x => x.1 == tl && x.2.1 == f)
  let s := { s with lateDue := s.lateDue.filter (fun x => !(x.1 == tl && x.2.1 == f)) }
  s.raiseLates (mine.map (fun x => x.2.2)) f 0

/-- COMMIT. -/
def execCommit (t : Nat) (s : State) : Res := .next (cueCommit t s)
/-- COMMIT_TARGET_REACHED. -/
def execCommitTargetReached (t : Nat) (s : State) : Res := .next (commitTargetReached t s)
/-- STAGED_VALUE_DELIVERY. -/
def execStagedValueDelivery (item : Nat) (s : State) : Res := .next (stagedValueDelivery item s)

end Sys2Proof.Machine
end

