-- ==== Sys2Proof/Machine/Timelines.lean ====
section
/-! DEFINITION. The device epoch and its steps (R471, R474), the timeline generators (R475 to R484, R678): start, phase, slew, cut, and the
line they reach next. -/

namespace Sys2Proof.Machine

open Sys2Proof

/-! ### Phases -/

/-- `x` reduced modulo `m` into the range −m/2 (exclusive) to +m/2 (inclusive) (R473, R480). -/
def halfRange (x m : Int) : Int := if m < 2 * (x % m) then x % m - m else x % m

/-- A timeline generator besides its registers. -/
def State.tlnX (s : State) (t : Nat) : Tln := tget Tln.reset s.tln t
/-- Change a timeline generator. -/
def State.setTln (s : State) (t : Nat) (f : Tln → Tln) : State := { s with tln := tmod Tln.reset s.tln t f }

/-- The phase error e of a timeline in whole ns (R480). -/
def State.tlnErr (s : State) (t : Nat) : Int :=
  (halfRange (((s.rd R.REF_TLN_PHASE_NS t : Nat) - (s.tlnX t).phase) * (s.tlnFmt t).num) (periodM (s.tlnFmt t))).tdiv (s.tlnFmt t).num

/-- Whether a timeline has a running unit (R481): a pipeline of it that is ARMED, RUNNING or STOPPING. -/
def State.tlnBusy (s : State) (t : Nat) : Bool :=
  (upFrom 0 s.lanes).any fun n => s.rd R.OUT_TMG_FMT_TLN n == t && s.rd R.OUT_STAT_LC_STATE n != lcSTOPPED

/-- The timeline events (R489): bit 0 SLEW_START, 1 SLEW_DONE, 2 CUT, 3 TLN_RUN. -/
def State.tlnEvent (s : State) (t bit arg : Nat) : State :=
  s.raise ⟨R.REF_TLN_EVT_FLAGS, 0x0005101C, 0x0A01⟩ t 0 bit kTimeline t .ok (s.fsn t) 0 arg

/-- REF.TLN_ERR reports e (R480). -/
def State.tlnShow (s : State) (t : Nat) : State := s.wr R.REF_TLN_ERR_NS t (twos 32 (s.tlnErr t))

/-- A slew ends (R481). -/
def State.slewDone (s : State) (t : Nat) : State :=
  if s.on R.REF_TLN_STAT_SLEWING t then (s.wr R.REF_TLN_STAT_SLEWING t 0).tlnEvent t 1 (s.tlnX t).slewMs else s

/-- A slew begins while e is not 0 and a unit runs, and ends when e is 0 (R481). -/
def State.slewCheck (s : State) (t : Nat) : State :=
  if !s.tlnRuns t then s
  else if s.tlnErr t = 0 then s.slewDone t
  else if s.tlnBusy t && !s.on R.REF_TLN_STAT_SLEWING t then
    ((s.setTln t fun x => { x with slewMs := 0 }).wr R.REF_TLN_STAT_SLEWING t 1).tlnEvent t 0 (twos 64 (s.tlnErr t))
  else s

/-! ### The epoch -/

/-- A stored stamp moves with an epoch step (R474). -/
def shiftNs (d : Int) (x : Nat) : Nat := ((x : Int) + d).toNat

/-- A frame's completion time moves (R474). -/
def Frame.shift (d : Int) (f : Frame) : Frame := { f with done := shiftNs d f.done }
/-- What a context shows, with the completion time moved (R474). -/
def Shown.shift (d : Int) : Shown → Shown
  | .frame f => .frame (f.shift d)
  | x => x
/-- A job's sample times move (R474). -/
def Sample.shift (d : Int) (x : Sample) : Sample := { x with time := shiftNs d x.time }
/-- An ASRC arrival stamp moves (R474). -/
def SrcSmp.shift (d : Int) (x : SrcSmp) : SrcSmp := { x with time := shiftNs d x.time }
/-- The stamps of a port. -/
def PortX.shift (d : Int) (x : PortX) : PortX := { x with frames := x.frames.map (Frame.shift d), line1 := shiftNs d x.line1 }
/-- The stamps of a sync context. -/
def SyncCtx.shift (d : Int) (x : SyncCtx) : SyncCtx := { x with frozen := x.frozen.map (Frame.shift d), shown := x.shown.shift d }
/-- The stamps of a job. -/
def Job.shift (d : Int) (j : Job) : Job :=
  { j with samples := j.samples.map (Sample.shift d), times := j.times.map (shiftNs d), periodAt := shiftNs d j.periodAt,
           lastA := j.lastA.map (Sample.shift d) }
/-- The stamps of an input group. -/
def GrpX.shift (d : Int) (x : GrpX) : GrpX :=
  { x with src := x.src.map (SrcSmp.shift d), det := x.det.map (fun (e : Nat × NpDet) => (e.1, { e.2 with last := e.2.last.map (shiftNs d) })), raw := x.raw.map (fun (e : Nat × List SrcSmp) => (e.1, e.2.map (SrcSmp.shift d))) }

/-- Stored stamps that units later compare with current times (R474). -/
def State.shiftStamps (s : State) (d : Int) : State :=
  { s with
    portX := s.portX.map (fun (e : Nat × PortX) => (e.1, e.2.shift d))
    sync := s.sync.map (fun (e : Nat × SyncCtx) => (e.1, e.2.shift d))
    jobs := s.jobs.map (fun (e : Nat × Job) => (e.1, e.2.shift d))
    grpX := s.grpX.map (fun (e : Nat × GrpX) => (e.1, e.2.shift d))
    npHist := s.npHist.map (fun (e : Nat × List NpFrame) =>
      (e.1, e.2.map (fun (x : NpFrame) => { x with smp := x.smp.map (SrcSmp.shift d) }))) }

/-- The values of the epoch: seconds of 48 bits and nanoseconds (REF.EPOCH_S). -/
def epochMod : Nat := 2 ^ 48 * 1000000000

/-- The epoch steps by `d` (R382, R473, R474, R480): stored stamps and the grid offset move with it, each running timeline's A falls by `d`. -/
def State.epochStep (s : State) (d : Int) : State :=
  let s := { s with epoch := (((s.epoch : Int) + d) % epochMod).toNat, gridOfs := s.gridOfs + d }
  let s := (s.shiftStamps d).gridShow
  (upFrom 0 16).foldl (fun s t =>
    if s.tlnRuns t then ((s.setTln t fun x => { x with phase := x.phase - d }).tlnShow t).slewCheck t else s) s

/-- The epoch starts at 0 s and 0 ns (R471, R382). -/
def State.epochStart (s : State) : State :=
  { s.wr R.REF_STAT_EPOCH_RUN 0 1 with epoch := 0, gridOfs := 0 }.gridShow

/-! ### Start and stop (R477, R478) -/

/-- A timeline starts at its format: T is reduced modulo P, and n is that of the first alignment point at or after this moment (R478, R480). -/
def State.tlnStart (s : State) (t : Nat) : State :=
  let f := s.tlnFmt t
  let ph := s.rd R.REF_TLN_PHASE_NS t * f.num % periodM f / f.num
  let n := (-((-(((s.epoch : Int) - ph) * f.num)) / (periodM f : Int))).toNat
  let s := (s.wr R.REF_TLN_PHASE_NS t ph).setTln t fun _ => ⟨ph, n, 0, 0, true, 0, none⟩
  let s := ((s.wr R.REF_TLN_STAT_STATE t 2).wr R.REF_TLN_STAT_SLEWING t 0).wr R.REF_TLN_STAT_CUT_PEND t 0
  s.tlnShow t

/-- The timelines that wait for the epoch start, each raising TLN_RUN with its starting FSN (R477, R489). -/
def State.tlnEpochRuns (s : State) : State :=
  (upFrom 0 16).foldl (fun s t =>
    if s.rd R.REF_TLN_STAT_STATE t = 1 then
      let s := s.tlnStart t
      s.tlnEvent t 3 ((s.tlnX t).n % 2 ^ 32)
    else s) s

/-- A timeline stops (R477, R485): line events stop. -/
def State.tlnStop (s : State) (t : Nat) : State :=
  let s := ((s.wr R.REF_TLN_STAT_STATE t 0).wr R.REF_TLN_STAT_SLEWING t 0).wr R.REF_TLN_STAT_CUT_PEND t 0
  (s.wr R.REF_TLN_ERR_NS t 0).setTln t fun _ => Tln.reset

/-- Whether a timeline counts as STOPPED (R479). -/
def State.tlnStopped (s : State) (t : Nat) : Bool :=
  (upFrom 0 s.lanes).all (fun n =>
      (s.rd R.INP_CFG_REF_TLN n != t || s.rd R.INP_STAT_LC_STATE n == lcSTOPPED)
        && (s.rd R.OUT_TMG_FMT_TLN n != t || s.rd R.OUT_STAT_LC_STATE n == lcSTOPPED))
    && s.jobs.all (fun e => e.2.tln != t || s.jobLc e.2 == lcSTOPPED)
    && (upFrom 0 160).all (fun c => s.cueTln c != t || (s.cueState c != cRUNNING && s.cueState c != cWAITING))

/-- The address of a timeline register. -/
def tlnAddr (t r : Nat) : Nat := 0x51000 + 0x40 * t + r

/-- The checks every write to a timeline's registers passes (R479). -/
def State.tlnOwn (s : State) (p t : Nat) : List (Bool × Status) :=
  [ (decide (16 ≤ t), .decode), (!s.holds p kTimeline t, .protected') ]

/-- A write of REF.TLN_CFG (R475, R477, R479). -/
def tlnCfgWrite (p t data : Nat) (s : State) : State :=
  let k := bitsOf data 16 7
  let f := bitsOf data 0 8
  s.gate p (tlnAddr t 0) true
    (s.tlnOwn p t ++ [ (decide (k < 4) || decide (64 < k) || (f != 0 && (formatOf f).isNone), .decode),
      ((k != s.rd R.REF_TLN_CFG_KERB t || f != s.rd R.REF_TLN_CFG_FMT t) && !s.tlnStopped t, .unitRunning) ])
    fun s =>
      let old := s.rd R.REF_TLN_CFG_FMT t
      let s := (s.wr R.REF_TLN_CFG_KERB t k).wr R.REF_TLN_CFG_FMT t f
      if f = old then s
      else if f = 0 then s.tlnStop t
      else if s.epochRuns then s.tlnStart t
      else s.wr R.REF_TLN_STAT_STATE t 1

/-- The first alignment point is reached: the frame that begins has FSN n mod 2^32 (R478). -/
def timelineAlignStart (t : Nat) (s : State) : State :=
  if t < 16 ∧ s.tlnRuns t ∧ (s.tlnX t).starting then
    let x := s.tlnX t
    let s := s.epochTo (lineStart (s.tlnFmt t) x.phase x.n 1)
    (s.setTln t fun x => { x with starting := false, line := 0 }).wr R.REF_TLN_FSN_FSN t ((x.n + x.ofs) % 2 ^ 32)
  else s

/-! ### Phase, slew and cut (R480 to R484) -/

/-- A write of REF.TLN_PHASE (R480). -/
def tlnPhaseWrite (p t data : Nat) (s : State) : State :=
  let f := s.tlnFmt t
  s.gate p (tlnAddr t 4) true
    (s.tlnOwn p t ++ [ (s.rd R.REF_TLN_CFG_FMT t != 0 && decide (periodM f < (data + 1) * f.num), .decode) ])
    fun s =>
      let s := s.wr R.REF_TLN_PHASE_NS t data
      if s.tlnRuns t then (s.tlnShow t).slewCheck t else s

/-- A write of REF.TLN_SLEW (R481, R484): SLEW_PPM, and with CUT a request for a cut. -/
def tlnSlewWrite (p t data : Nat) (s : State) : State :=
  let ppm := bitsOf data 0 8
  s.gate p (tlnAddr t 8) true (s.tlnOwn p t ++ [ (ppm == 0 || decide (200 < ppm), .decode) ])
    fun s =>
      let s := s.wr R.REF_TLN_SLEW_SLEW_PPM t ppm
      if bitAt data 31 && s.tlnRuns t && s.tlnErr t != 0 then s.wr R.REF_TLN_STAT_CUT_PEND t 1 else s

/-- 1 ms of a slew (R481, R678). -/
def slewStep (t : Nat) (s : State) : State :=
  if t < 16 ∧ s.tlnRuns t then
    let s := s.slewCheck t
    if s.on R.REF_TLN_STAT_SLEWING t && s.tlnBusy t then
      let e := s.tlnErr t
      let d := clampInt (-(s.rd R.REF_TLN_SLEW_SLEW_PPM t : Int)) (s.rd R.REF_TLN_SLEW_SLEW_PPM t) e
      ((s.setTln t fun x => { x with phase := x.phase + d, slewMs := x.slewMs + 1 }).tlnShow t).slewCheck t
    else s
  else s

/-- What a frame boundary applies before its line 1 starts: a pending cut (R484). -/
def State.tlnCutApply (s : State) (t : Nat) : State :=
  if s.on R.REF_TLN_STAT_CUT_PEND t then
    let l := s.cutNs t
    let s := (s.setTln t fun x => { x with phase := x.phase + l, cut := some (x.n, l) }).wr R.REF_TLN_STAT_CUT_PEND t 0
    ((s.tlnShow t).tlnEvent t 2 l).slewDone t
  else s

/-- A timeline without a running unit takes A = T at the boundary, as a jump (R483). -/
def State.tlnJump (s : State) (t : Nat) : State :=
  if s.tlnBusy t then s
  else
    let e := s.tlnErr t
    if e = 0 then s else ((s.setTln t fun x => { x with phase := x.phase + e }).tlnShow t).slewDone t

/-- The timeline reaches its next line (R44, R478, R678): FSN increments by 1 at each frame boundary; REF.TLN_STAT.LINE and REF.TLN_FSN follow. -/
def State.tlnAdvance (s : State) (t : Nat) : State :=
  let f := s.tlnFmt t
  let x := s.tlnX t
  let wrap := decide (f.lines ≤ x.line)
  let s := if wrap then s.tlnCutApply t else s
  let n := if wrap then x.n + 1 else x.n
  let l := if wrap then 1 else x.line + 1
  let s := s.epochTo (lineStart f (s.tlnX t).phase n l)
  let s := if l = 1 ∧ x.line ≠ 0 then s.wr R.REF_TLN_FSN_FSN t ((s.fsn t + 1) % 2 ^ 32) else s
  let s := (s.setTln t fun x => { x with n := n, line := l }).wr R.REF_TLN_STAT_LINE t l
  if l = 1 then s.tlnJump t else s

/-- TLN_CFG_WRITE. -/
def execTlnCfgWrite (p t data : Nat) (s : State) : Res := .next (s.regRec (tlnAddr t 0) data (tlnCfgWrite p t data s))
/-- TIMELINE_ALIGN_START. -/
def execTimelineAlignStart (t : Nat) (s : State) : Res := .next (timelineAlignStart t s)
/-- TLN_PHASE_WRITE. -/
def execTlnPhaseWrite (p t data : Nat) (s : State) : Res := .next (s.regRec (tlnAddr t 4) data (tlnPhaseWrite p t data s))
/-- SLEW_STEP. -/
def execSlewStep (t : Nat) (s : State) : Res := .next (slewStep t s)
/-- TLN_CUT: a write of REF.TLN_SLEW with CUT 1. -/
def execTlnCut (p t data : Nat) (s : State) : Res := .next (s.regRec (tlnAddr t 8) (setBit data 31) (tlnSlewWrite p t (setBit data 31) s))

end Sys2Proof.Machine
end

