-- ==== Sys2Proof/Machine/Reference.lean ====
section
/-! DEFINITION. The reference unit: candidates (R449 to R459), selection (R460 to R464), the DPLL and holdover (R465 to R470), the start of the
epoch and its alignment (R471, R473). -/

namespace Sys2Proof.Machine

open Sys2Proof

/-! ### Candidates -/

/-- The states of a candidate (CAND_STAT.STATE, R456). -/
def caDISABLED : Nat := 0
def caLOST : Nat := 1
def caWAIT : Nat := 2
def caQUALIFIED : Nat := 3
def caDEGRADED : Nat := 4
def caDISQUALIFIED : Nat := 5

/-- A candidate besides its registers. -/
def State.cand (s : State) (c : Nat) : CandX := tget ⟨false, none, 0⟩ s.candX c
/-- Change a candidate. -/
def State.setCand (s : State) (c : Nat) (f : CandX → CandX) : State := { s with candX := tmod ⟨false, none, 0⟩ s.candX c f }
/-- The state of a candidate. -/
def State.candState (s : State) (c : Nat) : Nat := s.rd R.REF_CAND_STAT_STATE c
/-- Whether a candidate is of class B (R449). -/
def candB (c : Nat) : Bool := c == 7 || c == 8
/-- Whether a candidate is connected (R449, R450). -/
def State.candPresent (s : State) (c : Nat) : Bool := decide (c < 8) || (c == 8 && s.twin)
/-- Whether a candidate's signal is valid (R454): where the block itself can tell, so; otherwise as the outside says. -/
def State.candCond (s : State) (c : Nat) (v : Bool) : Bool :=
  if 2 ≤ c ∧ c ≤ 5 then s.rd R.INP_STAT_IN_STATE (s.rd R.REF_CAND_CFG_SRC c) == inVALID
  else if c = 7 then s.rd R.REF_PTP_STAT_PORT 0 == 3
  else if c = 8 then
    s.twin && s.rd R.LNE_GL_STAT_LINK_STATE 96 == glUP && decide (s.rd R.LNE_GL_QW_AGE_AGE_MS 96 < 3)
      && (bitAt (s.rd R.LNE_GL_QW_QW 96) 4 || bitAt (s.rd R.LNE_GL_QW_QW 96) 3)
  else v
/-- Whether a candidate's signal is valid now. -/
def State.candValid (s : State) (c : Nat) : Bool := s.candCond c (s.cand c).valid
/-- The modes in which the reference unit runs (R485). -/
def State.refActive (s : State) : Bool := s.modeCode != mBOOT && s.modeCode != mLIMP

/-- The effective QL (R458). -/
def State.effQl (s : State) (c : Nat) : Nat :=
  min 7 ((if candB c then s.rd R.REF_CAND_STAT_MSG_QL c else s.rd R.REF_CAND_CFG_QL c) + b2n (s.candState c == caDEGRADED))

/-- The candidate events (R489): bit 0 CAND_STATE, 1 CAND_FLAGS, 2 CAND_QL. -/
def State.candEvent (s : State) (c bit arg : Nat) : State :=
  s.raise ⟨R.REF_CAND_EVT_FLAGS, 0x00050418, 0x0901⟩ c 0 bit kCand c .ok 0 0 arg

/-- CAND_FLAGS of a candidate (R489). -/
def State.flagsEvent (s : State) (c : Nat) : State :=
  s.candEvent c 1 (s.rd R.REF_CAND_STAT_SUSPECT c * 4 + s.rd R.REF_CAND_STAT_DISAGREE c * 2 + b2n (s.candState c == caDEGRADED))

/-- A candidate enters a state (R456): its WTR timer and measurements follow. -/
def State.candSet (s : State) (c st : Nat) : State :=
  let old := s.candState c
  if old = st then s
  else
    let s := (s.wr R.REF_CAND_STAT_STATE c st).setCand c fun x => { x with calm := 0 }
    let s := s.wr R.REF_CAND_STAT_WTR_LEFT c (if st = caWAIT ∧ !candB c then s.rd R.REF_CAND_CFG_WTR_S c else 0)
    let s := if st = caLOST ∨ st = caDISABLED then (s.wr R.REF_CAND_FREQ_PPT c 0x80000000).wr R.REF_CAND_PHASE_NS c 0x80000000 else s
    let s := s.wr R.REF_CAND_STAT_EFF_QL c (s.effQl c)
    let s := s.candEvent c 0 (old * 16 + st)
    if (old == caDEGRADED) != (st == caDEGRADED) then s.flagsEvent c else s

/-- The message QL of a class B candidate changes (R457). -/
def State.setMsgQl (s : State) (c q : Nat) : State :=
  let old := s.rd R.REF_CAND_STAT_MSG_QL c
  if old = q then s
  else
    let s := s.wr R.REF_CAND_STAT_MSG_QL c q
    (s.wr R.REF_CAND_STAT_EFF_QL c (s.effQl c)).candEvent c 2 (old * 16 + q)

/-- The message QL of a grandmaster clockClass (R457). -/
def qlOfClass (k : Nat) : Nat :=
  if k = 6 then 0 else if k = 7 then 1 else if k = 52 ∨ k = 187 then 2 else if k = 135 ∨ k = 165 then 3
  else if k = 248 then 5 else if k = 255 then 7 else 6

/-- f of a candidate as CAND_FREQ holds it (R455). -/
def State.candF (s : State) (c : Nat) : Option Int :=
  if s.rd R.REF_CAND_FREQ_PPT c = 0x80000000 then none else some (sext 32 (s.rd R.REF_CAND_FREQ_PPT c))

/-- A value in 32 bits, two's complement, saturating clear of the code for none. -/
def sat32 (x : Int) : Nat := twos 32 (clampInt (-(2 ^ 31 - 1)) (2 ^ 31 - 1) x)

/-- The edge period of a candidate as (units of 1/num ns, num) (R449); none where it has no phase edge. -/
def State.candPeriod (s : State) (c : Nat) : Option (Nat × Nat) :=
  let src := s.rd R.REF_CAND_CFG_SRC c
  if c < 2 then (formatOf src).map (fun f => (periodM f, f.num))
  else if c < 6 then (formatOf (s.rd R.INP_FMT_DET_FMT src)).map (fun f => (periodM f, f.num))
  else if c = 6 ∧ s.on R.REF_CAND_CFG_PPS_REQ 6 then some (1000000000, 1) else none

/-- The alignment error δ of a candidate (R473): the time since its mark counts at its own rate. -/
def State.candDelta (s : State) (c : Nat) : Option Int :=
  if c = 6 ∧ !s.on R.REF_CAND_CFG_PPS_REQ 6 then some 0
  else match (s.cand c).mark with
    | none => none
    | some m =>
      let x : Int := (s.epoch : Int) - ((m.1 : Int) + ((s.now - m.2 : Nat) : Int) * (1000000000000 + (s.candF c).getD 0) / 1000000000000) + sext 32 (s.rd R.REF_CAND_OFS_PHASE_OFS c)
      if candB c then some x
      else (s.candPeriod c).map (fun (p : Nat × Nat) => (halfRange (x * p.2) p.1).tdiv p.2)

/-- REF.CAND_PHASE reports δ (R473); it reads none while the signal is not valid. -/
def State.candPhaseShow (s : State) (c : Nat) : State :=
  s.wr R.REF_CAND_PHASE_NS c (match if s.candValid c then s.candDelta c else none with
    | some d => sat32 d
    | none => 0x80000000)

/-! ### Selection (R460 to R464) -/

/-- The selected candidate. -/
def State.refSel (s : State) : Option Nat := if s.on R.REF_STAT_SEL_VALID 0 then some (s.rd R.REF_STAT_SEL 0) else none

/-- Whether a candidate is eligible (R460). -/
def State.eligible (s : State) (c : Nat) : Bool :=
  (s.candState c == caQUALIFIED || s.candState c == caDEGRADED) && decide (s.effQl c < 7)

/-- The rank key without SUSPECT (R460). -/
def State.candKey (s : State) (c : Nat) : Nat :=
  (if s.on R.REF_CFG_QL_EN 0 then s.effQl c else 0) * 16 + s.rd R.REF_CAND_CFG_PRIO c
/-- The rank key (R460); lower is better. -/
def State.candRank (s : State) (c : Nat) : Nat := s.candKey c * 2 + s.rd R.REF_CAND_STAT_SUSPECT c

/-- The candidate selection picks (R461, R463). -/
def State.pickCand (s : State) : Option Nat :=
  if s.on R.REF_CFG_FORCE_EN 0 then
    (if s.eligible (s.rd R.REF_CFG_FORCE_CAND 0) then some (s.rd R.REF_CFG_FORCE_CAND 0) else none)
  else
    let e := (upFrom 0 9).filter s.eligible
    let best := e.foldl (fun (a : Option Nat) c => match a with
      | none => some c
      | some b => if s.candRank c < s.candRank b then some c else some b) none
    match best, s.refSel with
    | some b, some c => if s.eligible c && s.candRank c == s.candRank b then some c else some b
    | b, _ => b

/-- The reference events (R489): bit 0 SELECT, 1 DPLL_STATE, 2 EPOCH_STEP; the source is the newly selected candidate or the one just deselected. -/
def State.refEvent (s : State) (cand bit arg : Nat) : State :=
  s.raise ⟨R.REF_EVT_FLAGS, 0x00050044, 0x0904⟩ 0 0 bit kCand cand .ok 0 0 arg

/-- A candidate as SELECT names it (R489). -/
def candCode : Option Nat → Nat
  | some c => c
  | none => 0xF

/-- Selection runs (R461, R462). -/
def State.selectRun (s : State) : State :=
  let old := s.refSel
  let new := s.pickCand
  if new = old then s
  else
    let s := (s.wr R.REF_STAT_SEL_VALID 0 (b2n new.isSome)).wr R.REF_STAT_SEL 0 (new.getD 0)
    let s := match old with | some c => s.wr R.REF_CAND_STAT_SELECTED c 0 | none => s
    let s := match new with | some c => s.wr R.REF_CAND_STAT_SELECTED c 1 | none => s
    s.refEvent (new.getD (old.getD 0)) 0 (candCode old * 16 + candCode new)

/-! ### The DPLL (R465 to R469) -/

/-- The states of the DPLL (REF.STAT.DPLL, R465). -/
def dpFREERUN : Nat := 0
def dpACQUIRE : Nat := 1
def dpLOCKED : Nat := 2
def dpHOLDOVER : Nat := 3
def dpMANUAL : Nat := 4

/-- The state of the DPLL. -/
def State.dpll (s : State) : Nat := s.rd R.REF_STAT_DPLL 0

/-- The steering s and the registers that report it (R467). -/
def State.setSteer (s : State) (v : Int) : State :=
  let s := { s with refX := { s.refX with steer := v } }
  (s.wr R.REF_DCO_LO_S 0 (twos 64 v)).wr R.REF_DCO_HI_S 0 (twos 64 v / 2 ^ 32)

/-- The holdover frequency (R469): the mean of the last WINDOW_S good seconds, to the nearest ppt. -/
def State.holdFreq (s : State) : Int :=
  let l := s.refX.good.take (s.rd R.REF_HO_CFG_WINDOW_S 0)
  if l = [] then 0 else roundDiv l.sum l.length

/-- The DPLL enters a state (R465, R489). -/
def State.dpllEnter (s : State) (st cand : Nat) : State :=
  let old := s.dpll
  if old = st then s else (s.wr R.REF_STAT_DPLL 0 st).refEvent cand 1 (old * 16 + st)

/-- The QL sent (R459). -/
def State.qlShow (s : State) : State :=
  s.wr R.REF_STAT_OUT_QL 0
    (if s.refSel = some 8 then 7
     else if s.dpll = dpACQUIRE ∨ s.dpll = dpLOCKED then (match s.refSel with | some c => s.effQl c | none => 6)
     else if s.dpll = dpHOLDOVER then s.rd R.REF_CFG_HO_QL 0 else 6)

/-- The epoch is aligned to candidate `c` (R473); the first time, it starts (R471), and the timelines that wait for it start (R477). -/
def State.align (s : State) (c : Nat) : State :=
  let starts := !s.epochRuns
  let s := if starts then s.epochStart else s
  let d := (s.candDelta c).getD 0
  let s := if 100 < d.natAbs then (s.epochStep (-d)).refEvent c 2 (twos 64 (-d)) else s
  let s := (upFrom 0 9).foldl State.candPhaseShow s
  if starts then s.tlnEpochRuns else s

/-- The DPLL acquires the selected candidate (R465). -/
def State.dpllAcquire (s : State) (c : Nat) : State :=
  let s := { s with refX := { s.refX with bw := s.rd R.REF_CFG_ACQ_BW 0, integ := s.refX.steer } }
  ((s.wr R.REF_STAT_CLAMP 0 0).dpllEnter dpACQUIRE c).align c

/-- The DPLL enters HOLDOVER (R465). -/
def State.holdover (s : State) (cand : Nat) : State :=
  ((if s.on R.REF_STAT_HO_VALID 0 then s.setSteer s.holdFreq else s).wr R.REF_STAT_CLAMP 0 0).dpllEnter dpHOLDOVER cand

/-- The state of the DPLL after selection or a change of mode (R465): `was` was selected, `held` says that DPLL_MODE has become HOLD. -/
def State.dpllNext (s : State) (was : Option Nat) (held : Bool) : State :=
  let sel := s.refSel
  let m := s.rd R.REF_CFG_DPLL_MODE 0
  let near := sel.getD (was.getD 0)
  if m = 1 then (if s.dpll = dpMANUAL then s else ((s.setSteer s.refX.man).wr R.REF_STAT_CLAMP 0 0).dpllEnter dpMANUAL near)
  else if s.dpll = dpMANUAL ∨ s.dpll = dpHOLDOVER then
    match sel with
    | some c => if m = 2 then (if s.dpll = dpMANUAL then s.holdover near else s) else s.dpllAcquire c
    | none => if s.dpll = dpMANUAL then s.holdover near else s
  else if s.dpll = dpFREERUN then
    match sel with
    | some c => s.dpllAcquire c
    | none => s
  else
    match sel with
    | none => s.holdover near
    | some c => if held then s.holdover near else if was = some c then s else s.dpllAcquire c

/-- Selection and what follows from it (R462, R465, R459). -/
def State.refRun (s : State) (held : Bool) : State :=
  let was := s.refSel
  let s := (upFrom 0 9).foldl (fun s c => if s.candPresent c then s.wr R.REF_CAND_STAT_EFF_QL c (s.effQl c) else s) s
  ((s.selectRun).dpllNext was held).qlShow

/-- Selection runs where the reference unit does (R462, R485). -/
def State.refRunIf (s : State) : State := if s.refActive then s.refRun false else s

/-! ### The commands -/

/-- A candidate's signal becomes valid or invalid (R454, R456). `mark` is the time since its last phase edge, or an absolute candidate's time. -/
def candSignalChange (c : Nat) (valid : Bool) (mark : Nat) (s : State) : State :=
  if !s.refActive || !s.candPresent c then s
  else
    let v := s.candCond c valid
    let s := s.setCand c fun x => { x with valid := v, mark := if v then some (mark, s.now) else none }
    let s := s.candPhaseShow c
    let st := s.candState c
    let s := if v ∧ st = caLOST then (s.candSet c caWAIT).candPhaseShow c
      else if !v ∧ caWAIT ≤ st then s.candSet c caLOST else s
    s.refRun false

/-- The soft, hard and disagreement limits in ppt (R455). -/
def State.softPpt (s : State) : Nat := s.rd R.REF_LIMITS_SOFT_PPB 0 * 1000
def State.hardPpt (s : State) : Nat := s.rd R.REF_LIMITS_HARD_PPB 0 * 1000
def State.disPpt (s : State) : Nat := s.rd R.REF_LIMITS2_DIS_PPB 0 * 1000

/-- A candidate leaves WAIT with its |f| (R456). -/
def State.candLeaveWait (s : State) (c f : Nat) : State :=
  s.candSet c (if f ≤ s.softPpt then caQUALIFIED else if f ≤ s.hardPpt then caDEGRADED else caDISQUALIFIED)

/-- Whether the conditions to leave WAIT hold apart from f (R456, R488, R579). -/
def State.candWaited (s : State) (c : Nat) : Bool :=
  if c = 7 then s.ptpX.calm.any (fun t => decide (t + 10000000000 ≤ s.now))
  else if c = 8 then s.on R.TWN_STAT_IDENT 0 && s.refX.rtt.isSome && decide (10 ≤ s.refX.qwGood)
  else s.rd R.REF_CAND_STAT_WTR_LEFT c == 0

/-- Count a measurement toward ten in a row; the tenth moves the candidate (R456). -/
def State.candCalm (s : State) (c : Nat) (ok : Bool) (dst : Nat) : State :=
  if !ok then s.setCand c fun x => { x with calm := 0 }
  else if 9 ≤ (s.cand c).calm then s.candSet c dst
  else s.setCand c fun x => { x with calm := x.calm + 1 }

/-- The checks on f at a measurement (R456). -/
def State.candMeasured (s : State) (c f : Nat) : State :=
  let st := s.candState c
  if st = caWAIT then
    if s.hardPpt < f then s.candSet c caDISQUALIFIED
    else if s.candWaited c then s.candLeaveWait c f
    else if 1 < s.rd R.REF_CAND_STAT_WTR_LEFT c then s.wr R.REF_CAND_STAT_WTR_LEFT c (s.rd R.REF_CAND_STAT_WTR_LEFT c - 1) else s
  else if st = caQUALIFIED then (if s.hardPpt < f then s.candSet c caDISQUALIFIED else if s.softPpt < f then s.candSet c caDEGRADED else s)
  else if st = caDEGRADED then (if s.hardPpt < f then s.candSet c caDISQUALIFIED else s.candCalm c (decide (2 * f ≤ s.softPpt)) caQUALIFIED)
  else if st = caDISQUALIFIED then s.candCalm c (decide (f ≤ s.softPpt)) caWAIT
  else s

/-- Set DISAGREE and SUSPECT of a candidate; a change raises CAND_FLAGS (R464). -/
def State.setFlags (s : State) (c dis sus : Nat) : State :=
  if s.rd R.REF_CAND_STAT_DISAGREE c = dis ∧ s.rd R.REF_CAND_STAT_SUSPECT c = sus then s
  else ((s.wr R.REF_CAND_STAT_DISAGREE c dis).wr R.REF_CAND_STAT_SUSPECT c sus).flagsEvent c

/-- Insert into a rising list. -/
def insertInt (x : Int) : List Int → List Int
  | [] => [x]
  | y :: l => if x ≤ y then x :: y :: l else y :: insertInt x l

/-- Twice the median of a list. -/
def median2 (l : List Int) : Int :=
  let m := l.foldr insertInt []
  m.getD ((m.length - 1) / 2) 0 + m.getD (m.length / 2) 0

/-- Twice the consensus for a disagreeing pair, if there is one (R464). -/
def State.consensus2 (s : State) (i j : Nat) : Option Int :=
  let others := (upFrom 0 9).filter (fun c => s.eligible c && c != i && c != j)
  if others ≠ [] then some (median2 (others.filterMap s.candF))
  else if s.on R.REF_STAT_HO_VALID 0 ∧ s.rd R.REF_GOOD_MARK_AGE 0 ≤ s.rd R.REF_HO_CFG_RECENT_S 0 then some (2 * s.holdFreq) else none

/-- The check of one pair of candidates (R464). -/
def State.pairCheck (s : State) (i j : Nat) : State :=
  match s.candF i, s.candF j with
  | some a, some b =>
    let d := (a - b).natAbs
    let key := 16 * i + j
    if s.eligible i && s.eligible j && s.candKey i == s.candKey j && decide (s.disPpt < d) then
      let s := { s with refX := { s.refX with pairs := tput s.refX.pairs key 0 } }
      match s.consensus2 i j with
      | none => (s.setFlags i 1 (s.rd R.REF_CAND_STAT_SUSPECT i)).setFlags j 1 (s.rd R.REF_CAND_STAT_SUSPECT j)
      | some m =>
        if (2 * b - m).natAbs < (2 * a - m).natAbs then (s.setFlags i 1 1).setFlags j 1 (s.rd R.REF_CAND_STAT_SUSPECT j)
        else (s.setFlags i 1 (s.rd R.REF_CAND_STAT_SUSPECT i)).setFlags j 1 1
    else match tfind s.refX.pairs key with
      | none => s
      | some n =>
        if s.disPpt < 2 * d then { s with refX := { s.refX with pairs := tput s.refX.pairs key 0 } }
        else if n < 9 then { s with refX := { s.refX with pairs := tput s.refX.pairs key (n + 1) } }
        else (({ s with refX := { s.refX with pairs := tdel s.refX.pairs key } } : State).setFlags i 0 0).setFlags j 0 0
  | _, _ => s

/-- Every pair of candidates. -/
def candPairs : List (Nat × Nat) := (upFrom 0 9).flatMap (fun i => (upFrom (i + 1) (8 - i)).map (fun j => (i, j)))

/-- A good second is stored, or the mark grows older (R468, R469). -/
def State.goodSecond (s : State) (good : Bool) (avg : Int) : State :=
  if good then
    let s := { s with refX := { s.refX with good := (avg :: s.refX.good).take 65535 } }
    let n := s.refX.good.length
    let s := ((s.wr R.REF_GOOD_GOOD_S 0 (min n 65535)).wr R.REF_GOOD_MARK_AGE 0 0).wr R.REF_STAT_HO_VALID 0 (b2n (decide (60 ≤ n)))
    (s.wr R.REF_HO_LO_S 0 (twos 64 s.holdFreq)).wr R.REF_HO_HI_S 0 (twos 64 s.holdFreq / 2 ^ 32)
  else s.wr R.REF_GOOD_MARK_AGE 0 (min 65535 (s.rd R.REF_GOOD_MARK_AGE 0 + 1))

/-- The bound of the pull-in clamp in ppt (R465). -/
def State.pullPpt (s : State) : Int := ((s.rd R.REF_LIMITS2_PULL_PPM 0 * 1000000 : Nat) : Int)

/-- What one second makes of the loop's two quantities: δ after it of δ and of the frequency error before it, and the frequency error after it of the
same, each times 10^9. -/
structure LoopGain where
  dd : Int
  df : Int
  fd : Int
  ff : Int
deriving DecidableEq, Repr

/-- A second-order loop of a bandwidth code over one second (R466): a proportional and an integral path, damping factor 0.7, the bandwidth that of 3 dB.
DESIGN CHOICE (assumption 53): the spec gives the bandwidths and the damping factor. -/
def loopGain (code : Nat) : LoopGain :=
  if code = 0 then ⟨957520066, 978684748, -920322, 999536510⟩
  else if code = 1 then ⟨615739220, 800384029, -75265385, 959356414⟩
  else if code = 2 then ⟨-161134218, 43465301, -408732867, 25469014⟩
  else if code = 3 then ⟨20361, -1990, 467890, -22361⟩
  else ⟨-1, 0, -2, 0⟩

/-- The steering for the second that begins (R465, R466, R473): the loop brings δ from `d` to what the second makes of it, by running so much faster or
slower than the selected candidate's `f`; clamped, and only while it steers. -/
def State.loopSteer (s : State) (d f : Int) : State :=
  if s.dpll = dpACQUIRE ∨ s.dpll = dpLOCKED then
    let g := loopGain s.refX.bw
    let u := s.refX.integ - f
    let d1 := roundDiv (g.dd * d * 1000 + g.df * u) 1000000000
    let u1 := roundDiv (g.fd * d * 1000 + g.ff * u) 1000000000
    let v := clampInt (-s.pullPpt) s.pullPpt (f + d1 - d * 1000)
    let s := { s with refX := { s.refX with integ := clampInt (-s.pullPpt) s.pullPpt (f + u1) } }.setSteer v
    if (v.natAbs : Int) < s.pullPpt then s.wr R.REF_STAT_CLAMP 0 0 else s
  else s

/-- The candidates whose signal is invalid go to LOST (R454, R456). -/
def State.candLosses (s : State) : State :=
  (upFrom 0 9).foldl (fun s c => if s.candPresent c ∧ caWAIT ≤ s.candState c ∧ !s.candValid c then (s.candSet c caLOST).candPhaseShow c else s) s

/-- The candidates in LOST whose signal is valid go to WAIT (R454, R456). -/
def State.candGains (s : State) : State :=
  (upFrom 0 9).foldl (fun s c => if s.candPresent c ∧ s.candState c = caLOST ∧ s.candValid c then (s.candSet c caWAIT).candPhaseShow c else s) s

/-- The loop takes the phase error and the frequency of the selected candidate (R465, R473). -/
def State.loopRun (s : State) : State :=
  match s.refSel with
  | some c => s.loopSteer ((s.candDelta c).getD 0) ((s.candF c).getD 0)
  | none => s

/-- The second's measurements (R455 to R469): `ms` lists candidate, f and phase mark, of every candidate whose signal is valid. -/
def freqMeasurement (ms : List (Nat × Int × Nat)) (s : State) : State :=
  if !s.refActive then s
  else
    let got := ms.filter (fun m => s.candPresent m.1 && s.candValid m.1)
    let avg := s.refX.steer
    let s := s.candLosses
    let s := got.foldl (fun s m =>
      ((s.wr R.REF_CAND_FREQ_PPT m.1 (sat32 m.2.1)).setCand m.1 fun x => { x with mark := some (m.2.2, s.now) }).candPhaseShow m.1) s
    let good := s.dpll = dpLOCKED && (match s.refSel with
      | some c => (match s.candF c with | some f => decide (2 * f.natAbs ≤ s.softPpt) | none => false)
      | none => false)
    let s := got.foldl (fun s m => s.candMeasured m.1 m.2.1.natAbs) s
    let s := s.goodSecond good (clampInt (-s.pullPpt) s.pullPpt avg)
    let s := candPairs.foldl (fun s p => s.pairCheck p.1 p.2) s
    let s := match s.refSel with
      | some c => s.wr R.REF_PHASE_ERR_NS 0 (sat32 ((s.candDelta c).getD 0))
      | none => s
    (s.loopRun.candGains).refRun false

/-- The WTR timer of a candidate elapses (R456): it leaves WAIT at its next measurement, at which the checks on f are made. -/
def wtrExpiry (c : Nat) (s : State) : State :=
  if s.refActive ∧ c < 7 ∧ s.candState c = caWAIT ∧ s.candValid c then s.wr R.REF_CAND_STAT_WTR_LEFT c 0 else s

/-- The lock condition has held for 1 s (R465). -/
def dpllLockQualify (s : State) : State :=
  match s.refSel with
  | some c =>
    if s.refActive ∧ s.dpll = dpACQUIRE then
      ({ s with refX := { s.refX with bw := s.rd R.REF_CAND_CFG_BW c } }.dpllEnter dpLOCKED c).qlShow
    else s
  | none => s

/-- The steering has been held at the bound for 1 s (R465, R456). -/
def pullInClamp (s : State) : State :=
  if s.refActive ∧ (s.dpll = dpACQUIRE ∨ s.dpll = dpLOCKED) then
    let s := s.wr R.REF_STAT_CLAMP 0 1
    match s.refSel with
    | some c => (if s.candState c = caQUALIFIED ∨ s.candState c = caDEGRADED then s.candSet c caDISQUALIFIED else s).refRun false
    | none => s
  else s

/-- The steering of an SDI lane's transmit synthesiser in ppt (R120, R482): the DCO's, and the slew of the timeline of the pipeline that drives it. -/
def State.laneSteer (s : State) (i : Nat) : Int :=
  let t := s.rd R.OUT_TMG_FMT_TLN (s.governor (s.driver i))
  let e := s.tlnErr t
  let p : Int := ((s.rd R.REF_TLN_SLEW_SLEW_PPM t * 1000000 : Nat) : Int)
  s.refX.steer - (if s.on R.REF_TLN_STAT_SLEWING t ∧ s.tlnBusy t then (if 0 < e then p else if e < 0 then -p else 0) else 0)

/-- The epoch starts free-running (R471, R477). -/
def State.freeRun (s : State) : State := (s.epochStart).tlnEpochRuns

/-- FR_START seconds after the first entry to IDLE have passed (R471). -/
def frStartExpiry (s : State) : State :=
  match s.refX.idleAt with
  | some t =>
    if s.refActive ∧ !s.epochRuns ∧ s.refSel = none ∧ s.rd R.REF_CFG_FR_START 0 ≠ 0 then
      ({ s with now := max s.now (t + s.rd R.REF_CFG_FR_START 0 * 1000000000) } : State).freeRun
    else s
  | none => s

/-- Whether the moment FR_START names has passed (R471). -/
def State.frPassed (s : State) : Bool :=
  match s.refX.idleAt with
  | some t => s.rd R.REF_CFG_FR_START 0 != 0 && decide (t + s.rd R.REF_CFG_FR_START 0 * 1000000000 ≤ s.now)
  | none => false

/-- Who writes the global fields of the reference unit (its register section). -/
def refWriter (p : Nat) : Bool := p == 1 || isCore p || p == pPF

/-- A write of REF.CFG (R462, R463, R465, R471). -/
def refCfgWrite (p data : Nat) (s : State) : State :=
  s.gate p 0x50000 true [(!refWriter p, .protected')] fun s =>
    let was := s.rd R.REF_CFG_DPLL_MODE 0
    let s := (((s.wr R.REF_CFG_QL_EN 0 (bitsOf data 31 1)).wr R.REF_CFG_FORCE_EN 0 (bitsOf data 30 1)).wr R.REF_CFG_FORCE_CAND 0 (bitsOf data 26 4)).wr
      R.REF_CFG_DPLL_MODE 0 (bitsOf data 24 2)
    let s := ((s.wr R.REF_CFG_FR_START 0 (bitsOf data 16 8)).wr R.REF_CFG_ACQ_BW 0 (bitsOf data 12 4)).wr R.REF_CFG_HO_QL 0 (bitsOf data 9 3)
    if !s.refActive then s
    else
      let s := s.refRun (was != 2 && bitsOf data 24 2 == 2)
      if !s.epochRuns ∧ s.refSel = none ∧ s.frPassed then s.freeRun else s

/-- A write of REF.MAN_HI takes both words (R467). -/
def manHiWrite (p data : Nat) (s : State) : State :=
  let v := sext 40 (data % 2 ^ 8 * 2 ^ 32 + s.rd R.REF_MAN_LO_S 0)
  s.gate p 0x50020 true [(!refWriter p, .protected'), (decide (200000000 < v.natAbs), .decode)] fun s =>
    let s := { s.wr R.REF_MAN_HI_S 0 data with refX := { s.refX with man := v } }
    if s.dpll = dpMANUAL then s.setSteer v else s

/-! ### CAND_CONFIG (R450 to R453) -/

/-- Whether a format code names black burst or tri-level sync (R452). -/
def isSyncFmt (f : Nat) : Bool :=
  f == 1 || f == 2 || (decide (0x10 ≤ f) && decide (f ≤ 0x12)) || (decide (0x20 ≤ f) && decide (f ≤ 0x22))
    || (decide (0x28 ≤ f) && decide (f ≤ 0x2A)) || (decide (0x30 ≤ f) && decide (f ≤ 0x37))

/-- The checks of CAND_CONFIG (R450, R452): the rows about a candidate where OBJECT names one. -/
def State.candChecks (s : State) (ss h : Nat) (inl : List Nat) : List (Bool × Status) :=
  let c := hIdx h
  let fl := leField inl 0 1
  let src := leField inl 6 1
  let k := hKind h == kCand && (!s.badHandle h || s.absentHandle h)
  [ (decide (2 ≤ fl / 2) || leField inl 7 1 != 0 || !allZero (inl.drop 12) || leField inl 1 1 == 0 || decide (15 < leField inl 1 1)
      || decide (7 < leField inl 2 1) || (k && candB c && (leField inl 2 1 != 0 || leField inl 4 2 != 0)) || decide (3600 < leField inl 4 2)
      || decide (4 < leField inl 3 1) || (k && bitAt fl 1 && c != 6) || decide (10000000 < (sext 32 (leField inl 8 4)).natAbs), .decode),
    (k && decide (9 ≤ c) && bitAt fl 0, .decode), (k && decide (c < 2) && !isSyncFmt src, .decode),
    (k && decide (2 ≤ c) && decide (c < 6) && decide (95 < src), .decode), (k && decide (6 ≤ c) && src != 0, .decode),
    (k && c == 8 && !s.twin, .unitAbsent), (k && decide (2 ≤ c) && decide (c < 6) && decide (src ≤ 95) && decide (s.lanes ≤ src), .unitAbsent),
    (s.badHandle h, .badHandle), (!s.badHandle h && hKind h != kCand, .wrongKind),
    (!s.badHandle h && hKind h == kCand && !s.owns ss h, .protected') ]

/-- The registers of an accepted configuration (R451). -/
def State.candStore (s : State) (c : Nat) (inl : List Nat) : State :=
  let s := (s.wr R.REF_CAND_CFG_ENABLE c (leField inl 0 1)).wr R.REF_CAND_CFG_PPS_REQ c (leField inl 0 1 / 2)
  let s := ((s.wr R.REF_CAND_CFG_PRIO c (leField inl 1 1)).wr R.REF_CAND_CFG_QL c (leField inl 2 1)).wr R.REF_CAND_CFG_BW c (leField inl 3 1)
  ((s.wr R.REF_CAND_CFG_WTR_S c (leField inl 4 2)).wr R.REF_CAND_CFG_SRC c (leField inl 6 1)).wr R.REF_CAND_OFS_PHASE_OFS c (leField inl 8 4)

/-- What a change of ENABLE, SRC or PPS_REQ does (R453). -/
def State.candRestart (s : State) (c : Nat) (moved : Bool) : State :=
  let s := if moved then s.setCand c fun _ => ⟨false, none, 0⟩ else s
  if !s.on R.REF_CAND_CFG_ENABLE c then s.candSet c caDISABLED
  else
    let s := s.candSet c caLOST
    if s.candValid c then s.candSet c caWAIT else s

/-- CAND_CONFIG takes effect at once (R453): a new BW of the candidate that the DPLL is LOCKED to, too. -/
def State.candConfigBody (s : State) (c : Nat) (inl : List Nat) : AdmAns :=
  if 9 ≤ c then ⟨s, .ok, 0, 0⟩
  else
    let ena := s.rd R.REF_CAND_CFG_ENABLE c
    let src := s.rd R.REF_CAND_CFG_SRC c
    let pps := s.rd R.REF_CAND_CFG_PPS_REQ c
    let s := s.candStore c inl
    let moved := s.rd R.REF_CAND_CFG_SRC c != src || s.rd R.REF_CAND_CFG_PPS_REQ c != pps
    let s := if moved || s.rd R.REF_CAND_CFG_ENABLE c != ena then s.candRestart c moved else s
    let s := if s.dpll = dpLOCKED ∧ s.refSel = some c then { s with refX := { s.refX with bw := s.rd R.REF_CAND_CFG_BW c } } else s
    ⟨(s.candPhaseShow c).refRun false, .ok, 0, 0⟩

/-- CAND_CONFIG, opcode 0x0070. -/
def candConfig (f : Nat) (payload : List Nat) (s : State) : State :=
  s.admin f 0x70 payload [] (fun t => s.admChecks f t 0 0 payload true false ++ s.candChecks t.ss t.object t.inl)
    (fun t => s.candConfigBody (hIdx t.object) t.inl)

/-- CAND_CONFIG. -/
def execCandConfig (f : Nat) (payload : List Nat) (s : State) : Res := .next (candConfig f payload s)
/-- CAND_SIGNAL_CHANGE. -/
def execCandSignalChange (c : Nat) (valid : Bool) (mark : Nat) (s : State) : Res := .next (candSignalChange c valid mark s)
/-- FREQ_MEASUREMENT. -/
def execFreqMeasurement (ms : List (Nat × Int × Nat)) (s : State) : Res := .next (freqMeasurement ms s)
/-- WTR_EXPIRY. -/
def execWtrExpiry (c : Nat) (s : State) : Res := .next (wtrExpiry c s)
/-- DPLL_LOCK_QUALIFY. -/
def execDpllLockQualify (s : State) : Res := .next (dpllLockQualify s)
/-- PULL_IN_CLAMP. -/
def execPullInClamp (s : State) : Res := .next (pullInClamp s)
/-- REF_CFG_WRITE. -/
def execRefCfgWrite (p data : Nat) (s : State) : Res := .next (s.regRec 0x50000 data (refCfgWrite p data s))
/-- MAN_HI_WRITE. -/
def execManHiWrite (p data : Nat) (s : State) : Res := .next (s.regRec 0x50020 data (manHiWrite p data s))
/-- FR_START_EXPIRY. -/
def execFrStartExpiry (s : State) : Res := .next (frStartExpiry s)

end Sys2Proof.Machine
end

