-- ==== Sys2Proof/Machine/Ptp.lean ====
section
/-! DEFINITION. PTP on the timing lane (R487, R488): the messages it accepts, the choice of a master, the offset, Delay_Req, timeouts, the
network services, and the write of REF.PTP_CFG. What IEEE 1588 defines (the dataset comparison, the offset) is assumption 40. -/

namespace Sys2Proof.Machine

open Sys2Proof

/-- Port states (REF.PTP_STAT.PORT). -/
def ptDISABLED : Nat := 0
def ptLISTENING : Nat := 1
def ptUNCALIBRATED : Nat := 2
def ptSLAVE : Nat := 3

/-- Whether the PTP port runs (R488). -/
def State.ptpOn (s : State) : Bool := s.on R.REF_PTP_CFG_ENABLE 0 && s.refActive

/-- Whether what comes on the timing lane's pins is received: the receiver is locked to them (R126, R143). -/
def State.timingRx (s : State) : Bool := s.rd R.LNE_STATUS_RX_STATE 104 == rxLOCKED && !s.looped 104

/-- Whether a frame with a VLAN tag, or without one, is the port's (R487). DESIGN CHOICE (assumption 40): with VLAN_EN only the tag VLAN_ID, without it
untagged frames only. -/
def State.vlanOk (s : State) (tag : Option Nat) : Bool :=
  tag == (if s.on R.REF_PTP_CFG_VLAN_EN 0 then some (s.rd R.REF_PTP_CFG_VLAN_ID 0 % 4096) else none)

/-- Whether the port takes a frame from the timing lane. -/
def State.ptpHears (s : State) (tag : Option Nat) : Bool := s.ptpOn && s.timingRx && s.vlanOk tag

/-- The port sends a frame: only where the lane's transmitter carries it (R126, R143); its words, with the VLAN ID of its tag after them (R487). -/
def State.ptpSend (s : State) (kind : Nat) (ws : List Nat) : State :=
  if s.txState 104 ≠ 1 then s
  else s.send (.ptp kind (ws ++ if s.on R.REF_PTP_CFG_VLAN_EN 0 then [s.rd R.REF_PTP_CFG_VLAN_ID 0 % 4096] else []))

/-- The identity of the port: its MAC address as an EUI-64, and port number 1 (assumption 40). -/
def State.ptpId (s : State) : Nat :=
  let hi := s.rd R.REF_PTP_MAC_HI_MAC 0
  let lo := s.rd R.REF_PTP_MAC_LO_MAC 0
  ((hi * 256 + lo / 2 ^ 24) * 2 ^ 40 + 0xFFFE * 2 ^ 24 + lo % 2 ^ 24) * 65536 + 1

/-- Change the PTP port besides its registers. -/
def State.setPtp (s : State) (f : PtpX → PtpX) : State := { s with ptpX := f s.ptpX }

/-- The port changes state; REFC7's signal follows it (R454). -/
def State.ptpPort (s : State) (st : Nat) : State :=
  let was := s.rd R.REF_PTP_STAT_PORT 0
  if was = st then s
  else
    let s := (s.wr R.REF_PTP_STAT_PORT 0 st).setPtp fun x => { x with calm := none }
    if was = ptSLAVE ∨ st = ptSLAVE then
      candSignalChange 7 false (((s.epoch : Int) - sext 32 (s.rd R.REF_PTP_OFS_NS 0)).toNat) s
    else s

/-- Lexicographic comparison of two datasets: whether the first is better. -/
def dataBetter : List Nat → List Nat → Bool
  | x :: l, y :: m => if x = y then dataBetter l m else decide (x < y)
  | _, _ => false

/-- The comparison of two foreign masters (R487, assumption 40): of one grandmaster, the one with fewer steps. -/
def ptpBetter (a b : PtpMaster) : Bool :=
  if a.data.getD 5 0 = b.data.getD 5 0 then decide (a.steps < b.steps) || (a.steps == b.steps && decide (a.src < b.src))
  else dataBetter a.data b.data

/-- The best of the foreign masters. -/
def bestMaster (l : List PtpMaster) : Option PtpMaster :=
  l.foldl (fun (a : Option PtpMaster) m => match a with
    | none => some m
    | some b => if ptpBetter m b then some m else some b) none

/-- A message the port discards (R487): wrong version, length, domain or interval. -/
def State.ptpBad (s : State) (m : PtpMsg) : Bool :=
  !m.ok || m.domain != s.rd R.REF_PTP_CFG_DOMAIN 0
    || (m.kind == 0 && (decide (m.interval < -7) || decide (0 < m.interval)))
    || (m.kind == 2 && (decide (m.interval < -3) || decide (1 < m.interval)))

/-- The registers that show the chosen master (R487). -/
def State.ptpShowMaster (s : State) (m : PtpMaster) : State :=
  let s := (s.wr R.REF_PTP_STAT_GM_CLASS 0 (m.data.getD 1 255)).wr R.REF_PTP_STAT_STEPS 0 m.steps
  (s.wr R.REF_PTP_GM_LO_ID 0 (m.data.getD 5 0)).wr R.REF_PTP_GM_HI_ID 0 (m.data.getD 5 0 / 2 ^ 32)

/-- An Announce is accepted: its clockClass gives REFC7's message QL (R457); over up to 8 foreign masters the best is chosen (R487, R488). -/
def State.ptpAnnounce (s : State) (m : PtpMsg) : State :=
  let s := s.inc R.REF_PTP_CNT_ANN_COUNT 0
  let rest := s.ptpX.masters.filter (fun x => x.src != m.src)
  let l := if rest.length < 8 then rest ++ [⟨m.src, m.data, m.steps⟩] else rest
  let s := s.setPtp fun x => { x with masters := l }
  let s := match bestMaster l with
    | none => s
    | some b =>
      let s := if s.ptpX.chosen = some b.src then s
        else (s.setPtp fun x => { x with chosen := some b.src, half := none, pair := none, reqT3 := none }).ptpPort ptUNCALIBRATED
      s.ptpShowMaster b
  (s.setMsgQl 7 (qlOfClass (m.data.getD 1 255))).refRun false

/-- A Sync pair has been timed (R487, R488): offsetFromMaster = t2 − t1 − meanPathDelay − ASYM; one beyond 1 µs begins the 10 s of R488 again. -/
def State.ptpTimed (s : State) (t1 t2 : Nat) : State :=
  let ofs : Int := (t2 : Int) - t1 - (s.rd R.REF_PTP_MPD_NS 0 : Nat) - sext 32 (s.rd R.REF_PTP_ASYM_NS 0)
  let s := (s.wr R.REF_PTP_OFS_NS 0 (twos 32 (clampInt (-(2 ^ 31)) (2 ^ 31 - 1) ofs))).setPtp fun x => { x with half := none, pair := some (t1, t2) }
  let s := if s.rd R.REF_PTP_STAT_PORT 0 = ptUNCALIBRATED then s.ptpPort ptSLAVE else s
  let s := s.setPtp fun x => { x with calm := if 1000 < ofs.natAbs then none else some (x.calm.getD s.now) }
  (s.setCand 7 fun x => { x with mark := some (((s.epoch : Int) - ofs).toNat, s.now) }).candPhaseShow 7

/-- A Delay_Resp for the port's Delay_Req, by its sequence number and the port it answers (R487): meanPathDelay is half of (t2 − t1) + (t4 − t3). -/
def State.ptpDelay (s : State) (m : PtpMsg) : State :=
  match s.ptpX.reqT3, s.ptpX.pair with
  | some (q, t3), some (t1, t2) =>
    if m.seq ≠ q ∨ m.req ≠ s.ptpId then s
    else
    let d : Int := ((t2 : Int) - t1 + ((m.stamp : Int) - t3)) / 2
    (((s.inc R.REF_PTP_CNT_DRESP_COUNT 0).wr R.REF_PTP_MPD_NS 0 (clampInt 0 (2 ^ 32 - 1) d).toNat).setPtp
      fun x => { x with reqT3 := none, reqLog := m.interval })
  | _, _ => s

/-- Under the far-end loopback what comes on the timing lane leaves it again (R143): `Out.ptp` kind 4. -/
def State.ptpLoop (s : State) (m : PtpMsg) : State :=
  if s.txState 104 = 2 then s.send (.ptp 4 [m.kind, m.domain, m.src, m.seq, m.stamp]) else s

/-- A PTP message arrives (R487, R488). -/
def ptpMessageReceived (m : PtpMsg) (s : State) : State :=
  let s := s.ptpLoop m
  if !s.ptpHears m.vlan then s
  else if s.ptpBad m then s.inc R.REF_PTP_CNT_BAD_COUNT 0
  else
    let s := match m.tlv with
      | some l => s.wrWords R.REF_PTP_SMTLV_WORD 0 0 (l.take 16)
      | none => s
    if m.kind = 2 then s.ptpAnnounce m
    else if s.ptpX.chosen ≠ some m.src then s
    else if m.kind = 0 then
      let s := s.inc R.REF_PTP_CNT_SYNC_COUNT 0
      if m.twoStep then s.setPtp fun x => { x with half := some (m.seq, m.rx) } else s.ptpTimed m.stamp m.rx
    else if m.kind = 1 then (match s.ptpX.half with | some (q, t2) => if q = m.seq then s.ptpTimed m.stamp t2 else s | none => s)
    else if m.kind = 3 then s.ptpDelay m
    else s

/-- The port sends a Delay_Req at time t3 (R487): `Out.ptp` kind 1, whether unicast, its time and sequence number. -/
def ptpDelayReqSend (t3 : Nat) (s : State) : State :=
  if s.ptpOn ∧ s.txState 104 = 1 ∧ s.ptpX.pair.isSome ∧ ptUNCALIBRATED ≤ s.rd R.REF_PTP_STAT_PORT 0 then
    let q := s.ptpX.reqSeq
    (s.setPtp fun x => { x with reqT3 := some (q, t3), reqSeq := (q + 1) % 65536 }).ptpSend 1 [s.rd R.REF_PTP_CFG_UNICAST_DREQ 0, t3, q]
  else s

/-- No Announce for ANN_TO intervals, or no Sync for 1 s (R488). -/
def ptpTimeout (s : State) : State :=
  if ptUNCALIBRATED ≤ s.rd R.REF_PTP_STAT_PORT 0 then
    (s.setPtp fun x => { x with masters := x.masters.filter (fun m => some m.src != x.chosen), chosen := none, half := none, pair := none,
                                reqT3 := none }).ptpPort ptLISTENING
  else s

/-- An ARP request (kind 0) or an IGMPv2 or IGMPv3 query (1, 2) for the port's address (R487): `Out.ptp` kind 2 an ARP reply, 3 an IGMPv2 and 5 an
IGMPv3 membership report for 224.0.1.129. -/
def arpOrIgmpReceived (kind addr : Nat) (vlan : Option Nat) (s : State) : State :=
  if s.ptpHears vlan ∧ addr = s.rd R.REF_PTP_IP_ADDR 0 ∧ kind ≤ 2 then
    if kind = 0 then s.ptpSend 2 [s.rd R.REF_PTP_IP_ADDR 0, s.rd R.REF_PTP_MAC_HI_MAC 0, s.rd R.REF_PTP_MAC_LO_MAC 0]
    else s.ptpSend (2 * kind + 1) [s.rd R.REF_PTP_IP_ADDR 0, 0xE0000181]
  else s

/-- A write of REF.PTP_CFG (R488 and its register table): the RWS fields while ENABLE is 0; ENABLE starts and stops the port. -/
def ptpCfgWrite (p data : Nat) (s : State) : State :=
  let same := s.rd R.REF_PTP_CFG_UNICAST_DREQ 0 == bitsOf data 30 1 && s.rd R.REF_PTP_CFG_VLAN_EN 0 == bitsOf data 29 1
    && s.rd R.REF_PTP_CFG_VLAN_ID 0 == bitsOf data 16 12 && s.rd R.REF_PTP_CFG_DOMAIN 0 == bitsOf data 8 8
    && s.rd R.REF_PTP_CFG_ANN_TO 0 == bitsOf data 0 8
  s.gate p 0x50800 true
    [ (!refWriter p, .protected'), (decide (127 < bitsOf data 8 8) || decide (bitsOf data 0 8 < 2) || decide (10 < bitsOf data 0 8), .decode),
      (s.on R.REF_PTP_CFG_ENABLE 0 && !same, .unitRunning) ]
    fun s =>
      let s := ((s.wr R.REF_PTP_CFG_UNICAST_DREQ 0 (bitsOf data 30 1)).wr R.REF_PTP_CFG_VLAN_EN 0 (bitsOf data 29 1)).wr
        R.REF_PTP_CFG_VLAN_ID 0 (bitsOf data 16 12)
      let s := (s.wr R.REF_PTP_CFG_DOMAIN 0 (bitsOf data 8 8)).wr R.REF_PTP_CFG_ANN_TO 0 (bitsOf data 0 8)
      let was := s.on R.REF_PTP_CFG_ENABLE 0
      let s := s.wr R.REF_PTP_CFG_ENABLE 0 (bitsOf data 31 1)
      let s := if bitAt data 31 then
          (((s.wr R.REF_PTP_CNT_SYNC_COUNT 0 0).wr R.REF_PTP_CNT_ANN_COUNT 0 0).wr R.REF_PTP_CNT_DRESP_COUNT 0 0).wr R.REF_PTP_CNT_BAD_COUNT 0 0
        else s
      if was = bitAt data 31 then s
      else
        (s.setPtp fun _ => ⟨[], none, none, none, none, 0, none, 0⟩).ptpPort (if bitAt data 31 then ptLISTENING else ptDISABLED)

/-- PTP_MESSAGE_RECEIVED. -/
def execPtpMessageReceived (m : PtpMsg) (s : State) : Res := .next (ptpMessageReceived m s)
/-- PTP_DELAY_REQ_SEND. -/
def execPtpDelayReqSend (t3 : Nat) (s : State) : Res := .next (ptpDelayReqSend t3 s)
/-- PTP_TIMEOUT. -/
def execPtpTimeout (s : State) : Res := .next (ptpTimeout s)
/-- ARP_OR_IGMP_RECEIVED. -/
def execArpOrIgmpReceived (kind addr : Nat) (vlan : Option Nat) (s : State) : Res := .next (arpOrIgmpReceived kind addr vlan s)

end Sys2Proof.Machine
end

