-- ==== Sys2Proof/Machine/Mailboxes.lean ====
section
/-! DEFINITION. Mailboxes (R514 to R531), the messages firmware serves on MB0 (R529, R530) and lock registers (R532 to R534). -/

namespace Sys2Proof.Machine

open Sys2Proof

/-! ### Parties -/

/-- The transmit set of a principal: 0 the management port, 1 and 2 the pairs, 3 the physical function, 4 the twin peer, 5 debug. -/
def senderOf (p : Nat) : Nat :=
  if p = 1 then 0 else if p = 2 ∨ p = 3 then 1 else if p = 4 ∨ p = 5 then 2 else if p = 0x10 then 3 else if p = 0x20 then 4 else 5

/-- The set of the receiver of a mailbox (R514). -/
def receiverOf (m : Nat) : Nat := if m < 4 then 1 else if m < 8 then 2 else if m < 12 then 3 else 4
/-- The receiver principal of a mailbox, as MB_CFG.RECV shows it (R514). -/
def mbRecv (m : Nat) : Nat := if m < 4 then 2 else if m < 8 then 4 else if m < 12 then 0x10 else 0x20
/-- The receiver domain of a mailbox (R514, R617). -/
def mbDomain (m : Nat) : Nat := if m < 4 then 0x10 else if m < 8 then 0x11 else if m < 12 then 5 else 6
/-- Whether a principal receives a mailbox; each core of a pair does (R514). -/
def receives (p m : Nat) : Bool := senderOf p == receiverOf m && isPrincipal p && p != pDebug

/-- The epoch of a sender (R526). -/
def State.senderEpoch (s : State) (u : Nat) : Nat :=
  if u = 1 then s.rd R.MBX_EPOCH_A_PAIR0 0 else if u = 2 then s.rd R.MBX_EPOCH_A_PAIR1 0 else if u = 3 then s.rd R.MBX_EPOCH_A_PF 0
  else if u = 4 then s.rd R.MBX_EPOCH_B_TWIN 0 else if u = 5 then s.rd R.MBX_EPOCH_B_DEBUG 0 else 0

/-- The notices of a mailbox. -/
def State.mb (s : State) (m : Nat) : List Notice := tget [] s.mbq m

/-- MB_STAT.COUNT and the MB_RX words follow the queue (R521). -/
def State.mbShow (s : State) (m : Nat) : State :=
  let q := s.mb m
  let s := s.wr R.MBX_MB_STAT_COUNT m q.length
  let n := q.headD ⟨0, 0, 0, 0, 0⟩
  let s := (s.wr R.MBX_MB_RX0_PTR_LO m n.ptr).wr R.MBX_MB_RX1_PTR_HI m (n.ptr / 2 ^ 32)
  (s.wr R.MBX_MB_RX2_TAG m n.tag).wr R.MBX_MB_RX3_HDR m (n.prin * 2 ^ 24 + n.epoch * 2 ^ 16 + n.len)

/-- The queue of a mailbox changes. -/
def State.mbSet (s : State) (m : Nat) (q : List Notice) : State := { s with mbq := tset [] s.mbq m q }.mbShow m

/-- The mailbox signals the host: its MSI-X message is sent and ARM clears (R522). -/
def State.mbSignal (s : State) (m : Nat) : State :=
  if 8 ≤ m ∧ m < 12 ∧ s.on R.MBX_MB_CFG_ARM m then
    (s.send (.msix 0 (s.rd R.MBX_MB_CFG_VECTOR m))).wr R.MBX_MB_CFG_ARM m 0
  else s

/-! ### Posting (R516 to R520) -/

/-- The status of a post of sender set `u` to mailbox `m` (R517). -/
def State.mbPostChecks (s : State) (u m : Nat) : List (Bool × Status) :=
  let d := (s.domain (mbDomain m)).st
  [ (decide (15 < m), .decode), (decide (12 ≤ m) && !s.twin, .unitAbsent), (d == 2, .domainOff), (d == 3, .notReady),
    (u == receiverOf m, .protected'), (decide (32 ≤ (s.mb m).length), .busy) ]

/-- A notice enters a mailbox (R518, R520, R522), or finds it full (R517). -/
def State.mbQueue (s : State) (m : Nat) (st : Status) (n : Notice) : State :=
  if st = .ok then
    let s := (s.wake (mbDomain m)).mbSet m (s.mb m ++ [n])
    ((s.inc R.MBX_MB_CNT_POST_COUNT m).flag R.MBX_MB_EVT_FLAGS 0x0003002C m 0 0).mbSignal m
  else if st = .busy then (s.inc R.MBX_MB_CNT_BUSY_COUNT m).flag R.MBX_MB_EVT_FLAGS 0x0003002C m 0 1
  else s

/-- A write of MBX.TX_POST (R516, R517). -/
def txPost (p data : Nat) (s : State) : State :=
  s.gateM p 0x31010 [] fun s =>
    let u := senderOf p
    let m := data % 2 ^ 32
    let st := check (s.mbPostChecks u m)
    let n : Notice := ⟨p, s.senderEpoch u, s.rd R.MBX_TX_LEN_LEN_HINT u, s.rd R.MBX_TX_TAG_TAG u,
      s.rd R.MBX_TX_PTR_LO_PTR u + 2 ^ 32 * s.rd R.MBX_TX_PTR_HI_PTR u⟩
    let s := s.mbQueue m st n
    (((s.wr R.MBX_TX_RESULT_STATUS u st.code).wr R.MBX_TX_RESULT_SEQ u (s.rd R.MBX_TX_RESULT_SEQ u + 1)), st)

/-! ### Receiving and completions (R521 to R524) -/

/-- The sessions of the physical function with the DROPPED event bound (R524). -/
def State.dropBinds (s : State) : List Nat :=
  (s.binds.filter (fun e => e.1 % 2 ^ 16 == 0x0B01 && e.1 / 2 ^ 36 == kSession)).map (fun e => e.1 / 2 ^ 16 % 2 ^ 20)

/-- The completion of a removed notice (R523, R524): counted for its sender; a notice of the twin peer's goes back over the link (`Out.twin`
kind 9: delivered, tag, mailbox). The OCC of a DROPPED entry is the model's choice (assumption 157). -/
def State.mbComplete (s : State) (m : Nat) (n : Notice) (delivered : Bool) : State :=
  let u := senderOf n.prin
  if n.prin = pTwin then s.send (.twin 9 [b2n delivered, n.tag, m])
  else if delivered then s.inc R.MBX_TX_DELIV_COUNT u
  else
    let s := ((s.inc R.MBX_TX_DROP_COUNT u).wr R.MBX_TX_DROP_TAG_TAG u n.tag).wr R.MBX_TX_DROP_MB_MB u m
    let s := s.flag R.MBX_TX_EVT_FLAGS 0x0003102C u 0 0
    if u = 3 then
      s.dropBinds.foldl (fun s i => s.post kSession i 0x0B01 .ok 0 0 (s.rdk (occFld 0x0003102C 0) u 0) (m * 2 ^ 32 + n.tag)) s
    else s

/-- The `k` oldest notices are popped (R521). -/
def State.mbPopN (s : State) (m k : Nat) : State :=
  let out := (s.mb m).take k
  out.foldl (fun s n => s.mbComplete m n true) (s.mbSet m ((s.mb m).drop k))

/-- Every notice of a mailbox is flushed (R525). -/
def State.mbFlush (s : State) (m : Nat) : State :=
  let out := s.mb m
  out.foldl (fun s n => (s.inc R.MBX_MB_CNT_DROP_COUNT m).mbComplete m n false) (s.mbSet m [])

/-- ARM is set by a write (R522): a mailbox that holds notices signals at once. -/
def State.mbArm (s : State) (m : Nat) : State :=
  if 8 ≤ m ∧ m < 12 then
    let s := s.wr R.MBX_MB_CFG_ARM m 1
    if s.mb m ≠ [] then s.mbSignal m else s
  else s

/-- The address of a mailbox register. -/
def mbAddr (m r : Nat) : Nat := 0x30000 + 0x100 * m + r

/-- A write of MBX.MB_POP (R521, R522). -/
def mbPop (p m data : Nat) (s : State) : State :=
  let k := bitsOf data 0 6
  s.gate p (mbAddr m 0x20) true
    [(decide (16 ≤ m), .decode), (!receives p m, .protected'), (decide ((s.mb m).length < k), .lenExceeds)]
    fun s =>
      let s := s.mbPopN m k
      if bitAt data 31 then s.mbArm m else s

/-- A write of MBX.MB_CFG (R521, R522): VECTOR and ARM of MB8 to MB11. -/
def mbCfgWrite (p m data : Nat) (s : State) : State :=
  s.gate p (mbAddr m 0) true [(decide (16 ≤ m), .decode), (!receives p m, .protected')] fun s =>
    if 8 ≤ m ∧ m < 12 then
      let s := s.wr R.MBX_MB_CFG_VECTOR m (bitsOf data 16 7)
      if bitAt data 31 then s.mbArm m else s.wr R.MBX_MB_CFG_ARM m 0
    else s

/-! ### Locks (R532 to R534) -/

/-- A lock is freed by force or by a reset (R532, R533). -/
def State.lockFree (s : State) (k : Nat) : State :=
  if s.rd R.MBX_LK_OWNER k = 0 then s else (s.wr R.MBX_LK_OWNER k 0).inc R.MBX_LK_STAT_FREED k

/-- The address of a lock register. -/
def lockAddr (k : Nat) : Nat := 0x32000 + 0x10 * k

/-- A read of MBX.LK (R532). -/
def lockRead (p k : Nat) (s : State) : State :=
  s.gate p (lockAddr k) false [(decide (16 ≤ k), .decode)] fun s =>
    let o := s.rd R.MBX_LK_OWNER k
    if o = 0 then ((s.wr R.MBX_LK_OWNER k p).inc R.MBX_LK_STAT_WINS k).respond 0 else s.respond o

/-- A write of MBX.LK (R532). -/
def lockWrite (p k data : Nat) (s : State) : State :=
  s.gate p (lockAddr k) true
    [ (decide (16 ≤ k), .decode), (bitsOf data 0 8 != 0, .decode),
      (if bitAt data 31 then !isCore p else s.rd R.MBX_LK_OWNER k != p, .protected') ]
    fun s => if bitAt data 31 then s.lockFree k else s.wr R.MBX_LK_OWNER k 0

/-! ### Resets of a sender or receiver (R525 to R527, R533) -/

/-- A sender's domain resets: its epoch increments, its holding words and TX_RESULT clear, its locks are freed (R526, R527, R533). -/
def State.senderReset (s : State) (u : Nat) : State :=
  let s := if u = 1 then s.wr R.MBX_EPOCH_A_PAIR0 0 (s.senderEpoch 1 + 1) else if u = 2 then s.wr R.MBX_EPOCH_A_PAIR1 0 (s.senderEpoch 2 + 1)
    else if u = 3 then s.wr R.MBX_EPOCH_A_PF 0 (s.senderEpoch 3 + 1) else if u = 4 then s.wr R.MBX_EPOCH_B_TWIN 0 (s.senderEpoch 4 + 1)
    else if u = 5 then s.wr R.MBX_EPOCH_B_DEBUG 0 (s.senderEpoch 5 + 1) else s
  let s := (((s.wr R.MBX_TX_PTR_LO_PTR u 0).wr R.MBX_TX_PTR_HI_PTR u 0).wr R.MBX_TX_TAG_TAG u 0).wr R.MBX_TX_LEN_LEN_HINT u 0
  let s := (s.wr R.MBX_TX_RESULT_STATUS u 0).wr R.MBX_TX_RESULT_SEQ u 0
  (upFrom 0 16).foldl (fun s k => if s.rd R.MBX_LK_OWNER k ≠ 0 ∧ senderOf (s.rd R.MBX_LK_OWNER k) = u then s.lockFree k else s) s

/-- The mailboxes of a receiver domain are flushed (R525). -/
def State.flushDomain (s : State) (d : Nat) : State :=
  ((upFrom 0 16).filter (fun m => mbDomain m == d)).foldl State.mbFlush s

/-! ### Messages (R528 to R530) -/

/-- The HBM block of a message lies in a surface of the physical function's sessions (R530). -/
def State.inSurface (s : State) (a n : Nat) : Bool :=
  s.allocs.any fun x => x.key / 2 ^ 20 == kSurface && s.prinOf (s.obj kSurface (x.key % 2 ^ 20)).owner == pPF
    && decide (x.base ≤ a) && decide (a + n ≤ x.base + x.len)

/-- The block a pointer names (R529): its bytes as firmware reads them; none where it cannot. `host` is what host memory holds there. -/
def State.msgBlock (s : State) (ptr : Nat) (host : Option (List Nat)) : Option (List Nat) :=
  if ptr / 2 ^ 63 = 1 then host.map (·.take 4096)
  else if s.hbmBytes < ptr + 32 then none
  else some (memReadBytes s.hbm ptr (32 + min 4064 (leVal (memReadBytes s.hbm (ptr + 4) 4))))

/-- Write bytes of a message block (R529, R581). -/
def State.msgWrite (s : State) (ptr ofs : Nat) (bs : List Nat) : State :=
  if ptr / 2 ^ 63 = 1 then s.send (.hostWrite 0 (ptr % 2 ^ 63 + ofs) bs) else (s.hbmPut none 2 0x10 (ptr + ofs) bs).fwdWrite (ptr + ofs) bs

/-- Firmware's reply notice to MB8 (R530): a full mailbox is retried. -/
def State.replyPost (s : State) (n : Notice) : State :=
  let n : Notice := { n with prin := 2, epoch := s.senderEpoch 1 }
  let st := check (s.mbPostChecks 1 8)
  let s := s.mbQueue 8 st n
  if st = .busy then { s with fwReplies := s.fwReplies ++ [(n, 0)] } else s

/-- Firmware answers the message it serves: STATUS and the reply payload, then the notice (R530). A block firmware may not write gets the notice
with TAG bit 31 set and nothing else. -/
def State.msgAnswer (s : State) (n : Notice) (block : Option (List Nat)) (st : Status) (reply : List Nat) : State :=
  let s : State := { s with fwMsg := none }
  let len := block.map (fun b => leField b 4 4)
  if block.isNone ∨ (n.ptr / 2 ^ 63 = 0 ∧ !s.inSurface n.ptr (32 + min 4064 (len.getD 0))) then s.replyPost { n with tag := n.tag ||| 0x80000000 }
  else
    let s := s.msgWrite n.ptr 2 (leBytes 2 st.code)
    let s := if st = .ok ∧ reply ≠ [] then s.msgWrite n.ptr 32 reply else s
    s.replyPost n

/-- The checks of a message block (R530) and the room its reply needs. -/
def State.msgChecks (s : State) (n : Notice) (b : List Nat) (need : Nat) : List (Bool × Status) :=
  let op := leField b 0 2
  let len := leField b 4 4
  [ (op == 0 || decide (3 < op) || !allZero ((b.drop 16).take 16), .decode), (decide (4064 < len) || decide (len < need), .lenExceeds),
    (n.ptr / 2 ^ 63 == 0 && !s.inSurface n.ptr (32 + min 4064 len), .protected') ]

/-- Firmware serves the message it holds with opcode `op` (R529, R530): `reply` is the reply payload for ARG. -/
def State.msgServe (s : State) (op : Nat) (host : Option (List Nat)) (reply : Nat → List Nat) : State :=
  match s.fwMsg with
  | none => s
  | some n =>
    match s.msgBlock n.ptr host with
    | none => s.msgAnswer n none .ok []
    | some b =>
      if leField b 0 2 ≠ op then s
      else
        let r := reply (leField b 8 8)
        s.msgAnswer n (some b) (check (s.msgChecks n b r.length)) r

/-- Record `i` of the fault log, 32 bytes (R639). -/
def State.flogBytes (s : State) (i : Nat) : List Nat :=
  (upFrom 0 8).flatMap fun k => leBytes 4 (s.rdk R.MGT_FLOG_W_WORD (i % 1024) k)

/-- The fault records after index ARG that the log still holds (R529, R639). -/
def State.flogAfter (s : State) (arg : Nat) : List Nat :=
  let w := s.rd R.MGT_FLOG_WR_INDEX 0
  let lo := max (arg + 1) (w - 1024)
  (upFrom lo (w - lo)).flatMap s.flogBytes

/-- The die temperatures: each sensor's reading, 2 bytes. -/
def State.tempBytes (s : State) : List Nat := (upFrom 0 16).flatMap fun k => leBytes 2 (tget 0 s.temps k)

/-- Firmware takes the head notice of one of its mailboxes (R528, R530): a stale epoch is popped and not acted on; a message of the physical
function on MB0 is served, an unknown opcode refused. -/
def firmwareNoticeTake (m : Nat) (host : Option (List Nat)) (s : State) : State :=
  match s.mb m with
  | [] => s
  | n :: _ =>
    if 8 ≤ m ∨ s.fwMsg.isSome then s
    else
      let s := s.mbPopN m 1
      if n.epoch ≠ s.senderEpoch (senderOf n.prin) ∨ m ≠ 0 ∨ n.prin ≠ pPF then s
      else match s.msgBlock n.ptr host with
        | none => s.msgAnswer n none .ok []
        | some b =>
          if leField b 0 2 = 0 ∨ 3 < leField b 0 2 then s.msgAnswer n (some b) (check (s.msgChecks n b 0)) []
          else { s with fwMsg := some n }

/-- 100 µs later, refused replies are tried again; after 1 s one is dropped and recorded (R530). -/
def mbReplyRetry (s : State) : State :=
  let l := s.fwReplies
  l.foldl (fun s (r : Notice × Nat) =>
    let st := check (s.mbPostChecks 1 8)
    let s := s.mbQueue 8 st r.1
    if st ≠ .busy then s
    else if 9999 ≤ r.2 + 1 then s.flog 0x10 0x0018 .busy false (leBytes 4 8 ++ leBytes 4 r.1.tag)
    else { s with fwReplies := s.fwReplies ++ [(r.1, r.2 + 1)] }) { s with fwReplies := [] }

/-- TX_POST. -/
def execTxPost (p data : Nat) (s : State) : Res := .next (txPost p data s)
/-- MB_POP. -/
def execMbPop (p m data : Nat) (s : State) : Res := .next (mbPop p m data s)
/-- MB_CFG_ARM: a write of MBX.MB_CFG with ARM 1. -/
def execMbCfgArm (p m data : Nat) (s : State) : Res := .next (mbCfgWrite p m (setBit data 31) s)
/-- LOCK_ACQUIRE_READ. -/
def execLockAcquireRead (p k : Nat) (s : State) : Res := .next (lockRead p k s)
/-- LOCK_RELEASE: a write of MBX.LK with FORCE 0. -/
def execLockRelease (p k data : Nat) (s : State) : Res := .next (lockWrite p k (clearBits data 0x80000000) s)
/-- LOCK_FORCE: a write of MBX.LK with FORCE 1. -/
def execLockForce (p k data : Nat) (s : State) : Res := .next (lockWrite p k (setBit data 31) s)
/-- MSG_ECHO. -/
def execMsgEcho (host : Option (List Nat)) (s : State) : Res := .next (s.msgServe 1 host (fun _ => []))
/-- MSG_FAULTLOG. -/
def execMsgFaultlog (host : Option (List Nat)) (s : State) : Res := .next (s.msgServe 2 host s.flogAfter)
/-- MSG_TEMP. -/
def execMsgTemp (host : Option (List Nat)) (s : State) : Res := .next (s.msgServe 3 host (fun _ => s.tempBytes))
/-- MB_REPLY_RETRY. -/
def execMbReplyRetry (s : State) : Res := .next (mbReplyRetry s)
/-- FIRMWARE_NOTICE_TAKE. -/
def execFirmwareNoticeTake (m : Nat) (host : Option (List Nat)) (s : State) : Res := .next (firmwareNoticeTake m host s)

end Sys2Proof.Machine
end

