-- ==== Sys2Proof/Machine/Objects.lean ====
section
/-! DEFINITION. Objects, handles, sessions and rings (02_objects_handles_sessions.md): sessions, grants, destruction, fixed units, rings, event
bindings, doorbells, the admin queue pairs, Function Level Reset. -/

namespace Sys2Proof.Machine

open Sys2Proof

/-! ### Use counts (R87) -/

/-- The handle a staged entry names as a source. -/
def entHandle (e : StageEnt) : Nat :=
  match e.key with
  | .sel _ => tget 0 e.vals 1
  | .layer _ _ => tget 0 e.vals 0
  | _ => 0

/-- The uses of a handle: live descriptors and rings in registers, frames in progress, the rings of bound threads, accepted values (R87, R91). -/
def State.handleUses (s : State) (h : Nat) : Nat :=
  (holderFields.map (fun f => countField s.regs f h)).foldl (· + ·) 0
    + (s.inUse.filter (fun e => e.2.contains h)).length
    + (s.cueX.filter (fun e => e.2.ring == h && s.cueState e.1 != cUNBOUND)).length
    + (s.staged.filter (fun x => entHandle x.ent == h)).length

/-- The rectangles of a pipeline's Skim set whose live MODE is not 0 (R375). -/
def State.skimLive (s : State) (n : Nat) : List Nat := (upFrom 0 8).filter (fun r => s.rdk R.OUT_SKIM_RCTL_LIVE_MODE n r != 0)

/-- The pipelines of a clone group that are not STOPPED: while there is one, the group cannot be taken apart (R258). -/
def State.cloneRunning (s : State) (h : Nat) : List Nat :=
  (h :: s.cloneMembers h).filter (fun m => s.rd R.OUT_STAT_LC_STATE m != lcSTOPPED)

/-- The use count of an object (R87): a job's also counts its output surface (R287), a Skim set's its live rectangles and the raster that ends it at
the next switch line while its timeline runs (R375), a clone group's its running pipelines. -/
def State.useCount (s : State) (kind i : Nat) : Nat :=
  s.handleUses (s.handleOf kind i)
    + (if kind = kSkim then (s.skimLive i).length + b2n (s.tlnRuns (s.rd R.OUT_TMG_FMT_TLN i)) else 0)
    + (if kind = kClone then (s.cloneRunning i).length else 0)
    + (match if kind = kJob then tfind s.jobs i else none with
      | some j => s.handleUses (s.handleOf kSurface j.surf)
      | none => 0)

/-! ### Freeing (R82, R88, R89, R673) -/

/-- What an object holds of its own goes with it. -/
def State.dropParts (s : State) (kind i : Nat) : State :=
  if kind = kSurface then { (s.surfUnlock i).release (objKey kSurface i) with surfs := tdel s.surfs i }
  else if kind = kRing then
    { s.release (objKey kRing i) with rings := tdel s.rings i, binds := s.binds.filter (fun e => e.2 != s.handleOf kRing i) }
  else if kind = kProgram then { s with progs := tdel s.progs i }
  else if kind = kRoute then s.routeRelease i
  else if kind = kClone then s.setClone i []
  else if kind = kSkim then s.wr R.OUT_SKIM_SET_HANDLE i 0
  else if kind = kJob then s.jobRelease i
  else s

/-- The objects that belong to a session: created ones, not fixed units and not sessions (R78, R80). -/
def State.sessObjs (s : State) (i : Nat) : List Nat :=
  (s.objs.filter (fun e => e.2.live && e.2.owner == i && e.1 / 2 ^ 20 != kSession && !isFixed (e.1 / 2 ^ 20))).map (·.1)

/-- A session is freed: grants to it and its own bindings end with it (R82). -/
def State.sessFree (s : State) (i : Nat) : State :=
  let s := s.setObj kSession i { s.obj kSession i with live := false, draining := false, grants := [] }
  { s with sessPrin := tdel s.sessPrin i,
           objs := s.objs.map (fun e => (e.1, { e.2 with grants := e.2.grants.filter (· != i) })),
           binds := s.binds.filter (fun e => e.1 / 2 ^ 16 != objKey kSession i) }

/-- A DRAINING session whose last object is gone is freed (R82). -/
def State.sessDrained (s : State) (i : Nat) : State :=
  if i ≠ 0 ∧ (s.obj kSession i).live ∧ (s.obj kSession i).draining ∧ s.sessObjs i = [] then s.sessFree i else s

/-- An object is freed (R88, R89): memory and index are free, and a DRAINING one raises FREED of its session, with the FSN and switch line
that released it (R673). -/
def State.freeObj (s : State) (kind i fsn line : Nat) : State :=
  let o := s.obj kind i
  let h := s.handleOf kind i
  let s := s.dropParts kind i
  let s := s.setObj kind i { o with live := false, draining := false, grants := [] }
  let s := { s with binds := s.binds.filter (fun e => e.1 / 2 ^ 16 != objKey kind i) }
  let s := if o.draining && o.owner != 0 then s.post kSession o.owner 0x0B02 .ok fsn line 0 h else s
  s.sessDrained o.owner

/-- DESTROY of an object (R88, R89, R287): the state and 1 when it goes DRAINING. -/
def State.destroyObj (s : State) (kind i : Nat) : State × Nat :=
  let s := match if kind = kJob then tfind s.jobs i else none with
    | some j => s.jobStopReq i j
    | none => s
  if s.useCount kind i = 0 then (s.freeObj kind i 0 0, 0)
  else (s.setObj kind i { s.obj kind i with draining := true }, 1)

/-- The DRAINING objects whose use count is above 0. -/
def State.drainingUsed (s : State) : List Nat :=
  (s.objs.filter (fun e => e.2.live && e.2.draining && e.1 / 2 ^ 20 != kSession && decide (0 < s.useCount (e.1 / 2 ^ 20) (e.1 % 2 ^ 20)))).map (·.1)

/-- After a switch line: the objects that were used before it and are not any more are freed there (R89, R673). -/
def State.freeReleased (s : State) (before : List Nat) (fsn line : Nat) : State :=
  before.foldl (fun s k =>
    let o := s.obj (k / 2 ^ 20) (k % 2 ^ 20)
    if o.live && o.draining && s.useCount (k / 2 ^ 20) (k % 2 ^ 20) == 0 then s.freeObj (k / 2 ^ 20) (k % 2 ^ 20) fsn line else s) s

/-- OBJECT_FREED: the use count of a DRAINING object has reached 0 (R89). -/
def objectFreed (h : Nat) (s : State) : State :=
  if s.badHandle h || !s.isDraining h then s
  else if hKind h = kSession then s.sessDrained (hIdx h)
  else if s.useCount (hKind h) (hIdx h) = 0 then s.freeObj (hKind h) (hIdx h) 0 0
  else s

/-! ### The defaults image of a fixed unit (R80, R623) -/

/-- Copy one field of one unit from another register file. -/
def regCopyUnit (src dst : RegFile) (f : Fld) (u : Nat) : RegFile :=
  tset [] dst (Fld.key f) (tset [] (tget [] dst (Fld.key f)) u (tget [] (tget [] src (Fld.key f)) u))

/-- The image fields in the offsets `lo` to `hi - 1` of unit `u` take the values of the last BOOT (R623). -/
def State.imageUnit (s : State) (lo hi u : Nat) : State :=
  let fs := R.imageFlds.filter (fun f => decide (lo ≤ f.base) && decide (f.base < hi))
  { s with regs := fs.foldl (fun rf f => regCopyUnit s.image rf f u) s.regs }

/-- A candidate takes its image settings, with the effect of a CAND_CONFIG that gives them (R452). -/
def State.candImage (s : State) (c : Nat) : State :=
  if 9 ≤ c then s
  else
    let t := s.imageUnit 0x50400 0x50800 c
    let moved := t.rd R.REF_CAND_CFG_SRC c != s.rd R.REF_CAND_CFG_SRC c || t.rd R.REF_CAND_CFG_PPS_REQ c != s.rd R.REF_CAND_CFG_PPS_REQ c
    let t := if moved || t.rd R.REF_CAND_CFG_ENABLE c != s.rd R.REF_CAND_CFG_ENABLE c then t.candRestart c moved else t
    (t.candPhaseShow c).refRun false

/-- A timeline takes its image settings, with the effect of the write that gives them (R477). -/
def State.tlnImage (s : State) (t : Nat) : State :=
  let s' := s.imageUnit 0x51000 0x51008 t
  if s'.rd R.REF_TLN_CFG_FMT t = s.rd R.REF_TLN_CFG_FMT t then s'
  else if s'.rd R.REF_TLN_CFG_FMT t = 0 then s'.tlnStop t
  else if s'.epochRuns then s'.tlnStart t
  else s'.wr R.REF_TLN_STAT_STATE t 1

/-- A pipeline takes the crosspoint of the image, and LY1 to LY6, which the image does not set, become empty (R80, R563; assumption 163). -/
def State.pipeImage (s : State) (n : Nat) : State :=
  let go := fun (s : State) (e : StageEnt) => (s.applyEnt true e).liveEffect s e
  let s := go s ⟨.sel n, [(0, regGet s.image R.PLZ_SEL_LIVE_SEL n 0), (1, 0)]⟩
  ((upFrom 1 6).filter (fun l => s.rdk R.OUT_LYR_SURF_LIVE_HANDLE n l != 0)).foldl (fun s l => go s ⟨.layer n l, [(0, 0)]⟩) s

/-- A fixed unit takes the settings of the defaults image (R80). -/
def State.unitImage (s : State) (kind n : Nat) : State :=
  if kind = kInput then (s.imageUnit 0x200000 0x201000 n).imageUnit 0x701000 0x702000 n
  else if kind = kPipe then ((s.imageUnit 0x500000 0x504000 n).imageUnit 0x704000 0x705000 n).pipeImage n
  else if kind = kTimeline then s.tlnImage n
  else if kind = kCand then s.candImage n
  else s

/-- Whether a fixed unit is at rest, so that every setting of it may change: a port or a pipeline that is STOPPED, a timeline without a running
user, any candidate. -/
def State.unitRests (s : State) (kind n : Nat) : Bool :=
  if kind = kInput then s.rd R.INP_STAT_LC_STATE n == lcSTOPPED
  else if kind = kPipe then s.rd R.OUT_STAT_LC_STATE n == lcSTOPPED
  else if kind = kTimeline then s.tlnStopped n
  else true

/-- A fixed unit passes to the firmware session by UNIT_RELEASE or SESSION_CLOSE (R80): it takes its image settings at once when it rests, else when
it next does (assumption 127). -/
def State.unitGive (s : State) (kind n : Nat) : State :=
  if s.unitRests kind n then s.unitImage kind n else { s with imageDue := objKey kind n :: s.imageDue.filter (· != objKey kind n) }

/-- The released units that have come to rest take their image settings. -/
def State.imageRun (s : State) : State :=
  let ready := s.imageDue.filter (fun k => s.unitRests (k / 2 ^ 20) (k % 2 ^ 20))
  ready.foldl (fun s k => s.unitImage (k / 2 ^ 20) (k % 2 ^ 20)) { s with imageDue := s.imageDue.filter (fun k => !ready.contains k) }

/-- The fixed units a session holds, by their places in the object table. -/
def State.sessUnits (s : State) (i : Nat) : List Nat := (s.objs.filter (fun e => isFixed (e.1 / 2 ^ 20) && e.2.owner == i)).map (·.1)

/-! ### Sessions (R76, R77, R82, R83) -/

/-- An output surface of an Arcade job (R283): it is not destroyed by itself. -/
def State.jobSurface (s : State) (kind i : Nat) : Bool := kind == kSurface && (s.surf i).job.isSome

/-- Close a session (R82, R417): its threads are unbound, its units pass to the firmware session, its objects are destroyed. The result is
1 while an object is left. -/
def State.sessClose (s : State) (i : Nat) : State × Nat :=
  let h := s.handleOf kSession i
  let s := ((upFrom 0 160).filter (fun t => s.cueState t != cUNBOUND && s.rd R.CUE_SESS_HANDLE t == h)).foldl State.cueUnbind s
  let give := fun (e : Nat × Obj) => if isFixed (e.1 / 2 ^ 20) && e.2.owner == i then (e.1, ({ e.2 with owner := 0 } : Obj)) else e
  let s : State := { s with objs := s.objs.map give }
  let s := (s.sessObjs i).foldl (fun (s : State) k =>
    if (s.obj (k / 2 ^ 20) (k % 2 ^ 20)).live && !(s.obj (k / 2 ^ 20) (k % 2 ^ 20)).draining && !s.jobSurface (k / 2 ^ 20) (k % 2 ^ 20)
    then (s.destroyObj (k / 2 ^ 20) (k % 2 ^ 20)).1 else s) s
  if s.sessObjs i = [] then (s.sessFree i, 0)
  else (s.setObj kSession i { s.obj kSession i with draining := true }, 1)

/-- The open sessions of a function that are not closing. -/
def State.fnSessions (s : State) (f : Nat) : List Nat :=
  (s.sessPrin.filter (fun e => e.2 == 0x10 + f && (s.obj kSession e.1).live && !(s.obj kSession e.1).draining)).map (·.1)

/-- Close every session of a function at its reset: fixed units keep running on their live settings (R83). -/
def State.closeFn (s : State) (f : Nat) : State := (s.fnSessions f).foldl (fun s i => (s.sessClose i).1) s

/-- A Function Level Reset (R83); for function 0 also the physical function's mailbox epoch (R526). -/
def functionLevelReset (f : Nat) (s : State) : State :=
  if 16 ≤ f then s else if f = 0 then (s.closeFn 0).senderReset 3 else s.closeFn f

/-- The checks of the INLINE bytes that an opcode does not name (R105): all 0 from byte `n`. -/
def inlZero (t : Taken) (n : Nat) : Bool × Status := (!allZero (t.inl.drop n), .decode)

/-- SESSION_OPEN, opcode 0x0001 (R76, R77). -/
def sessionOpen (f : Nat) (payload : List Nat) (s : State) : State :=
  s.admin f 0x01 payload []
    (fun t => [inlZero t 0, (t.object != 0 || t.session != 0, .decode)] ++ s.admChecks f t 0 0 payload false false)
    (fun _ =>
      match s.freeIndex kSession 1 with
      | none => ⟨s.refuse 2, .noContext, 0, 0⟩
      | some i =>
        let s := s.issue kSession i 0
        ⟨{ s with sessPrin := tput s.sessPrin i (0x10 + f) }, .ok, s.handleOf kSession i, 0⟩)

/-- Close a session at the wish of its owner: the units it held take their image settings (R80, R82). -/
def State.sessLeave (s : State) (i : Nat) : State × Nat :=
  let r := s.sessClose i
  ((s.sessUnits i).foldl (fun s k => s.unitGive (k / 2 ^ 20) (k % 2 ^ 20)) r.1, r.2)

/-- SESSION_CLOSE, opcode 0x0002 (R82). -/
def sessionClose (f : Nat) (payload : List Nat) (s : State) : State :=
  s.admin f 0x02 payload []
    (fun t => [ inlZero t 0, (!s.badHandle t.object && hKind t.object == kSession && s.prinOf (hIdx t.object) != 0x10 + f, .protected') ]
        ++ s.liveChecks t.ss t.object (hKind t.object != kSession) ++ s.admChecks f t 0 0 payload true false)
    (fun t => ⟨(s.sessLeave (hIdx t.object)).1, .ok, 0, (s.sessLeave (hIdx t.object)).2⟩)

/-! ### Grants (R79) -/

/-- The checks of GRANT and REVOKE (R79, R90, R105): a surface or ring of the command's session, and a grantee session of the
same principal (R77). -/
def State.grantChecks (s : State) (t : Taken) : List (Bool × Status) :=
  let h := t.object
  let g := leField t.inl 0 4
  inlZero t 4 :: s.liveChecks t.ss h (hKind h != kSurface && hKind h != kRing) ++ s.liveChecks t.ss g (hKind g != kSession)

/-- Record who holds a grant of an object. -/
def State.setGrants (s : State) (h : Nat) (l : List Nat) : State := s.setObj (hKind h) (hIdx h) { s.hobj h with grants := l }

/-- GRANT, opcode 0x0003. -/
def grant (f : Nat) (payload : List Nat) (s : State) : State :=
  s.admin f 0x03 payload [] (fun t => s.grantChecks t ++ s.admChecks f t 0 0 payload true false)
    (fun t => ⟨s.setGrants t.object (hIdx (leField t.inl 0 4) :: (s.hobj t.object).grants.filter (· != hIdx (leField t.inl 0 4))), .ok, 0, 0⟩)

/-- The live and accepted uses that a grantee has of a handle: selects and layers of its units, values of its COMMITs (R79). -/
def State.grantUses (s : State) (h g : Nat) : List StageKey :=
  let sels := (upFrom 0 352).filter (fun d => s.selH d == h
    && (if d < 96 then (s.obj kPipe d).owner == g else (s.obj kJob (d - 96)).owner == g))
  let lays := ((upFrom 0 96).filter (fun n => (s.obj kPipe n).owner == g)).flatMap (fun n =>
    ((upFrom 1 7).filter (fun l => s.rdk R.OUT_LYR_SURF_LIVE_HANDLE n l == h)).map (fun l => StageKey.layer n l))
  sels.map StageKey.sel ++ lays ++ (s.staged.filter (fun x => entHandle x.ent == h && s.cueSess x.thread == g)).map (·.ent.key)

/-- REVOKE, opcode 0x0004 (R79). -/
def revoke (f : Nat) (payload : List Nat) (s : State) : State :=
  s.admin f 0x04 payload [] (fun t => s.grantChecks t ++ s.admChecks f t 0 0 payload true false)
    (fun t =>
      let g := hIdx (leField t.inl 0 4)
      let ends := (s.grantUses t.object g).map (fun k => (k, t.object))
      let s := s.setGrants t.object ((s.hobj t.object).grants.filter (· != g))
      ⟨{ s with revoked := s.revoked ++ ends }, .ok, 0, 0⟩)

/-- What makes a layer empty or a select NONE. -/
def emptyVals : StageKey → List (Nat × Nat)
  | .sel _ => [(0, 0), (1, 0)]
  | _ => [(0, 0)]

/-- The charge a key's source holds (R265). -/
def keyCharge : StageKey → List Nat
  | .sel d => [cSelect d]
  | .layer n l => [cLayer n l]
  | _ => []

/-- One use of a revoked grant ends: the live layer or select that names the handle becomes empty, and a value still waiting too (R79). -/
def State.endUse (s : State) (k : StageKey) (h : Nat) : State :=
  let s := { s with staged := s.staged.map fun x =>
    if x.ent.key = k ∧ entHandle x.ent = h then { x with ent := { x.ent with vals := emptyVals k } } else x }
  let live := match k with
    | .sel d => s.selH d
    | .layer n l => s.rdk R.OUT_LYR_SURF_LIVE_HANDLE n l
    | _ => 0
  if live = h then
    let e : StageEnt := ⟨k, emptyVals k⟩
    (keyCharge k).foldl State.uncharge ((s.applyEnt true e).liveEffect s e)
  else s

/-- The insert rings that the pipelines of timeline `tl` consume under a grant that was revoked are unbound at its switch line (R79). -/
def State.endRings (s : State) (tl : Nat) : State :=
  (upFrom 0 s.lanes).foldl (fun (s : State) n =>
    let h := s.rd R.OUT_ANC_RING_RING n
    if h ≠ 0 ∧ s.rd R.OUT_TMG_FMT_TLN n = tl ∧ !s.badHandle h ∧ !s.mayRead (s.obj kPipe n).owner h then s.wr R.OUT_ANC_RING_RING n 0 else s) s

/-- The revoked uses on timeline `tl` end at its switch line (R79). -/
def State.endRevoked (s : State) (tl : Nat) : State :=
  let mine := s.revoked.filter (fun x => s.keyTln x.1 == some tl)
  (mine.foldl (fun (s : State) x => s.endUse x.1 x.2) { s with revoked := s.revoked.filter (fun x => !mine.contains x) }).endRings tl

/-! ### DESTROY (R88 to R90) -/

/-- Whether a handle names a created object that DESTROY frees: neither a fixed unit, a session nor an Arcade output surface (R104, R283). -/
def State.destroyable (s : State) (h : Nat) : Bool :=
  !isFixed (hKind h) && hKind h != kSession && !s.jobSurface (hKind h) (hIdx h)

/-- DESTROY, opcode 0x0005. A clone group also passes the checks of R258. -/
def destroy (f : Nat) (payload : List Nat) (s : State) : State :=
  s.admin f 0x05 payload []
    (fun t =>
      let h := t.object
      let bad := s.badHandle h
      inlZero t 0 :: s.liveChecks t.ss h (!s.destroyable h)
        ++ (if bad || hKind h != kClone then [] else
          [(!(s.cloneRunning (hIdx h)).isEmpty, .unitRunning)])
        ++ s.admChecks f t 0 0 payload true false)
    (fun t => ⟨(s.destroyObj (hKind t.object) (hIdx t.object)).1, .ok, 0, (s.destroyObj (hKind t.object) (hIdx t.object)).2⟩)

/-- A Skim set in DRAINING: at the next switch line of its timeline `t` every live MODE becomes 0, and the set is freed there (R375, R89). -/
def State.endSkim (t : Nat) (s : State) (n : Nat) : State :=
  if (s.obj kSkim n).live && (s.obj kSkim n).draining then
    let s := (upFrom 0 8).foldl (fun s r => (s.wrk R.OUT_SKIM_RCTL_LIVE_MODE n r 0).wrk R.OUT_SKIM_STATE_FAILING n r 0) s
    s.freeObj kSkim n (s.fsn t) (fmtD (s.rd R.REF_TLN_CFG_FMT t)).sw
  else s

/-! ### Fixed units (R80, R81, R86, R105) -/

/-- How many units of a fixed kind have a number (R105). -/
def unitLimit (kind : Nat) : Nat := if kind = kInput ∨ kind = kPipe then 96 else if kind = kCand then 12 else if kind = kTimeline then 16 else 0

/-- Whether a fixed unit is absent on the variant (R105, R450). -/
def State.fixedAbsent (s : State) (kind n : Nat) : Bool :=
  ((kind == kInput || kind == kPipe) && decide (s.lanes ≤ n)) || (kind == kCand && n == 8 && !s.twin)

/-- UNIT_ACQUIRE, opcode 0x0006. -/
def unitAcquire (f : Nat) (payload : List Nat) (s : State) : State :=
  s.admin f 0x06 payload []
    (fun t =>
      let k := leField t.inl 0 1
      let n := leField t.inl 2 2
      let held := (s.obj k n).owner
      [ (leField t.inl 1 1 != 0 || t.object != 0 || decide (unitLimit k ≤ n), .decode), inlZero t 4, (s.fixedAbsent k n, .unitAbsent),
        (held != 0 && held != t.ss, .protected') ] ++ s.admChecks f t 0 0 payload true false)
    (fun t =>
      let k := leField t.inl 0 1
      let n := leField t.inl 2 2
      let o := s.obj k n
      let s := if o.owner = t.ss then s else s.setObj k n { o with owner := t.ss, gen := nextGen o.gen }
      ⟨{ s with imageDue := s.imageDue.filter (· != objKey k n) }, .ok, s.handleOf k n, 0⟩)

/-- UNIT_RELEASE, opcode 0x0007: the unit passes to the firmware session and to the settings of the defaults image (R80, R105). -/
def unitRelease (f : Nat) (payload : List Nat) (s : State) : State :=
  s.admin f 0x07 payload []
    (fun t => inlZero t 0 :: s.liveChecks t.ss t.object (!isFixed (hKind t.object)) ++ s.admChecks f t 0 0 payload true false)
    (fun t =>
      let s := s.setObj (hKind t.object) (hIdx t.object) { s.hobj t.object with owner := 0 }
      ⟨s.unitGive (hKind t.object) (hIdx t.object), .ok, 0, 0⟩)

/-! ### Rings (R93 to R99) -/

/-- The context INLINE describes (R93, R105). -/
def ringArgs (inl : List Nat) (owner : Nat) : RingCtx :=
  { base := leField inl 0 8, bufLen := leField inl 8 4, size := leField inl 12 1, esize := leField inl 13 1,
    host := bitAt (leField inl 14 1) 0, hostProduces := bitAt (leField inl 14 1) 1, armed := bitAt (leField inl 15 1) 0,
    overflow := false, pi := 0, ci := 0, owner := owner, vector := leField inl 28 2, occ := 0, drops := 0, handle := 0 }

/-- The bytes a ring takes. -/
def ringBytes (r : RingCtx) : Nat := 2 ^ r.size * entrySize r

/-- The checks of RING_CREATE (R93, R95, R105; codes the table does not list: assumptions 132, 155). -/
def ringCreateChecks (inl : List Nat) : List (Bool × Status) :=
  let r := ringArgs inl 0
  [ (!allZero ((inl.drop 16).take 12) || !allZero (inl.drop 30) || decide (4 ≤ leField inl 14 1) || decide (2 ≤ leField inl 15 1)
      || decide (128 ≤ r.vector), .decode),
    (decide (4 ≤ r.esize) || decide (r.size < 4) || decide (16 < r.size) || (r.host && decide (r.size ≤ 16) && decide (r.esize < 4)
      && decide (r.bufLen < ringBytes r)), .lenExceeds) ]

/-- Create a ring for a session (R84, R95). -/
def State.ringCreateBody (s : State) (sess : Nat) (inl : List Nat) : AdmAns :=
  let r := ringArgs inl sess
  match s.freeIndex kRing 32 with
  | none => ⟨s.refuse 0, .noContext, 0, 0⟩
  | some i =>
    if r.host then
      let s := s.issue kRing i (hIdx sess)
      ⟨s.setRing i { r with handle := s.handleOf kRing i }, .ok, s.handleOf kRing i, 0⟩
    else
      match s.allocate (ringBytes r) 65536 (objKey kRing i) false false with
      | none => ⟨s, .noMemory, 0, 0⟩
      | some (b, s) =>
        let s := s.issue kRing i (hIdx sess)
        ⟨s.setRing i { r with handle := s.handleOf kRing i, base := b, bufLen := ringBytes r }, .ok, s.handleOf kRing i, b⟩

/-- RING_CREATE, opcode 0x0010. -/
def ringCreate (f : Nat) (payload : List Nat) (s : State) : State :=
  s.admin f 0x10 payload [] (fun t => (t.object != 0, .decode) :: ringCreateChecks t.inl ++ s.admChecks f t 0 0 payload true false)
    (fun t => s.ringCreateBody t.session t.inl)

/-- The context of a ring as its 64 bytes (R93). -/
def ringContext (r : RingCtx) : List Nat :=
  leBytes 8 r.base ++ leBytes 4 r.bufLen ++ [r.size, r.esize, b2n r.host + 2 * b2n r.hostProduces, b2n r.armed + 2 * b2n r.overflow]
    ++ leBytes 4 r.pi ++ leBytes 4 r.ci ++ leBytes 4 r.owner ++ leBytes 2 r.vector ++ leBytes 2 r.occ ++ leBytes 4 r.drops
    ++ leBytes 4 r.handle ++ List.replicate 24 0

/-- The checks of the ring RING_QUERY reads: a session with a grant of it may (R78, R79). -/
def State.queryChecks (s : State) (ss h : Nat) : List (Bool × Status) :=
  [ (s.absentHandle h, .unitAbsent), (s.badHandle h, .badHandle), (!s.badHandle h && hKind h != kRing, .wrongKind),
    (!s.badHandle h && (if hKind h = kSession then s.foreign ss h else !s.mayRead ss h), .protected'), (!s.badHandle h && s.isDraining h, .draining) ]

/-- RING_QUERY, opcode 0x0011: the context goes to PAYLOAD. -/
def ringQuery (f : Nat) (payload : List Nat) (s : State) : State :=
  s.admin f 0x11 payload []
    (fun t => inlZero t 0 :: s.queryChecks t.ss t.object ++ s.admChecks f t 64 64 (List.replicate 64 0) true false)
    (fun t =>
      match tfind s.rings (hIdx t.object) with
      | none => ⟨s, .ok, 0, 0⟩
      | some r => ⟨s.send (.hostWrite f t.payAddr (ringContext r)), .ok, 0, 0⟩)

/-- RING_CLEAR, opcode 0x0012 (R105). -/
def ringClear (f : Nat) (payload : List Nat) (s : State) : State :=
  s.admin f 0x12 payload [] (fun t => inlZero t 0 :: s.ownChecks t.ss t.object kRing ++ s.admChecks f t 0 0 payload true false)
    (fun t =>
      match tfind s.rings (hIdx t.object) with
      | none => ⟨s, .ok, 0, 0⟩
      | some r => ⟨s.setRing (hIdx t.object) { r with overflow := false, drops := 0 }, .ok, 0, r.drops⟩)

/-! ### Event bindings (R106, R107, R673) -/

/-- The codes EVENT_BIND names (R106). -/
def bindCodes (inl : List Nat) : List Nat :=
  ((upFrom 0 64).filter (fun b => bitAt (leField inl 4 8) b)).map (fun b => leField inl 12 1 * 256 + b + 1)

/-- Whether a source raises an event code (R106, R673): audio events of a port only with an audio unit, DROPPED only of sessions of the
physical function. -/
def State.sourceRaises (s : State) (h code : Nat) : Bool :=
  kindRaises (hKind h) code && (code / 256 != 0x07 || s.audio) && (code != 0x0B01 || s.prinOf (hIdx h) == pPF)

/-- The checks of EVENT_BIND (R106). -/
def State.bindEvChecks (s : State) (t : Taken) : List (Bool × Status) :=
  let h := t.object
  let ring := leField t.inl 0 4
  let r := tget ⟨0, 0, 0, 1, false, false, false, false, 0, 0, 0, 0, 0, 0, 0⟩ s.rings (hIdx ring)
  let mine := if hKind h = kSession then h == t.session else s.owns t.ss h
  [ inlZero t 13, ((bindCodes t.inl).isEmpty || (!s.badHandle h && (bindCodes t.inl).any (fun c => !s.sourceRaises h c)), .decode),
    (s.badHandle h, .badHandle), (!s.badHandle h && !mine, .protected'), (!s.badHandle h && s.isDraining h, .draining) ]
    ++ (if ring = 0 then [] else
      s.liveChecks t.ss ring (hKind ring != kRing || r.hostProduces)
        ++ [ (!s.badHandle ring && hKind ring == kRing && r.esize != 1, .lenExceeds) ])

/-- EVENT_BIND, opcode 0x0013. -/
def eventBind (f : Nat) (payload : List Nat) (s : State) : State :=
  s.admin f 0x13 payload [] (fun t => s.bindEvChecks t ++ s.admChecks f t 0 0 payload true false)
    (fun t =>
      let ring := leField t.inl 0 4
      let keys := (bindCodes t.inl).map (bindKey (hKind t.object) (hIdx t.object))
      ⟨{ s with binds := keys.foldl (fun b k => if ring = 0 then tdel b k else tput b k ring) s.binds }, .ok, 0, 0⟩)

/-! ### Doorbells (R98, R99) -/

/-- Whether the pair of function `f` moves ring `i`: an admin ring of the function, or a ring its sessions own. -/
def State.fnOwnsRing (s : State) (f i : Nat) : Bool :=
  if i < 32 then (tfind s.rings i).isSome && i / 2 == f
  else (s.obj kRing i).live && s.prinOf (s.obj kRing i).owner == 0x10 + f

/-- Whether an index would exceed the ring or move backwards (R98). -/
def dbBad (r : RingCtx) (v : Nat) : Bool :=
  if r.hostProduces then decide (2 ^ r.size < (v + 2 ^ 32 - r.ci) % 2 ^ 32) || decide ((v + 2 ^ 32 - r.ci) % 2 ^ 32 < ringUsed r)
  else decide (ringUsed r < (r.pi + 2 ^ 32 - v) % 2 ^ 32)

/-- The context after a doorbell (R98, R99). -/
def dbMoved (r : RingCtx) (v : Nat) (arm : Bool) : RingCtx :=
  let r := if r.hostProduces then { r with pi := v } else { r with ci := v }
  { r with armed := r.armed || arm }

/-- A write of MBX.RING_DB_HI of function `f` (R98, R99); RING_DB_LO keeps what it holds (assumption 156). -/
def ringDoorbell (p f data : Nat) (s : State) : State :=
  let i := s.rd R.MBX_RING_DB_LO_RING f
  let arm := s.on R.MBX_RING_DB_LO_ARM f
  let r := tget ⟨0, 0, 0, 0, false, false, false, false, 0, 0, 0, 0, 0, 0, 0⟩ s.rings i
  let v := data % 2 ^ 32
  s.gate p (0x34004 + 8 * f) true
    [ (decide (16 ≤ f), .decode), (!s.fnOwnsRing f i, .protected'), (s.fnOwnsRing f i && dbBad r v, .lenExceeds) ]
    fun s =>
      let m := dbMoved r v arm
      if arm && !m.hostProduces && decide (0 < ringUsed m) then
        (s.setRing i { m with armed := false }).send (.msix (s.ringFn m) m.vector)
      else s.setRing i m

/-! ### Admin queue pairs (R100 to R103) -/

/-- The two rings of a function's pair as they start (R100): both in host memory, at index 0. -/
def State.admqRings (s : State) (f : Nat) : State :=
  let lo := fun (fl : Fld) (k : Nat) => s.rd fl f * 2 ^ k
  let cmd : RingCtx := ⟨lo R.MBX_ADMQ_CMD_BASE_LO_ADDR 6 + lo R.MBX_ADMQ_CMD_BASE_HI_ADDR 32, 64 * 2 ^ s.rd R.MBX_ADMQ_CFG_CMD_SIZE f,
    s.rd R.MBX_ADMQ_CFG_CMD_SIZE f, 2, true, true, false, false, 0, 0, 0, s.rd R.MBX_ADMQ_CFG_VECTOR f, 0, 0, mkHandle kRing 1 (2 * f)⟩
  let cpl : RingCtx := ⟨lo R.MBX_ADMQ_CPL_BASE_LO_ADDR 5 + lo R.MBX_ADMQ_CPL_BASE_HI_ADDR 32, 32 * 2 ^ s.rd R.MBX_ADMQ_CFG_CPL_SIZE f,
    s.rd R.MBX_ADMQ_CFG_CPL_SIZE f, 1, true, false, false, false, 0, 0, 0, s.rd R.MBX_ADMQ_CFG_VECTOR f, 0, 0, mkHandle kRing 1 (2 * f + 1)⟩
  (s.setRing (2 * f) cmd).setRing (2 * f + 1) cpl

/-- The pair has stopped (R100). -/
def State.admqStopped (s : State) (f : Nat) : State :=
  if s.on R.MBX_ADMQ_CFG_ENABLE f || (tfind s.taken f).isSome then s else s.wr R.MBX_ADMQ_CFG_ACTIVE f 0

/-- A write of MBX.ADMQ_CFG (R30, R100). -/
def admqEnable (p f data : Nat) (s : State) : State :=
  let active := s.on R.MBX_ADMQ_CFG_ACTIVE f
  let moved := bitsOf data 16 7 != s.rd R.MBX_ADMQ_CFG_VECTOR f || bitsOf data 8 5 != s.rd R.MBX_ADMQ_CFG_CPL_SIZE f
    || bitsOf data 0 5 != s.rd R.MBX_ADMQ_CFG_CMD_SIZE f
  let sizeOk := fun (x : Nat) => decide (4 ≤ x) && decide (x ≤ 16)
  s.gate p (0x38010 + 0x40 * f) true
    [ (decide (16 ≤ f), .decode), (active && moved, .unitRunning),
      (bitAt data 31 && !(sizeOk (bitsOf data 8 5) && sizeOk (bitsOf data 0 5)), .lenExceeds) ]
    fun s =>
      let s := ((s.wr R.MBX_ADMQ_CFG_VECTOR f (bitsOf data 16 7)).wr R.MBX_ADMQ_CFG_CPL_SIZE f (bitsOf data 8 5)).wr
        R.MBX_ADMQ_CFG_CMD_SIZE f (bitsOf data 0 5)
      let s := s.wr R.MBX_ADMQ_CFG_ENABLE f (bitsOf data 31 1)
      if bitAt data 31 then (if active then s else (s.wr R.MBX_ADMQ_CFG_ACTIVE f 1).admqRings f) else s.admqStopped f

/-- ADMQ_DRAINED: ENABLE is 0 and the last command taken has completed (R100). -/
def admqDrained (f : Nat) (s : State) : State := s.admqStopped f

/-- The opcodes of R104. -/
def opKnown (op : Nat) : Bool :=
  [1, 2, 3, 4, 5, 6, 7, 0x10, 0x11, 0x12, 0x13, 0x20, 0x30, 0x31, 0x32, 0x33, 0x40, 0x50, 0x60, 0x61, 0x70, 0x80, 0x90].contains op

/-- A command entry (R102), with its index in the ring. -/
def takenOf (e : List Nat) (index : Nat) : Taken :=
  { opcode := leField e 0 2, quiet := bitAt (leField e 2 2) 0, tag := leField e 4 4, session := leField e 8 4, object := leField e 12 4,
    payAddr := leField e 16 8, payLen := leField e 24 4, index := index, inl := (upFrom 32 32).map (fun i => leField e i 1),
    reserved := decide (2 ≤ leField e 2 2) || leField e 28 4 != 0 }

/-- Firmware takes the next command of function `f` (R100 to R103): the pair is served, a command is there and a completion entry is free.
`entry` is what host memory holds there. An unknown OPCODE completes at once. -/
def adminCommandTake (f : Nat) (entry : List Nat) (s : State) : State :=
  match tfind s.rings (2 * f), tfind s.rings (2 * f + 1), tfind s.taken f with
  | some cmd, some cpl, none =>
    if 16 ≤ f ∨ !s.on R.MBX_ADMQ_CFG_ENABLE f ∨ !s.on R.MBX_ADMQ_CFG_ACTIVE f ∨ ringUsed cmd = 0 ∨ ringFull cpl
        ∨ s.modeCode = mBOOT ∨ s.modeCode = mLIMP then s
    else
      let t := takenOf entry cmd.ci
      let s := s.setRing (2 * f) { cmd with ci := (cmd.ci + 1) % 2 ^ 32 }
      if opKnown t.opcode then { s with taken := tput s.taken f t } else s.complete f t .decode 0 0
  | _, _, _ => s

/-- ADMIN_COMMAND_TAKE. -/
def execAdminCommandTake (f : Nat) (entry : List Nat) (s : State) : Res := .next (adminCommandTake f entry s)
/-- SESSION_OPEN. -/
def execSessionOpen (f : Nat) (payload : List Nat) (s : State) : Res := .next (sessionOpen f payload s)
/-- SESSION_CLOSE. -/
def execSessionClose (f : Nat) (payload : List Nat) (s : State) : Res := .next (sessionClose f payload s)
/-- GRANT. -/
def execGrant (f : Nat) (payload : List Nat) (s : State) : Res := .next (grant f payload s)
/-- REVOKE. -/
def execRevoke (f : Nat) (payload : List Nat) (s : State) : Res := .next (revoke f payload s)
/-- DESTROY. -/
def execDestroy (f : Nat) (payload : List Nat) (s : State) : Res := .next (destroy f payload s)
/-- OBJECT_FREED. -/
def execObjectFreed (h : Nat) (s : State) : Res := .next (objectFreed h s)
/-- UNIT_ACQUIRE. -/
def execUnitAcquire (f : Nat) (payload : List Nat) (s : State) : Res := .next (unitAcquire f payload s)
/-- UNIT_RELEASE. -/
def execUnitRelease (f : Nat) (payload : List Nat) (s : State) : Res := .next (unitRelease f payload s)
/-- RING_CREATE. -/
def execRingCreate (f : Nat) (payload : List Nat) (s : State) : Res := .next (ringCreate f payload s)
/-- RING_QUERY. -/
def execRingQuery (f : Nat) (payload : List Nat) (s : State) : Res := .next (ringQuery f payload s)
/-- RING_CLEAR. -/
def execRingClear (f : Nat) (payload : List Nat) (s : State) : Res := .next (ringClear f payload s)
/-- EVENT_BIND. -/
def execEventBind (f : Nat) (payload : List Nat) (s : State) : Res := .next (eventBind f payload s)
/-- RING_DOORBELL. -/
def execRingDoorbell (p f data : Nat) (s : State) : Res := .next (ringDoorbell p f data s)
/-- ADMQ_ENABLE. -/
def execAdmqEnable (p f data : Nat) (s : State) : Res := .next (admqEnable p f data s)
/-- ADMQ_DRAINED. -/
def execAdmqDrained (f : Nat) (s : State) : Res := .next (admqDrained f s)
/-- FUNCTION_LEVEL_RESET. -/
def execFunctionLevelReset (f : Nat) (s : State) : Res := .next (functionLevelReset f s)

end Sys2Proof.Machine
end

