-- ==== Sys2Proof/Machine/Store.lean ====
section
/-! DEFINITION. The persistent store: access and block protect (R535 to R542), the shadow banks, STORE and RECALL (R543 to R547), power failure
(R548 to R552), the margin scan (R553, R554), records and logs (R555 to R558). -/

namespace Sys2Proof.Machine

open Sys2Proof

/-! ### State -/

/-- The states of the store controller (NVS.STAT.STATE, R552). -/
def nsRECALL : Nat := 0
def nsREADY : Nat := 1
def nsSTORE : Nat := 2
def nsAUTOSTORE : Nat := 3
def nsHOLD : Nat := 4

/-- The state of the store controller. -/
def State.nvsState (s : State) : Nat := s.rd R.NVS_STAT_STATE 0
/-- The store controller enters a state. -/
def State.nvsEnter (s : State) (x : Nat) : State := s.wr R.NVS_STAT_STATE 0 x
/-- Change the store. -/
def State.setNvs (s : State) (f : Nvs → Nvs) : State := { s with nvs := f s.nvs }

/-- The NVS events (R566): bit 0 STORE_DONE, 1 AUTOSTORE_DONE, 2 RECALL_OLD, 3 SCAN_REFRESH. -/
def State.nvsEvent (s : State) (bit : Nat) : State := s.flag R.NVS_EVT_FLAGS 0x00040034 0 0 bit

/-- The number of bytes of the store (R535). -/
def storeBytes : Nat := 0x80000

/-- The first address of the block-protect range; the range ends with the store (R540). -/
def bpFirst (bp : Nat) : Nat := if bp = 1 then 0x60000 else if bp = 2 then 0x40000 else if bp = 3 then 0 else storeBytes

/-- Whether a write to a store address is refused: the factory area or the block-protect range (R538, R540, R541). -/
def State.nvsLocked (s : State) (a : Nat) : Bool := decide (a < 0x8000) || decide (bpFirst (s.rd R.NVS_CFG_BP 0) ≤ a)

/-- The status of an access to the store (R538). -/
def State.nvsChecks (s : State) (a : Nat) (write : Bool) : List (Bool × Status) :=
  [ (s.nvsState == nsRECALL || (write && s.nvsState != nsREADY), .notReady), (write && s.nvsLocked a, .protected') ]

/-- A word of the store. -/
def State.nvsWord (s : State) (a : Nat) : Nat := leVal (memReadBytes s.nvs.sram a 4)
/-- Write bytes of the store. -/
def State.nvsPut (s : State) (a : Nat) (bs : List Nat) : State := s.setNvs fun x => { x with sram := memWriteBytes x.sram a bs }

/-! ### The firewall entries the block keeps in step (R510, R539) -/

/-- One system region of space 0 with OWNER 0x00, enabled when `on'`. -/
def State.fwSet (s : State) (r lo hi : Nat) (on' : Bool) : State :=
  let s := ((s.wr R.FAB_FW_BASE_LO_BASE r lo).wr R.FAB_FW_LIM_LO_LIMIT r hi).wr R.FAB_FW_BASE_HI_ENABLE r (b2n on')
  (((((s.wr R.FAB_FW_BASE_HI_SPACE r 0).wr R.FAB_FW_BASE_HI_RD_LOCK r 0).wr R.FAB_FW_BASE_HI_OWNER r 0).wr R.FAB_FW_BASE_HI_BASE r 0).wr
    R.FAB_FW_LIM_HI_LIMIT r 0).fwTake r

/-- Entries 0 to 3 (R510). -/
def State.nvsFw (s : State) : State :=
  let bp := s.rd R.NVS_CFG_BP 0
  let s := (s.fwSet 0 0x1000000 0x1007FFF true).fwSet 3 0x1080000 0x1087FFF true
  (s.fwSet 1 (0x1000000 + bpFirst bp) 0x107FFFF (bp != 0)).fwSet 2 (0x1080000 + bpFirst bp) 0x10FFFFF (bp != 0)

/-! ### Access -/

/-- A write through the data window (R535, R536, R538). -/
def nvsDataWrite (p a data : Nat) (s : State) : State :=
  s.gate p (0x1000000 + a) true ((decide (storeBytes ≤ a), .decode) :: s.nvsChecks a true) fun s => s.nvsPut a (leBytes 4 data)

/-- The word address after an access to the data port (R537). -/
def nvsNext (linear : Bool) (w : Nat) : Nat := if linear then (w + 1) % 2 ^ 17 else w / 64 * 64 + (w + 1) % 64

/-- An access to NVS.PORT_DATA (R535, R537 to R539): it is checked as an access to the alias, and advances the principal's address. -/
def nvsPortData (p : Nat) (write : Bool) (data : Nat) (s : State) : State :=
  s.gate p 0x40014 write [] fun s =>
    let w := s.rd R.NVS_PORT_ADDR_ADDR p
    let a := 4 * w
    let st := check (((s.fwRefuses p 0 (0x1080000 + a) 4 write).isSome, .protected') :: s.nvsChecks a write)
    if st ≠ .ok then s.deny st p (0x1080000 + a) write
    else
      let s := if write then s.nvsPut a (leBytes 4 data) else s.respond (s.nvsWord a)
      s.wr R.NVS_PORT_ADDR_ADDR p (nvsNext (s.on R.NVS_CFG_PAGE_MODE 0) w)

/-- A write of NVS.CFG (R542). -/
def nvsCfgWrite (p data : Nat) (s : State) : State :=
  s.gate p 0x40000 true
    [(s.on R.NVS_CFG_BP_LOCK 0 && (bitsOf data 4 2 != s.rd R.NVS_CFG_BP 0 || bitsOf data 0 1 != s.rd R.NVS_CFG_PAGE_MODE 0), .protected')]
    fun s =>
      let s := if bitAt data 31 then s.wr R.NVS_CFG_BP_LOCK 0 1 else s
      ((s.wr R.NVS_CFG_BP 0 (bitsOf data 4 2)).wr R.NVS_CFG_PAGE_MODE 0 (bitsOf data 0 1)).nvsFw

/-! ### STORE and RECALL (R543 to R547) -/

/-- Whether sequence `a` is greater than `b` modulo 2^32 (R428, R543). -/
def seqAfter (a b : Nat) : Bool := a != b && decide ((a + 2 ^ 32 - b) % 2 ^ 32 < 2 ^ 31)

/-- A bank by number: 0 X, 1 Y. -/
def Nvs.bank (x : Nvs) (b : Nat) : Bank := if b = 0 then x.bankX else x.bankY
/-- Change a bank. -/
def Nvs.setBank (x : Nvs) (b : Nat) (k : Bank) : Nvs := if b = 0 then { x with bankX := k } else { x with bankY := k }

/-- The newer complete bank (R543). -/
def Nvs.newer (x : Nvs) : Option Nat :=
  match x.bankX.mark, x.bankY.mark with
  | some a, some b => some (if seqAfter b a then 1 else 0)
  | some _, none => some 0
  | none, some _ => some 1
  | none, none => none

/-- NVS.STAT.BANK and NVS.STORE_SEQ show the newer complete bank. -/
def State.nvsShow (s : State) : State :=
  match s.nvs.newer with
  | some b => (s.wr R.NVS_STAT_BANK 0 b).wr R.NVS_STORE_SEQ_SEQ 0 ((s.nvs.bank b).mark.getD 0)
  | none => (s.wr R.NVS_STAT_BANK 0 0).wr R.NVS_STORE_SEQ_SEQ 0 0

/-- A STORE starts: the mark of the bank it writes is invalidated (R544). -/
def State.storeStart (s : State) (st : Nat) : State :=
  let b := match s.nvs.newer with
    | some 0 => 1
    | _ => 0
  ((s.setNvs fun x => { x.setBank b { x.bank b with mark := none } with target := b }).nvsEnter st).nvsShow

/-- A STORE request outside a register write; in any state other than READY nothing starts (R545). -/
def State.storeReq (s : State) : State := if s.nvsState = nsREADY then s.storeStart nsSTORE else s

/-- A write of NVS.CTL (R545, R547). -/
def nvsCtlWrite (p data : Nat) (s : State) : State :=
  s.gate p 0x40004 true [((bitAt data 0 || bitAt data 1) && s.nvsState != nsREADY, .notReady)] fun s =>
    if bitAt data 0 then s.storeStart nsSTORE else if bitAt data 1 then s.nvsEnter nsRECALL else s

/-- A STORE-now operation of the management port is complete once the copy is (R545, R637): BUSY goes to 0. -/
def State.portsIdle (s : State) : State :=
  { s with ports := s.ports.map (fun (e : Nat × PortStat) => (e.1, { e.2 with busy := false })) }

/-- The copy is written and its mark last (R544, R552). -/
def storeComplete (s : State) : State :=
  if s.nvsState = nsSTORE ∨ s.nvsState = nsAUTOSTORE then
    let s := s.portsIdle
    let auto := s.nvsState == nsAUTOSTORE
    let seq := match s.nvs.newer with
      | some b => ((s.nvs.bank b).mark.getD 0 + 1) % 2 ^ 32
      | none => 1
    let s := (s.setNvs fun x => x.setBank x.target ⟨x.sram, some seq⟩).nvsShow
    if auto then
      ((s.inc R.NVS_CNT_AUTO_COUNT 0).nvsEvent 1).nvsEnter (if s.on R.NVS_STAT_PF 0 then nsHOLD else nsREADY)
    else ((s.inc R.NVS_CNT_STORE_COUNT 0).nvsEvent 0).nvsEnter nsREADY
  else s

/-- The record of a store fault (R546, R554, R640): bank, address. -/
def State.nvsFault (s : State) (bank a : Nat) : State := s.flog 0 0x0017 .eccUncorr false ([bank] ++ leBytes 4 a)

/-- The store after a RECALL: the controller is READY, or stores at once while power still fails (R548, R552). -/
def State.recallEnd (s : State) : State :=
  let s := (s.nvsEnter nsREADY).nvsShow
  if s.on R.NVS_STAT_PF 0 then s.storeStart nsAUTOSTORE else s

/-- The SRAM is loaded (R546). -/
def State.recallLoad (s : State) (m : Memory) (old blank : Bool) : State :=
  let s := s.setNvs fun x => { x with sram := m }
  let s := (s.wr R.NVS_STAT_RECALLED_OLD 0 (b2n old)).wr R.NVS_STAT_BLANK 0 (b2n blank)
  (if old then s.nvsEvent 2 else s).recallEnd

/-- A RECALL finishes (R546): `badNewer` and `badOlder` are the addresses of uncorrectable words found in the two banks. -/
def recallComplete (badNewer badOlder : Option Nat) (s : State) : State :=
  if s.nvsState ≠ nsRECALL then s
  else match s.nvs.newer with
    | none => s.recallLoad [] false true
    | some b =>
      match badNewer with
      | none => s.recallLoad (s.nvs.bank b).mem false false
      | some a =>
        let s := s.nvsFault b a
        let o := s.nvs.bank (1 - b)
        if o.mark.isNone then s.recallLoad [] false true
        else match badOlder with
          | none => s.recallLoad o.mem true false
          | some a' => (s.nvsFault (1 - b) a').recallLoad [] false true

/-- The power-fail event (R548, R552). -/
def powerFail (s : State) : State :=
  let s := s.wr R.NVS_STAT_PF 0 1
  if s.nvsState = nsREADY then s.storeStart nsAUTOSTORE
  else if s.nvsState = nsSTORE then s.nvsEnter nsAUTOSTORE else s

/-- PF_N is released and the monitor clears (R551, R552). -/
def powerFailRelease (s : State) : State :=
  let s := s.wr R.NVS_STAT_PF 0 0
  if s.nvsState = nsHOLD then s.nvsEnter nsREADY else s

/-- An uncorrectable word that a scan finds in bank `b` (R554). -/
def State.scanBad (s : State) (b : Nat) : Option Nat → State
  | none => s
  | some a =>
    let s := s.nvsFault b a
    if s.nvs.newer = some b then s.storeReq
    else (s.setNvs fun x => x.setBank b { x.bank b with mark := none }).nvsShow

/-- A scan of both banks completes (R553, R554): `refreshed` words were rewritten; `badX` and `badY` are uncorrectable words. -/
def marginScan (refreshed : Nat) (badX badY : Option Nat) (s : State) : State :=
  let s := (s.wr R.NVS_SCAN_REFRESHED 0 (min refreshed 0xFFFF)).setNvs fun x => { x with scanAt := some s.now }
  let s := if 0 < refreshed then s.nvsEvent 3 else s
  (s.scanBad 0 badX).scanBad 1 badY

/-- NVS.SCAN.AGE_H: hours since the last complete scan, saturating. -/
def State.scanAge (s : State) : Nat :=
  match s.nvs.scanAt with
  | some t => min 0xFFFF ((s.now - t) / 3600000000000)
  | none => 0xFFFF

/-! ### Records (R555 to R558) -/

/-- A record: its address, TAG, SEQ and payload. -/
structure Record where
  addr : Nat
  tag : Nat
  seq : Nat
  payload : List Nat
deriving DecidableEq, Repr

/-- The scan of a log of `len` bytes at `base` from position `p` (R556): the valid records in order, and the addresses of the invalid. -/
def scanLog (m : Memory) (base len : Nat) : Nat → Nat → List Record × List Nat
  | 0, _ => ([], [])
  | fuel + 1, p =>
    let h := memReadBytes m (base + p) 8
    let tag := leField h 0 2
    let n := leField h 2 2
    let size := 12 + 4 * ceilDiv n 4
    if len < p + 4 ∨ tag = 0 ∨ tag = 0xFFFF ∨ 4080 < n ∨ len < p + size then ([], [])
    else
      let body := memReadBytes m (base + p) (size - 4)
      let rest := scanLog m base len fuel (p + size)
      if leVal (memReadBytes m (base + p + size - 4) 4) = crc32c body then
        (⟨base + p, tag, leField h 4 4, (body.drop 8).take n⟩ :: rest.1, rest.2)
      else (rest.1, (base + p) :: rest.2)

/-- The current record of a tag (R557). -/
def currentRec (l : List Record) (tag : Nat) : Option Record :=
  l.foldl (fun (a : Option Record) r => if r.tag ≠ tag then a else match a with
    | none => some r
    | some b => if seqAfter b.seq r.seq then some b else some r) none

/-- The factory log and the log of the active space (R558). -/
def State.factoryLog (s : State) : List Record × List Nat := scanLog s.nvs.sram 0 0x8000 2731 0
def State.activeLog (s : State) : List Record × List Nat :=
  scanLog s.nvs.sram (if s.nvsWord 0x8000 = 1 then 0x44000 else 0x8100) 245504 20459 0

/-- NVS_DATA_WRITE. -/
def execNvsDataWrite (p addr data : Nat) (s : State) : Res := .next (nvsDataWrite p addr data s)
/-- NVS_PORT_DATA_ACCESS. -/
def execNvsPortDataAccess (p : Nat) (write : Bool) (data : Nat) (s : State) : Res := .next (nvsPortData p write data s)
/-- NVS_CFG_WRITE. -/
def execNvsCfgWrite (p data : Nat) (s : State) : Res := .next (nvsCfgWrite p data s)
/-- NVS_STORE: a write of NVS.CTL with STORE. -/
def execNvsStore (p data : Nat) (s : State) : Res := .next (nvsCtlWrite p (setBit data 0) s)
/-- NVS_RECALL: a write of NVS.CTL with RECALL alone. -/
def execNvsRecall (p data : Nat) (s : State) : Res := .next (nvsCtlWrite p (setBit (clearBits data 1) 1) s)
/-- STORE_COMPLETE. -/
def execStoreComplete (s : State) : Res := .next (storeComplete s)
/-- RECALL_COMPLETE. -/
def execRecallComplete (badNewer badOlder : Option Nat) (s : State) : Res := .next (recallComplete badNewer badOlder s)
/-- POWER_FAIL. -/
def execPowerFail (s : State) : Res := .next (powerFail s)
/-- POWER_FAIL_RELEASE. -/
def execPowerFailRelease (s : State) : Res := .next (powerFailRelease s)
/-- MARGIN_SCAN. -/
def execMarginScan (refreshed : Nat) (badX badY : Option Nat) (s : State) : Res := .next (marginScan refreshed badX badY s)

end Sys2Proof.Machine
end

