-- ==== Sys2Proof/Machine/Domains.lean ====
section
/-! DEFINITION. Power and reset domains (18_reset_power_up_modes.md, R617 to R625): idleness, the requests of MGT.DOM_CTL, and what the reset of
each domain does. -/

namespace Sys2Proof.Machine

open Sys2Proof

/-! ### The image values of registers (R623) -/

/-- Keep the image fields as they stand, what a domain reset will load (R623), and the power-on crosspoints (R563). -/
def State.imageSave (s : State) : State :=
  { s with image := s.regs.filter (fun e => R.imageFlds.any (fun f => Fld.key f == e.1) || e.1 == Fld.key R.PLZ_SEL_LIVE_SEL) }

/-- The registers of unit `u` in a range return to reset, with their image values. -/
def State.resetUnit (s : State) (lo hi u : Nat) : State := (s.clearUnit lo hi u).imageUnit lo hi u

/-! ### Domains (R617 to R619) -/

/-- Every domain of R617 but the management island. -/
def allDomains : List Nat :=
  upFrom 1 8 ++ [0x10, 0x11] ++ upFrom 0x20 10 ++ upFrom 0x40 32 ++ upFrom 0x80 105 ++ upFrom 0x100 96 ++ upFrom 0x180 96

/-- Whether SLEEP and OFF are states of a domain, and whether it is reset alone (R617). -/
def domSleeps (d : Nat) : Bool := d == 6 || d == 7 || decide (0x10 ≤ d)
/-- Whether a request may switch a domain off. -/
def domOffs (d : Nat) : Bool := d == 6 || d == 7 || decide (0x20 ≤ d)
/-- Whether a domain is reset alone. -/
def domResets (d : Nat) : Bool := d == 5 || domSleeps d

/-- The jobs with a band on an engine, with their indices. -/
def State.engJobs (s : State) (k : Nat) : List (Nat × Job) := s.jobs.filter (fun e => e.2.engs.contains k)

/-- Whether every unit of a domain is idle (R618). The audio unit, the twin link controller and the core pairs have no lifecycle. -/
def State.domIdle (s : State) (d : Nat) : Bool :=
  if 0x20 ≤ d ∧ d ≤ 0x29 then (upFrom (16 * (d - 0x20)) 16).all (fun t => s.cueState t != cRUNNING && s.cueState t != cWAITING)
  else if 0x40 ≤ d ∧ d ≤ 0x5F then (s.engJobs (d - 0x40)).all (fun e => s.jobLc e.2 == lcSTOPPED)
  else if 0x80 ≤ d ∧ d ≤ 0xE8 then !s.on R.LNE_CTL_ENABLE (d - 0x80)
  else if 0x100 ≤ d ∧ d < 0x160 then s.rd R.INP_STAT_LC_STATE (d - 0x100) == lcSTOPPED
  else if 0x180 ≤ d ∧ d < 0x1E0 then s.rd R.OUT_STAT_LC_STATE (d - 0x180) == lcSTOPPED
  else true

/-! ### What the reset of a domain does (R623) -/

/-- A lane: counters clear, LNE.CTL and the framer take their image values, the receiver restarts in DISABLED; bypass route and equalisation stay. QUAD of
a head may change with it (R178). -/
def State.laneReset (s : State) (i : Nat) : State :=
  let act := s.rd R.LNE_BYPASS_STAT_ACTIVE i
  let src := s.rd R.LNE_BYPASS_STAT_SRC i
  let quad := s.on R.LNE_SDI_CFG_QUAD i
  let s := { (s.laneStop i).resetUnit 0x100000 0x101000 i with laneX := tdel s.laneX i }
  let s := (s.wr R.LNE_BYPASS_STAT_ACTIVE i act).wr R.LNE_BYPASS_STAT_SRC i src
  let s := if i = 96 then s.wr R.LNE_GL_CFG_WIDTH 96 8 else s
  let h := i / 4 * 4
  if 96 ≤ i then s
  else if i = h ∧ s.on R.LNE_SDI_CFG_QUAD h ≠ quad then s.quadChange h
  else s.wr R.LNE_SDI_STAT_QUAD_STATE i (if !s.quadOn i then 0 else if i = h then 1 else 3)

/-- Detection restarts at the end of a reset of the port (R675): FMT_DET is clear; ACQUIRING where a picture reaches the port, counted from the first
frame whose line 1 arrives from now on. -/
def State.detectRestart (s : State) (n : Nat) : State :=
  let s := (s.wr R.INP_FMT_DET_FMT n 0).setPort n fun x => { x with cand := none, run := 0, seen := false }
  let here := !s.quadMember n && s.rd R.LNE_SDI_STAT_FR_STATE n == frALIGNED && (!s.quadOn n || (s.lane n).quadOk)
  s.wr R.INP_STAT_IN_STATE n (if here then inACQUIRING else inNO_SIGNAL)

/-- An input port: STOPPED; its store is released under R211, INP.IFC continues, detection stops until the reset ends (R675). -/
def State.inpReset (s : State) (n : Nat) : State :=
  let ifc := s.rd R.INP_IFC_COUNT n
  let s := (s.inpStopped n).resetUnit 0x200000 0x201000 n
  let s := s.wr R.INP_IFC_COUNT n ifc
  let s := if 0 < (s.port n).slots then s.wr R.INP_STORE_KIB n ((s.port n).slots * (s.port n).slotBytes / 1024) else s
  let s := { s with staged := s.staged.filter (fun x => match x.ent.key with | .sync h _ => hIdx h != n | _ => true) }
  let s := s.setPort n fun x => { x with cand := none, run := 0, seen := false, writing := none, skipping := false, mismTold := [], fitTold := [],
                                         conflTold := [], lossAt := none, fellBack := false, tcMiss := 0, tcPrev := none, tcNow := none, filters := [] }
  s.beginLoss n

/-- Whether a stage key belongs to pipeline `n`. -/
def keyOnPipe (n : Nat) : StageKey → Bool
  | .layer m _ | .uc m | .om m | .skim m _ => m == n
  | _ => false

/-- An output pipeline: STOPPED from the line after the one in progress, which leaves; charges, fetch units and decode slots released, live and staged values
at reset. -/
def State.outReset (s : State) (n : Nat) : State :=
  let s := (((s.outFlush n).txEnd n).outStopped n).resetUnit 0x500000 0x504000 n
  let s := if (s.obj kSkim n).live then s.wr R.OUT_SKIM_SET_HANDLE n (s.handleOf kSkim n) else s
  let s : State := { s with pipeX := tdel s.pipeX n, aFrames := tdel s.aFrames n, inUse := tdel s.inUse n,
                            staged := s.staged.filter (fun x => !keyOnPipe n x.ent.key),
                            lentFetch := s.lentFetch.filter (fun e => e.1 / 8 != n), lentJxs := s.lentJxs.filter (fun e => e.1 / 8 != n) }
  s.poolShow.selectLeft s n

/-- An Arcade engine: FAILED clears, every job with a band on it goes STOPPED and reads bank A. -/
def State.engReset (s : State) (k : Nat) : State :=
  let one := fun (s : State) (e : Nat × Job) =>
    let s := s.jobStopped e.1 e.2
    let s := ((s.jwr e.2 R.CVA_JOB_STAT_BANK_LIVE 0).jwr e.2 R.CVA_JOB_STAT_FORCE_LIVE 0).jwr e.2 R.CVA_JOB_STG_BANK 0
    let s := (s.jwr e.2 R.CVA_JOB_STG_FORCE 0).setJob e.1 fun j => { j with faulted := false, bank := s.loadBank e.2 0 }
    { s with staged := s.staged.filter (fun x => match x.ent.key with | .job h => hIdx h != e.1 | _ => true) }
  let s := (s.engJobs k).foldl one s
  (s.clearUnit 0x400000 0x402000 k).enginesShow

/-- A cue engine: its 16 threads go UNBOUND, and the events it has received are gone; COMMITs already accepted stand. -/
def State.cueReset (s : State) (e : Nat) : State :=
  ((upFrom (16 * e) 16).filter s.threadPresent).foldl (fun s t => { s.clearUnit 0x800000 0x800100 t with cueX := tdel s.cueX t })
    { s with engEvt := s.engEvt.filter (fun x => x.1 / 16 ≠ e) }

/-- The audio unit: routes keep their handles with values at reset, histories read zero, slots are unbound, the grid counts from 0 (R110). -/
def State.audReset (s : State) : State :=
  let s := (upFrom 0 96).foldl (fun s n => s.imageUnit 0x700000 0x800000 n) (s.clearBlock 0x700000 0x800000)
  let fade := fun (s : State) (r : Nat) => { s with routeX := tput s.routeX r ⟨0xFFF, ⟨0, 0, 1048576, false⟩, none, 480, 1048576, 240, 0, 0, none⟩ }
  let s := (s.routeX.map (·.1)).foldl fade s
  let s := s.wr R.AUD_INFO_ROUTES 0 s.routeX.length
  let s : State := { s with grpX := [], lipX := [], aHist := [], npHist := [], aFrames := [], insX := [], tapX := [],
                            staged := s.staged.filter (fun x => match x.ent.key with | .route _ _ => false | _ => true) }
  s.gridClear.gridShow

/-- The host interface: every session of every function closes, MB8 to MB11 are flushed, the epoch of the physical function increments. -/
def State.hostReset (s : State) : State := (((upFrom 0 16).foldl State.closeFn s).flushDomain 5).senderReset 3

/-- The twin link controller: the bundle goes DOWN, its mailboxes are flushed, a new boot nonce is chosen. -/
def State.twinReset (s : State) : State :=
  let s := (s.linkDown 96 4).eachLane (bundleOf 96) fun j s =>
    (s.wr R.LNE_GL_STAT_LINK_STATE j glDOWN).setLane j fun x => { x with retry := true }
  let s := (s.flushDomain 6).resetUnit 0x60000 0x70000 0
  { s with twnX := { TwnX.reset with nonce := Config.nonce s.free }, free := s.free + 1, xfeed := [], recs := [], evid := [], ifcMap := [],
           swPend := [], decOwn := false, mbAir := [] }.netShow

/-- The pair that serves the admin queues: pair 0 while it runs, else pair 1. -/
def State.serving (s : State) : Nat := if bitAt s.pairStop 0 then 1 else 0

/-- A control core pair: the commands it had taken finish with NOT_READY, its mailboxes are flushed, its epoch increments, its locks are freed;
it has to rejoin. -/
def State.coreReset (s : State) (k : Nat) : State :=
  let s := if s.serving = k then s.taken.foldl (fun s e => s.complete e.1 e.2 .notReady 0 0) s else s
  let s := (s.flushDomain (0x10 + k)).senderReset (1 + k)
  { s with pairStop := setBit s.pairStop k, modeFrom := if s.serving = k then 0 else s.modeFrom }

/-- The reset of a domain that is reset alone (R623). -/
def State.domainLoad (s : State) (d : Nat) : State :=
  if d = 5 then s.hostReset
  else if d = 6 then s.twinReset
  else if d = 7 then s.audReset
  else if d = 0x10 ∨ d = 0x11 then s.coreReset (d - 0x10)
  else if 0x20 ≤ d ∧ d ≤ 0x29 then s.cueReset (d - 0x20)
  else if 0x40 ≤ d ∧ d ≤ 0x5F then s.engReset (d - 0x40)
  else if 0x80 ≤ d ∧ d ≤ 0xE8 then s.laneReset (d - 0x80)
  else if 0x100 ≤ d ∧ d < 0x160 then s.inpReset (d - 0x100)
  else if 0x180 ≤ d ∧ d < 0x1E0 then s.outReset (d - 0x180)
  else s

/-- What begins when a domain is ON after a reset: an enabled lane starts as a write of ENABLE would start it (R128), a port detects (R675). DESIGN
CHOICE (assumption 146): R623 leaves the receiver in DISABLED during the reset and names no command that starts it again. -/
def State.domainBegin (s : State) (d : Nat) : State :=
  if 0x80 ≤ d ∧ d ≤ 0xE8 then
    (if s.on R.LNE_CTL_ENABLE (d - 0x80) && s.modeCode != mBOOT && s.lanePresent (d - 0x80) then s.laneStart (d - 0x80) else s)
  else if 0x100 ≤ d ∧ d < 0x160 then s.detectRestart (d - 0x100)
  else s

/-- A reset is counted and raises DOMAIN (R617). -/
def State.domCount (s : State) (d st : Nat) : State :=
  (s.setDom d { s.domain d with st := st, resets := satAdd 8 (s.domain d).resets 1, forced := false }).mgtEvent 0

/-- A reset of a domain (R618, R625): one in RESET merges with the reset in progress, one that is OFF waits for it to leave OFF. -/
def State.domainReset (s : State) (d : Nat) : State :=
  if (s.domain d).st = 2 ∨ (s.domain d).st = 3 then s else (s.domainLoad d).domCount d 3

/-- DOMAIN_RESET_END: the reset ends (R618); the host interface stays held while PERST_N is low (R628), every domain while a rail is out of
range (R644). -/
def domainResetEnd (d : Nat) (s : State) : State :=
  if (s.domain d).st ≠ 3 ∨ !s.pins.railsOk ∨ (d = 5 ∧ (!s.pins.perstHigh ∨ s.modeCode = mBOOT ∧ !s.on R.SEC_BOOT_STAT_FUSE_OK 0)) then s
  else (s.setDom d { s.domain d with st := 0 }).domainBegin d

/-- A domain is switched on (R618): from SLEEP its clocks restart, from OFF it is reset. -/
def State.domainOn (s : State) (d : Nat) : State :=
  if (s.domain d).st = 1 then s.setDom d { s.domain d with st := 0 }
  else if (s.domain d).st = 2 then ((s.domainLoad d).domCount d 0).domainBegin d
  else s

/-- A domain sleeps: its clocks stop, its state is kept (R618). -/
def State.domainSleep (s : State) (d : Nat) : State :=
  if (s.domain d).st = 0 then s.setDom d { s.domain d with st := 1 } else s

/-- A domain is switched off: its state is lost and its mailboxes are flushed (R618, R525). -/
def State.domainOff (s : State) (d : Nat) (forced : Bool) : State :=
  let s := (s.domainLoad d).flushDomain d
  s.setDom d { s.domain d with st := 2, forced := forced }

/-- The checks of a domain request (R619, R620): 0 reset, 1 ON, 2 SLEEP, 3 OFF. -/
def State.domChecks (s : State) (d req : Nat) : List (Bool × Status) :=
  let there := isDomain d && s.domPresent d
  let allowed := if req = 0 then domResets d else if req = 2 then domSleeps d else if req = 3 then domOffs d else true
  [ (!isDomain d || (there && !allowed), .decode), (isDomain d && !there, .unitAbsent),
    (there && decide (req = 2 ∨ req = 3) && (s.domain d).st == 0 && !s.domIdle d, .unitRunning),
    (req == 2 && (d == 0x10 || d == 0x11) && ((s.domain (0x21 - d)).st != 0 || bitAt s.pairStop (0x11 - d)), .busy),
    (req == 1 && there && (s.domain d).forced, .mode) ]

/-- A write of MGT.DOM_CTL with a request for the selected domain (R618, R619). -/
def domRequest (p req : Nat) (s : State) : State :=
  let d := s.rd R.MGT_DOM_SEL_DOMAIN 0
  s.gate p 0x10014 true (s.domChecks d req) fun s =>
    if req = 0 then s.domainReset d else if req = 1 then s.domainOn d else if req = 2 then s.domainSleep d
    else if (s.domain d).st = 0 then s.domainOff d false else s

/-- DOMAIN_RESET. -/
def execDomainReset (p : Nat) (s : State) : Res := .next (domRequest p 0 s)
/-- DOMAIN_ON. -/
def execDomainOn (p : Nat) (s : State) : Res := .next (domRequest p 1 s)
/-- DOMAIN_SLEEP. -/
def execDomainSleep (p : Nat) (s : State) : Res := .next (domRequest p 2 s)
/-- DOMAIN_OFF. -/
def execDomainOff (p : Nat) (s : State) : Res := .next (domRequest p 3 s)
/-- DOMAIN_RESET_END. -/
def execDomainResetEnd (d : Nat) (s : State) : Res := .next (domainResetEnd d s)

end Sys2Proof.Machine
end

