-- ==== Sys2Proof/Machine/Modes.lean ====
section
/-! DEFINITION. Operating modes, device resets, LIMP, SERVICE, temperature and the first steps of power-up (18_reset_power_up_modes.md; R67 to R70
of 01_architecture.md; R644). The end of BOOT is in Machine/Defaults.lean and Machine/Security.lean. -/

namespace Sys2Proof.Machine

open Sys2Proof

/-! ### Changing the mode (R68, R629, R630) -/

/-- The mode changes: MODE is raised, the transmitters follow (R630). -/
def State.setMode (s : State) (m : Nat) : State :=
  let s := (s.wr R.MGT_MODE_MODE 0 m).wr R.MGT_MODE_PENDING 0 0
  let s := if m = mRUN then s.wr R.MGT_MODE_RUN_SEEN 0 1 else s
  s.mgtEvent 2

/-- Every thread that is RUNNING or WAITING stops (R417). -/
def State.stopThreads (s : State) : State := (s.cueX.map (·.1)).foldl State.cueStop s

/-- The threads that are RUNNING or WAITING on a timeline. -/
def State.threadsOn (s : State) (t : Nat) : List Nat :=
  (s.cueX.map (·.1)).filter fun k => (s.cueState k == cRUNNING || s.cueState k == cWAITING) && s.cueTln k == t

/-- A frame of timeline `t` ends while the device goes to IDLE: its threads stop (R68, R417). -/
def State.modeFrameEnd (s : State) (t : Nat) : State :=
  if s.modePending && s.rd R.MGT_MODE_TARGET 0 == mIDLE then (s.threadsOn t).foldl State.cueStop s else s

/-- Pipelines and jobs are asked to stop at their frame ends (R68). -/
def State.stopOutputs (s : State) : State :=
  let s := (upFrom 0 s.lanes).foldl State.outStopReq s
  s.jobs.foldl (fun s e => s.jobStopReq e.1 e.2) s

/-- Input ports are asked to stop (R68, R630). -/
def State.stopInputs (s : State) : State := (upFrom 0 s.lanes).foldl State.inpStopReq s

/-- Whether a pipeline, job or thread on a running timeline has not stopped yet. -/
def State.outputsRun (s : State) : Bool :=
  (upFrom 0 s.lanes).any (fun n => s.rd R.OUT_STAT_LC_STATE n != lcSTOPPED && s.tlnRuns (s.rd R.OUT_TMG_FMT_TLN n))
    || s.jobs.any (fun e => s.jobLc e.2 != lcSTOPPED && s.tlnRuns e.2.tln)
    || (upFrom 0 16).any (fun t => s.tlnRuns t && !(s.threadsOn t).isEmpty)

/-- Pipelines and jobs stop at once. -/
def State.haltOutputs (s : State) : State :=
  let s := ((upFrom 0 s.lanes).filter (fun n => s.rd R.OUT_STAT_LC_STATE n != lcSTOPPED)).foldl State.outStopped s
  (s.jobs.filter (fun e => s.jobLc e.2 != lcSTOPPED)).foldl (fun s e => s.jobStopped e.1 e.2) s

/-- Every loopback returns to 0 (R144). -/
def State.loopsOff (s : State) : State := (upFrom 0 105).foldl (fun s i => s.wr R.LNE_LOOP_SEL i 0) s

/-- A transition begins (R630): PENDING is 1 and what stops is asked to stop; threads stop at the next frame end of their timeline. Leaving SERVICE returns every loopback to 0 (R144); leaving MIRROR
stops all units (R68). -/
def State.modeBegin (s : State) (tgt : Nat) : State :=
  let was := s.modeCode
  let s := (s.wr R.MGT_MODE_TARGET 0 tgt).wr R.MGT_MODE_PENDING 0 1
  if tgt ≠ mIDLE then s
  else if was = mRUN then s.stopOutputs
  else if was = mMIRROR then s.stopOutputs.stopInputs
  else s.loopsOff.stopOutputs.stopInputs

/-- The power-on programs start, in record-tag order, at the first entry to RUN (R446). -/
def State.powerOnRun (s : State) : State :=
  let s := s.powerOn.foldl (fun s t => if s.cueSess t = 0 ∧ s.cueState t = cSTOPPED then s.cueStart t else s) s
  { s with powerOn := [] }

/-- The objects created in SERVICE are destroyed as by DESTROY (R630). -/
def State.serviceEnd (s : State) : State :=
  let mine := (s.objs.filter (fun e => e.2.live && e.2.service && !e.2.draining && !isFixed (e.1 / 2 ^ 20) && e.1 / 2 ^ 20 != kSession
    && !s.jobSurface (e.1 / 2 ^ 20) (e.1 % 2 ^ 20))).map (·.1)
  mine.foldl (fun s k => if (s.obj (k / 2 ^ 20) (k % 2 ^ 20)).live then (s.destroyObj (k / 2 ^ 20) (k % 2 ^ 20)).1 else s) s

/-- A transition in progress completes its MODE_SET with a status and the mode in force (R629). -/
def State.modeAnswer (s : State) (st : Status) : State :=
  let f := s.modeFrom - 1
  let s' := { s with modeFrom := 0 }
  match if s.modeFrom = 0 then none else tfind s.taken f with
  | some t => s'.complete f t st 0 (if st = .ok then s.modeCode else 0)
  | none => s'

/-- The transition in progress is complete (R630); a loopback set while it was pending returns to 0 too (R144). -/
def modeTransitionDone (s : State) : State :=
  let tgt := s.rd R.MGT_MODE_TARGET 0
  if !s.modePending || (tgt == mIDLE && s.outputsRun) then s
  else
    let was := s.modeCode
    let s := if tgt = mIDLE then s.haltOutputs.stopThreads else s
    let s := s.setMode tgt
    let s := if was = mSERVICE then s.loopsOff.serviceEnd else s
    let s := if tgt = mRUN then s.powerOnRun else s
    s.activeSoon.modeAnswer .ok

/-! ### LIMP (R632, R153) -/

/-- The LIMP bypass map (R153): targets that have a bypass keep it; an entry that fails is skipped and logged. -/
def State.limpMapApply (s : State) : State :=
  (upFrom 0 96).foldl (fun s t =>
    let b := s.limpMap.getD t 0
    if b < 128 ∨ s.on R.LNE_BYPASS_STAT_ACTIVE t then s
    else
      let r := s.bypassOp t (b % 128) true
      if r.2 = .ok then r.1 else r.1.flog 0 0x0005 r.2 false [t, b % 128]) s

/-- Domains that LIMP switches off: all but the island, the lanes, the reference unit and the host interface (R632). -/
def limpOff : List Nat := allDomains.filter (fun d => !(d == 3 || d == 5 || (decide (0x80 ≤ d) && decide (d ≤ 0xE8))))

/-- Domains are switched off by LIMP or a trip: they lose their state (R620). -/
def State.forceOff (s : State) (ds : List Nat) : State := (ds.filter s.domPresent).foldl (fun s d => s.domainOff d true) s

/-- Every MODE_SET that waits its turn fails with SC_MODE (R70). -/
def State.modeQueueFail (s : State) : State :=
  (s.taken.filter (fun e => e.2.opcode == 0x80)).foldl (fun s e => s.complete e.1 e.2 .mode 0 0) s

/-- Entry to LIMP (R632): the fault record, everything stopped and off, the reference unit frozen (R485), the bypass map unless a trip
took the lanes as well (R634). A MODE_SET in progress fails (R70). -/
def State.enterLimp (s : State) (cause : Nat) : State :=
  if s.modeCode = mLIMP then s
  else
    let s := s.flog 0 0x0014 .ok true [cause]
    let s := ((s.modeAnswer .mode).modeQueueFail).stopThreads.haltOutputs
    let s := if s.modeCode = mSERVICE then s.loopsOff else s
    let s := (s.forceOff limpOff).wr R.MGT_MODE_LIMP_CAUSE 0 cause
    let s := (upFrom 0 16).foldl (fun s t => if s.rd R.REF_TLN_STAT_STATE t = 0 then s else s.tlnStop t) { s with hbm := [], unfenced := [] }
    let s := s.wr R.MGT_MODE_MODE 0 mLIMP
    let s := if cause = 8 then s else s.limpMapApply
    (s.setMode mLIMP).activeShow

/-- MODE_SET, opcode 0x0080 (R629). -/
def modeSet (f : Nat) (payload : List Nat) (s : State) : State :=
  match tfind s.taken f with
  | none => s
  | some t =>
    let tgt := leField t.inl 0 1
    let m := s.modeCode
    let allowed := tgt == mLIMP || (m == mIDLE && (tgt == mRUN || tgt == mSERVICE)) || (tgt == mIDLE && (m == mRUN || m == mSERVICE || m == mMIRROR))
    if t.opcode ≠ 0x80 ∨ s.modePending then s
    else
      let st := check ([ (decide (5 < tgt) || tgt == 0, .decode), inlZero t 1, (tgt == mMIRROR && !s.twin, .unitAbsent), (!allowed, .mode),
        (f != 0, .protected') ] ++ s.admChecks f t 0 0 payload true true)
      if st ≠ .ok then s.complete f t st 0 0
      else if tgt = mLIMP then (({ s with taken := tdel s.taken f } : State).enterLimp 7).complete f t .ok 0 mLIMP
      else
        let s : State := if m = mMIRROR then s.unpair else s
        { s.modeBegin tgt with modeFrom := f + 1 }

/-- A control core pair stops (R62): both stopped is LIMP. -/
def State.pairStopped (s : State) (k : Nat) : State :=
  let s := { s.flog (0x10 + k) 0x0012 .ok true [k] with pairStop := setBit s.pairStop k }
  if bitAt s.pairStop 0 && bitAt s.pairStop 1 then s.enterLimp 5 else s

/-- LOCKSTEP_SPLIT: a pair splits, or meets an uncorrectable word of its firmware and control data (R62, R679). -/
def lockstepSplit (k : Nat) (ecc : Option Nat) (s : State) : State :=
  if 2 ≤ k ∨ bitAt s.pairStop k then s
  else
    let s := match ecc with
      | some a => s.flog (0x10 + k) 0x0010 .eccUncorr true (sramArg 7 k a)
      | none => s.flog (0x10 + k) 0x0011 .ok true [k]
    s.pairStopped k

/-- PAIR_REJOIN: a reset pair has copied the firmware state from the other and runs again (R623). -/
def pairRejoin (s : State) : State :=
  let back := fun (k : Nat) => bitAt s.pairStop k && !bitAt s.pairStop (1 - k) && (s.domain (0x10 + k)).resets != 0 && (s.domain (0x10 + k)).st == 0
  if back 0 then { s with pairStop := clearBits s.pairStop 1 } else if back 1 then { s with pairStop := clearBits s.pairStop 2 } else s

/-! ### Resets of the device (R621, R622) -/

/-- The registers a device reset keeps: the management island's MGT and NVS blocks (R621), and SEC.BOOT_NEXT (R606). -/
def State.keptRegs (s : State) : RegFile :=
  s.regs.filter (fun e =>
    let b := e.1 / 32
    (decide (0x10000 ≤ b) && decide (b < 0x20000)) || (decide (0x40000 ≤ b) && decide (b < 0x50000)) || b == R.SEC_BOOT_NEXT_VALID.base)

/-- The fuses when a burn is cut off: the bit being blown reads either way (R609). -/
def State.burnCut (s : State) : Fuses :=
  if s.on R.SEC_ROLLBACK_BURN 0 ∧ Config.burnt s.free = 1 then { s.fuses with rollback := min 64 (s.fuses.rollback + 1) } else s.fuses

/-- A device reset (R621): every domain but the island at reset values, and BOOT. -/
def State.deviceResetNow (s : State) (cause : Nat) : State :=
  let r := State.reset
  let keep := s.keptRegs
  let pins : Pins := { s.pins with thermTrip := false, coolWait := 0, netLow := s.pins.side && s.pins.netLow }
  let doms : Tab Dom := (allDomains.filter s.domPresent).foldl (fun t k => tput t k ⟨0, satAdd 8 (s.domain k).resets 1, false⟩) []
  let regs : RegFile := r.regs.foldl (fun rf e => tput rf e.1 e.2) keep
  let d : State := { r with fuses := s.burnCut, pins := pins, now := s.now, regs := regs, outs := s.outs,
                            nvs := s.nvs, temps := s.temps, ports := s.ports, warned := s.warned, free := s.free + 1, pending := s.pending,
                            dom := doms }
  let d := ((d.wr R.MGT_MODE_RUN_SEEN 0 0).wr R.MGT_MODE_LIMP_CAUSE 0 0).wr R.MGT_MODE_TARGET 0 0
  let d := ((d.wr R.MGT_MODE_MODE 0 mBOOT).wr R.MGT_MODE_PENDING 0 0).wr R.MGT_SVC_STATE 0 0
  let d := ((d.wr R.MGT_BOOT_TIME_TOTAL_MS 0 0).wr R.MGT_BOOT_TIME_IMAGE_MS 0 0).wr R.MGT_BOOT_TIME_TRAIN_MS 0 0
  let d := (d.addSat R.MGT_RST_CAUSE_COUNT 0 0 1).wr R.MGT_RST_CAUSE_CAUSE 0 cause
  let d := d.mgtEvent 0
  if s.modeCode = mBOOT then d else d.mgtEvent 2

/-- The hottest sensor and its temperature, in steps of 0.125 °C. -/
def State.hottest (s : State) : Nat × Int :=
  (upFrom 1 15).foldl (fun a k => if a.2 < sext 16 (tget 0 s.temps k) then (k, sext 16 (tget 0 s.temps k)) else a) (0, sext 16 (tget 0 s.temps 0))

/-- Whether the die is at or above WARN_C (R633, R634). -/
def State.isHot (s : State) : Bool := decide (((8 * s.rd R.MGT_THERM_WARN_C 0 : Nat) : Int) ≤ s.hottest.2)

/-- A device reset is requested (R621); above WARN_C it is held (R634). -/
def State.deviceReset (s : State) (cause : Nat) : State :=
  if s.isHot then { s with pins := { s.pins with coolWait := cause } } else s.deviceResetNow cause

/-- DEVICE_RESET: a write of MGT.DOM_CTL with DEVICE. -/
def deviceReset (p data : Nat) (s : State) : State :=
  s.gate p 0x10014 true [(bitsOf data 16 8 != 0x5A, .decode)] fun s => s.deviceReset 3

/-- The state at the release of PORST_N: everything at reset but the fuses, the nonvolatile banks and the pins (R622). -/
def State.coldStart (s : State) (pins : Pins) : State :=
  { State.reset with fuses := s.burnCut, pins := pins, nvs := { s.nvs with sram := [], scanAt := none }, outs := s.outs, free := s.free + 1,
                     pending := s.pending }

/-- POWER_UP: PORST_N rises; the straps are sampled (R622, R626). -/
def powerUp (boardId : Nat) (side : Bool) (s : State) : State :=
  let net := side && s.pins.netLow
  s.coldStart { s.pins with boardId := boardId % 16, side := side, railsOk := true, thermTrip := false, coolWait := 0, netLow := net }

/-- POWER_LOST: the device stops (R552); side A no longer pulls ACTIVE_N. -/
def powerLost (s : State) : State :=
  s.coldStart { s.pins with railsOk := false, thermTrip := false, coolWait := 0, netLow := s.pins.side && s.pins.netLow }

/-- RAILS_IN_RANGE (R644): with a rail out of range every domain but the island is held in reset; once all are in range the sequence goes on.
`vcapOk` is what the store controller sees of its capacitor. -/
def railsInRange (inRange vcapOk : Bool) (s : State) : State :=
  let s := s.wr R.NVS_STAT_VCAP_OK 0 (b2n vcapOk)
  if s.modeCode ≠ mBOOT ∨ s.bootStep ≠ 0 then s
  else
    let t := allDomains.foldl (fun t d => tput t d (⟨if inRange then 0 else 3, (s.domain d).resets, false⟩ : Dom)) s.dom
    { s with pins := { s.pins with railsOk := inRange }, dom := t }

/-- PERST_RISE (R628): after the end of fuse load the host interface domain is reset alone. -/
def perstRise (s : State) : State :=
  let s : State := { s with pins := { s.pins with perstHigh := true } }
  if s.on R.SEC_BOOT_STAT_FUSE_OK 0 then
    (if (s.domain 5).st = 3 then s.setDom 5 { s.domain 5 with st := 0 } else s.domainReset 5)
  else s

/-- PERST_FALL (R628): the host interface domain is held in reset; its sessions close (R83). -/
def perstFall (s : State) : State :=
  let s : State := { s with pins := { s.pins with perstHigh := false } }
  s.domainReset 5

/-- What a boundary-scan cell of lane `i` holds and reads as: 0 for an absent lane (R657). -/
def State.scanCell (s : State) (i : Nat) : Nat := if s.lanePresent i then tget 0 s.scanCells i % 2 else 0
/-- What the cell of lane `i` drives: nothing outside a boundary-scan test, and nothing for an absent lane (R657). -/
def State.scanDrive (s : State) (i : Nat) : Option Nat := if s.scanTest && s.lanePresent i then some (tget 0 s.scanCells i % 2) else none

/-- JTAG_TEST_LOGIC_RESET (R526, R527, R533): the debug sender is reset, and the boundary-scan cells drive nothing (R657, IEEE 1149.1). -/
def jtagReset (s : State) : State := { s.senderReset 5 with scanTest := false }

/-! ### Power-up (R626, R627) -/

/-- HBM_TRAIN_DONE: step 5 ends; channels that failed their second training end BOOT in LIMP (R627). -/
def hbmTrainDone (failed : List (Nat × Nat)) (ms : Nat) (s : State) : State :=
  if s.modeCode ≠ mBOOT ∨ !bitAt s.bootStep 0 ∨ bitAt s.bootStep 2 ∨ !s.pins.railsOk then s
  else
    let s := s.wr R.MGT_BOOT_TIME_TRAIN_MS 0 (min ms 63)
    if failed.isEmpty then { s with bootStep := setBit s.bootStep 2 }
    else (failed.foldl (fun s c => s.flog 1 0x0003 .ok true [c.1, c.2]) s).enterLimp 3

/-- LOCKSTEP_CHECK_DONE: step 6; a mismatch on both pairs ends BOOT in LIMP, on one pair it stops that pair (R62, R627). -/
def lockstepCheckDone (ok0 ok1 : Bool) (s : State) : State :=
  if s.modeCode ≠ mBOOT ∨ bitsOf s.bootStep 0 4 ≠ 7 then s
  else
    let split := fun (s : State) (k : Nat) => s.flog (0x10 + k) 0x0011 .ok true [k]
    if !ok0 && !ok1 then ((split (split s 0) 1).enterLimp 4)
    else
      let s := if ok0 then s else (split s 0).pairStopped 0
      let s := if ok1 then s else (split s 1).pairStopped 1
      { s with bootStep := setBit s.bootStep 3 }

/-! ### SERVICE tests (R631) -/

/-- Whether TEST may run on a domain: 0 and 1 on a unit's, 2 on the HBM's. -/
def svcFits (test d : Nat) : Bool :=
  if test = 2 then d == 1 else decide (test < 2) && (d == 6 || d == 7 || decide (0x20 ≤ d)) && isDomain d

/-- A write of MGT.SVC (R631). -/
def svcWrite (p data : Nat) (s : State) : State :=
  let d := s.rd R.MGT_DOM_SEL_DOMAIN 0
  let test := bitsOf data 24 4
  let go := bitAt data 31
  s.gate p 0x10030 true
    [ (go && (!isDomain d || !svcFits test d), .decode), (go && isDomain d && !s.domPresent d, .unitAbsent), (go && s.modeCode != mSERVICE, .mode),
      (go && isDomain d && !s.domIdle d, .unitRunning), (go && s.svcRun.isSome, .busy) ]
    fun s =>
      let s := (s.wr R.MGT_SVC_TX_EN 0 (bitsOf data 30 1)).wr R.MGT_SVC_TEST 0 test
      if go then { s.wr R.MGT_SVC_STATE 0 1 with svcRun := some (test, d) } else s

/-- SVC_TEST_DONE (R631): the domain is reset, or the failing channels are logged. -/
def svcTestDone (passed : Bool) (channels : List (Nat × Nat)) (s : State) : State :=
  match s.svcRun with
  | none => s
  | some (test, d) =>
    let s := { s.wr R.MGT_SVC_STATE 0 (if passed then 2 else 3) with svcRun := none }
    if test = 2 then channels.foldl (fun s c => s.flog 1 0x0003 .ok false [c.1, c.2]) s else s.domainReset d

/-! ### Temperature (R633, R634) -/

/-- TEMP_SAMPLE: a sensor is read. -/
def tempSample (sensor tj : Nat) (s : State) : State :=
  if 16 ≤ sensor then s
  else
    let s := { s with temps := tput s.temps sensor (tj % 65536) }
    let h := s.hottest
    let s := (s.wr R.MGT_TEMP_SENSOR 0 h.1).wr R.MGT_TEMP_TJ 0 (twos 16 h.2)
    let warn : Int := ((8 * s.rd R.MGT_THERM_WARN_C 0 : Nat) : Int)
    let s : State := if warn ≤ h.2 && !s.warned then
        { (s.mgtEvent 3).flog 0 0x0015 .ok false (leBytes 2 (twos 16 h.2) ++ [h.1]) with warned := true }
      else if h.2 ≤ warn - 40 then { s with warned := false } else s
    if s.pins.coolWait ≠ 0 ∧ h.2 < warn then s.deviceResetNow s.pins.coolWait else s

/-- THERMAL_TRIP: the comparator trips (R634). -/
def thermalTrip (sensor tj : Nat) (s : State) : State :=
  let s := s.flog 0 0x0016 .ok true (leBytes 2 (tj % 65536) ++ [sensor % 16])
  let s := { s.enterLimp 8 with pins := { (s.enterLimp 8).pins with thermTrip := true }, limpLatch := true }
  (s.forceOff (allDomains.filter (fun d => (s.domain d).st != 2))).activeShow

/-- MODE_SET. -/
def execModeSet (f : Nat) (payload : List Nat) (s : State) : Res := .next (modeSet f payload s)
/-- MODE_TRANSITION_DONE. -/
def execModeTransitionDone (s : State) : Res := .next (modeTransitionDone s)
/-- DEVICE_RESET. -/
def execDeviceReset (p data : Nat) (s : State) : Res := .next (deviceReset p data s)
/-- POWER_UP. -/
def execPowerUp (boardId : Nat) (side : Bool) (s : State) : Res := .next (powerUp boardId side s)
/-- POWER_LOST. -/
def execPowerLost (s : State) : Res := .next (powerLost s)
/-- RAILS_IN_RANGE. -/
def execRailsInRange (inRange vcapOk : Bool) (s : State) : Res := .next (railsInRange inRange vcapOk s)
/-- PERST_RISE. -/
def execPerstRise (s : State) : Res := .next (perstRise s)
/-- PERST_FALL. -/
def execPerstFall (s : State) : Res := .next (perstFall s)
/-- JTAG_TEST_LOGIC_RESET. -/
def execJtagTestLogicReset (s : State) : Res := .next (jtagReset s)
/-- HBM_TRAIN_DONE. -/
def execHbmTrainDone (failed : List (Nat × Nat)) (ms : Nat) (s : State) : Res := .next (hbmTrainDone failed ms s)
/-- LOCKSTEP_CHECK_DONE. -/
def execLockstepCheckDone (pair0 pair1 : Bool) (s : State) : Res := .next (lockstepCheckDone pair0 pair1 s)
/-- LOCKSTEP_SPLIT. -/
def execLockstepSplit (pair : Nat) (ecc : Option Nat) (s : State) : Res := .next (lockstepSplit pair ecc s)
/-- PAIR_REJOIN. -/
def execPairRejoin (s : State) : Res := .next (pairRejoin s)
/-- SVC_TEST_START. -/
def execSvcTestStart (p data : Nat) (s : State) : Res := .next (svcWrite p (setBit data 31) s)
/-- SVC_TEST_DONE. -/
def execSvcTestDone (passed : Bool) (channels : List (Nat × Nat)) (s : State) : Res := .next (svcTestDone passed channels s)
/-- TEMP_SAMPLE. -/
def execTempSample (sensor tj : Nat) (s : State) : Res := .next (tempSample sensor tj s)
/-- THERMAL_TRIP. -/
def execThermalTrip (sensor tj : Nat) (s : State) : Res := .next (thermalTrip sensor tj s)

end Sys2Proof.Machine
end

