-- ==== Sys2Proof/Machine/TwinPair.lean ====
section
/-! DEFINITION. Twin operation (16_twin_operation.md): pairing, the state copy, line compare and verdict, failover and yield, loss of the peer,
crossfeed streams, notices over the link, REFC8's time records. The kinds of `Out.twin`: 1 IDENT, 2 line record, 3 time record, 7 evidence,
8 copy request, 9 completion of a notice, 10 HELLO, 11 notice, 12 answer to a notice, 13 evidence summary, 14 TAKE, 15 YIELD. -/

namespace Sys2Proof.Machine

open Sys2Proof

/-! ### Who is what -/

/-- Whether the bundle is UP. -/
def State.bundleUp (s : State) : Bool := s.rd R.LNE_GL_STAT_LINK_STATE 96 == glUP
/-- The changeover timeline (R569). -/
def State.coTln (s : State) : Nat := s.rd R.TWN_CFG_CO_TLN 0
/-- Whether the card is the standby of a MIRROR pair. -/
def State.standby (s : State) : Bool := s.rd R.TWN_STAT_ROLE 0 == 1 && s.rd R.TWN_CTL_KIND 0 == 0 && s.modeCode == mMIRROR
/-- Whether the card is the primary of a MIRROR pair. -/
def State.active (s : State) : Bool := s.twin && s.rd R.TWN_CTL_KIND 0 == 0 && s.rd R.TWN_STAT_ROLE 0 == 0 && s.pair != prSOLO && s.pair != prHELLO
/-- Whether the pair compares or converges: SYNC, IN_STEP or DIVERGED of a MIRROR pair. -/
def State.paired (s : State) : Bool := decide (prSYNC ≤ s.pair) && decide (s.pair ≤ prDIVERGED)
/-- Change the twin unit. -/
def State.setTwn (s : State) (f : TwnX → TwnX) : State := { s with twnX := f s.twnX }

/-- The message QL of REFC8: that of the last good quality word, or 7 after a failover (R457, R588); a change runs selection (R462). -/
def State.refc8Ql (s : State) : State :=
  let q := if s.twnX.ql7 then 7 else s.rd R.LNE_GL_QW_QW 96 % 8
  if s.rd R.REF_CAND_STAT_MSG_QL 8 = q then s else (s.setMsgQl 8 q).refRunIf

/-- A quality word arrives (R192): on the twin bundle its QL is REFC8's, and good words with LOCKED or HOLDOVER at 1 count toward WAIT (R579). -/
def qwReceivedAll (i word : Nat) (s : State) : State :=
  let s1 := qwReceived i word s
  if i ≠ 96 ∨ !s.twin ∨ (s1.lane 96).qwLost ∨ s1.rd R.LNE_GL_QW_QW 96 ≠ word % 2 ^ 32 then s1
  else
    let good := bitAt word 4 || bitAt word 3
    { s1 with refX := { s1.refX with qwGood := if good then s1.refX.qwGood + 1 else 0 } }.refc8Ql

/-! ### IN_STEP and failure to pair (R572, R573) -/

/-- Pairing fails with a cause (R572); a card in MIRROR goes to IDLE as at an unpairing. -/
def State.pairFail (s : State) (cause : Nat) : State :=
  let pairBit := s.rd R.TWN_CTL_PAIR 0
  let s := ((s.unpair.wr R.TWN_CTL_PAIR 0 pairBit).wr R.TWN_STAT_LAST_CAUSE 0 cause).twinEvent 1
  (if s.modeCode = mMIRROR then s.modeBegin mIDLE else s).activeSoon

/-- The pipelines whose lines are compared (R585): RUNNING with their bit of TWN.CMP_EN at 1. -/
def State.cmpPipe (s : State) (n : Nat) : Bool :=
  s.rd R.OUT_STAT_LC_STATE n == lcRUNNING && bitAt (s.rdk R.TWN_CMP_EN_PIPES 0 (n / 32)) (n % 32)

/-- The timelines with a compared pipeline. -/
def State.cmpTlns (s : State) : List Nat :=
  (((upFrom 0 s.lanes).filter s.cmpPipe).map (s.rd R.OUT_TMG_FMT_TLN)).eraseDups

/-- The pair comes IN_STEP once the copy is complete and every compared output has matched for 8 frames (R573). -/
def State.converge (s : State) : State :=
  if s.pair = prSYNC ∧ s.twnX.copyDone ∧ s.cmpTlns.all (fun t => decide (8 ≤ tget 0 s.twnX.good t)) then
    ((((s.setPair prINSTEP).twinEvent 0).setTwn fun x => { x with ql7 := false })).refc8Ql
  else s

/-- Line 1 of a frame of timeline `t`: the frame that ends matched or not; 250 frames of CO_TLN after the copy without convergence fail the
pairing (R572, R573). -/
def State.twinFrame (s : State) (t : Nat) : State :=
  if s.pair ≠ prSYNC ∨ !s.twnX.copyDone then s
  else
    let s := s.setTwn fun x =>
      { x with good := tput x.good t (if x.missed.contains t then 0 else tget 0 x.good t + 1), missed := x.missed.filter (· != t),
               frames := if t = s.coTln then x.frames + 1 else x.frames }
    let s := s.converge
    if s.pair = prSYNC ∧ 250 ≤ s.twnX.frames then s.pairFail 8 else s

/-! ### IDENT and HELLO (R571 to R575) -/

/-- Every 1 ms while the bundle is UP (R571). -/
def identSend (s : State) : State :=
  if s.twin && s.bundleUp then s.send (.twin 1 [s.twnX.nonce, s.fuses.variant, s.fuses.stepping]) else s

/-- The notices to the peer, waiting and in flight, are dropped (R578). -/
def State.twinFlush (s : State) : State :=
  let air := s.mbAir
  let s := (upFrom 12 4).foldl State.mbFlush { s with mbAir := [] }
  air.foldl (fun s e => (s.inc R.MBX_MB_CNT_DROP_COUNT (12 + e.1)).mbComplete (12 + e.1) e.2 false) s

/-- The next switch line of CO_TLN that starts at least `after` ns from now, as its FSN. -/
def State.coNext (s : State) (after : Nat) : Option Nat :=
  let t := s.coTln
  let x := s.tlnX t
  if !s.tlnRuns t then none
  else
    ((upFrom x.n 4).find? (fun n => decide (s.epoch + after ≤ lineStart (s.tlnFmt t) x.phase n (s.tlnFmt t).sw)
        && (n != x.n || decide (x.line < (s.tlnFmt t).sw)))).map (fun n => (n + x.ofs) % 2 ^ 32)

/-- The standby takes the outputs (R588 step 2, R589): RUN, PRIMARY, LONE; after a yield both cards stay IN_STEP. The power-on programs do not start. -/
def State.twinTake (s : State) (yielded : Bool) : State :=
  let s := (s.wr R.TWN_STAT_ROLE 0 0).setPair (if yielded then prINSTEP else prLONE)
  let s := ({ s with powerOn := [], recs := [], decOwn := true }.setTwn fun x => { x with takeAt := none, ql7 := !yielded, episode := none }).setMode mRUN
  (((s.inc R.TWN_CNT_FAILOVER_COUNT 0).twinEvent 4).refc8Ql).activeShow

/-- The old primary hands the outputs over (R588 step 2, R589): MIRROR, FAULTY; after a yield IN_STEP as the secondary. -/
def State.twinHand (s : State) (yielded : Bool) : State :=
  let s := (s.wr R.TWN_STAT_ROLE 0 1).setPair (if yielded then prINSTEP else prFAULTY)
  let s := ({ s with recs := [], decOwn := false }.setTwn fun x => { x with handAt := none, episode := none }).setMode mMIRROR
  ((s.inc R.TWN_CNT_FAILOVER_COUNT 0).twinEvent 4).activeShow

/-- The standby will take at a switch line, or at once where CO_TLN does not run (R588, R591). -/
def State.takeSoon (s : State) (after : Nat) (yielded : Bool) : State :=
  match s.coNext after with
  | some k => s.setTwn fun x => { x with takeAt := some (k, yielded) }
  | none => if s.modePending then s else s.twinTake yielded

/-- The standby sends TAKE, naming the FSN of S, and takes there (R588). -/
def State.takeSend (s : State) (yielded : Bool) : State :=
  (s.send (.twin 14 [(s.coNext 100000).getD 0, b2n yielded])).takeSoon 100000 yielded

/-- What CO_TLN's switch line brings for the pair (R569, R588). Mode events are handled one at a time (R70): while a transition is in progress a
take or hand-over waits for a later switch line, and it is judged against the mode the transition has produced. -/
def State.twinSwitch (s : State) (t fsn : Nat) : State :=
  if t ≠ s.coTln ∨ !s.twin then s
  else
    let s := match s.twnX.takeAt with
      | some (k, y) => if k ≠ fsn then s
        else if s.modePending then s.setTwn fun x => { x with takeAt := some ((fsn + 1) % 2 ^ 32, y) }
        else if s.modeCode = mMIRROR then s.twinTake y else s.setTwn fun x => { x with takeAt := none }
      | none => s
    let s := match s.twnX.handAt with
      | some (k, y) => if k ≠ fsn then s
        else if s.modePending then s.setTwn fun x => { x with handAt := some ((fsn + 1) % 2 ^ 32, y) }
        else if s.modeCode = mRUN then s.twinHand y else s.setTwn fun x => { x with handAt := none }
      | none => s
    if s.twnX.netPend then s.activeShow else s

/-- The peer is lost (R573, R591): a standby whose peer is not alive takes at the next switch line of CO_TLN. -/
def State.peerLost (s : State) : State :=
  if s.paired || s.pair == prJOINED then
    let take := s.standby && !s.pins.aliveHigh
    let s := (((s.setPair prLOST).twinEvent 6).xfClose.setTwn fun x => { x with episode := none, own := [], peer := [], handAt := none })
    if take then s.takeSoon 0 false else s
  else s

/-- An IDENT record arrives (R571, R573, R575). -/
def identReceived (nonce variant stepping : Nat) (s : State) : State :=
  if !s.twin then s
  else
    let new := s.twnX.nonceSeen && s.rd R.TWN_PEER_NONCE_NONCE 0 != nonce % 2 ^ 32
    let s := ((s.wr R.TWN_PEER_VARIANT 0 variant).wr R.TWN_PEER_STEPPING 0 stepping).wr R.TWN_PEER_NONCE_NONCE 0 nonce
    let s := (s.wr R.TWN_STAT_IDENT 0 1).setTwn fun x => { x with nonceSeen := true }
    if new then (s.senderReset 4).peerLost else s

/-- The words of the digest of the running firmware image that a HELLO carries (R572). -/
def State.fwDigest32 (s : State) : List Nat := (upFrom 0 8).map (s.rdk R.SEC_FW_DIGEST_WORD 0)

/-- The timelines of a HELLO: FSN and scheduled start of the frame that follows the one in progress (R573). -/
def State.helloTlns (s : State) : List (Nat × Nat × Nat) :=
  ((upFrom 0 16).filter s.tlnRuns).map fun t =>
    let x := s.tlnX t
    (t, (x.n + 1 + x.ofs) % 2 ^ 32, lineStart (s.tlnFmt t) x.phase (x.n + 1) 1)

/-- Every 1 ms while PAIR is 1, IDENT current and the state HELLO (R572); a card in LOST or LONE answers in the same way (R573, R592). -/
def helloSend (s : State) : State :=
  if s.twin && s.on R.TWN_CTL_PAIR 0 && s.on R.TWN_STAT_IDENT 0 && (s.pair == prHELLO || s.pair == prLOST || s.pair == prLONE) then
    s.send (.twin 10 ([s.rd R.TWN_CTL_KIND 0, s.modeCode, b2n s.pins.side] ++ s.fwDigest32
      ++ s.helloTlns.flatMap (fun (e : Nat × Nat × Nat) => [e.1, e.2.1, e.2.2])))
  else s

/-- The first cause of R572 a peer's HELLO meets; 0 when it passes. -/
def State.helloCause (s : State) (h : Hello) : Nat :=
  let kind := s.rd R.TWN_CTL_KIND 0
  let m := s.modeCode
  if h.kind ≠ kind then 2
  else if h.side = s.pins.side then 3
  else if kind = 0 ∧ s.rd R.TWN_PEER_VARIANT 0 ≠ s.fuses.variant then 4
  else if kind = 0 ∧ h.digest ≠ s.fwDigest32 then 5
  else if kind = 0 ∧ ((m = mRUN ∧ h.mode = mRUN) ∨ (m ≠ mIDLE ∧ h.mode ≠ mIDLE)) then 6
  else if kind = 1 ∧ (if s.pins.side then m else h.mode) ≠ mIDLE then 6
  else 0

/-- A timeline restarts so that the frame that starts at `start` has this FSN, with the phase of `start` as its T (R486, R573, R478, R479). -/
def State.tlnRestart (s : State) (t fsn start : Nat) : State :=
  let f := s.tlnFmt t
  if 16 ≤ t ∨ s.rd R.REF_TLN_CFG_FMT t = 0 ∨ !s.epochRuns then s
  else
    let n0 := start * f.num / periodM f
    let ph := start * f.num % periodM f / f.num
    let s := s.tlnStart t
    let n := (-((-(((s.epoch : Int) - ph) * f.num)) / (periodM f : Int))).toNat
    ((s.wr R.REF_TLN_PHASE_NS t ph).setTln t fun _ => ⟨ph, n, 0, 0, true, (fsn + 2 ^ 32 - n0 % 2 ^ 32) % 2 ^ 32, none⟩).tlnShow t

/-- The timelines restart at the peer's FSNs and phases. -/
def State.tlnsFollow (s : State) (l : List (Nat × Nat × Nat)) : State := l.foldl (fun (s : State) e => s.tlnRestart e.1 e.2.1 e.2.2) s

/-- A peer's HELLO is checked, and pairing proceeds or fails (R572, R573). While a mode transition is in progress it is not judged (R70), nor while a
card of a MIRROR pair is neither in IDLE nor in RUN, since a secondary enters MIRROR from IDLE only (R68, R571; assumption 164); the peer sends
another every millisecond. -/
def helloReceived (h : Hello) (s : State) : State :=
  let open' := s.pair == prHELLO || s.pair == prLOST || s.pair == prLONE
  if !s.twin || !s.on R.TWN_CTL_PAIR 0 || !s.on R.TWN_STAT_IDENT 0 || !open' || s.modePending then s
  else
    let c := s.helloCause h
    if c ≠ 0 then (if s.pair = prHELLO then s.pairFail c else s)
    else if h.kind = 0 ∧ ((s.modeCode ≠ mIDLE ∧ s.modeCode ≠ mRUN) ∨ (h.mode ≠ mIDLE ∧ h.mode ≠ mRUN)) then s
    else if h.kind = 1 then
      (((if s.pins.side then s.tlnsFollow h.tlns else s).setPair prJOINED).xfJoin).activeSoon
    else
      let primary := s.modeCode == mRUN || (h.mode != mRUN && !s.pins.side)
      if primary then ((s.wr R.TWN_STAT_ROLE 0 0).copyStart).activeSoon
      else
        let s := { s.wr R.TWN_STAT_ROLE 0 1 with decOwn := false }.setMode mMIRROR
        ((s.tlnsFollow h.tlns).copyStart).activeSoon

/-- No HELLO within 10 s of PAIR (R572). -/
def helloTimeout (s : State) : State := if s.pair = prHELLO then s.pairFail 1 else s

/-! ### TWN.CTL (R571, R573, R589) -/

/-- The checks of a write to the TWN block: its writers. -/
def twnWriter (p : Nat) : List (Bool × Status) := [(!(decide (1 ≤ p) && decide (p ≤ 5)) && p != pPF, .protected')]

/-- An orderly handover asked of this card (R589, R590). The hardware yield releases the net at once. -/
def State.yield (s : State) (hw : Bool) : State :=
  let give := s.active && s.pair == prINSTEP && s.modeCode == mRUN
  let s := if give && !(hw && s.pins.side) then s.send (.twin 15 [])
    else if hw && s.pins.side then (s.wr R.TWN_CTL_TAKE_INH 0 1).send (.twin 15 [])
    else if s.pair = prSOLO || hw then s.wr R.TWN_CTL_TAKE_INH 0 1
    else s
  if !s.pins.side && (hw || s.pair == prSOLO) then { s with pins := { s.pins with netLow := false } }.netShow else s

/-- A write of TWN.CTL: KIND is taken where PAIR goes from 0 to 1; PAIR 0 ends the pair, and a MIRROR card goes to IDLE (R573). -/
def twnCtlWrite (p data : Nat) (s : State) : State :=
  s.gate p 0x60000 true (twnWriter p) fun s =>
    let on := bitAt data 31
    let s := if on ∧ !s.on R.TWN_CTL_PAIR 0 then (s.wr R.TWN_CTL_KIND 0 (bitsOf data 30 1)).wr R.TWN_CTL_PAIR 0 1 else s
    let s :=
      if on then (if s.pair = prSOLO then s.setPair prHELLO else s)
      else if s.on R.TWN_CTL_PAIR 0 || s.pair != prSOLO then
        let s := s.unpair
        (if s.modeCode = mMIRROR then s.modeBegin mIDLE else s).activeSoon
      else s
    let s := if bitsOf data 29 1 = s.rd R.TWN_CTL_TAKE_INH 0 then s else (s.wr R.TWN_CTL_TAKE_INH 0 (bitsOf data 29 1)).activeShow
    let s := if bitAt data 28 then s.yield false else s
    if bitAt data 27 ∧ s.pair = prDIVERGED then s.copyStart else s

/-- A YIELD arrives: the standby takes the outputs as in a failover (R589, R590). -/
def yieldReceived (s : State) : State :=
  if s.standby && s.twnX.takeAt.isNone then s.takeSend (s.pair == prINSTEP) else s

/-- A TAKE arrives: the primary hands over at the switch line it names; where CO_TLN does not run, at once (R588, R590). -/
def twinTakeReceived (fsn : Nat) (yielded : Bool) (s : State) : State :=
  if !s.active || s.modeCode != mRUN then s
  else if s.tlnRuns s.coTln then s.setTwn fun x => { x with handAt := some (fsn % 2 ^ 32, yielded) }
  else if s.modePending then s else s.twinHand yielded

/-! ### Pins and loss of the peer (R568, R591) -/

/-- PEER_ALIVE changes (R568). -/
def peerAliveChange (high : Bool) (s : State) : State := { s with pins := { s.pins with aliveHigh := high } }.activeShow

/-- The net of ACTIVE_N changes. When ON_AIR becomes 1 other than by R588, the standby takes at the next switch line of CO_TLN (R591). -/
def activeNetChange (low : Bool) (s : State) : State :=
  if !s.twin then s
  else
    let was := s.on R.TWN_STAT_ON_AIR 0
    let s := { s with pins := { s.pins with netLow := low } }.netShow
    if !was && s.on R.TWN_STAT_ON_AIR 0 && s.standby && s.twnX.takeAt.isNone then s.takeSoon 0 false else s

/-- The bundle has not been UP for 10 ms, or IDENT is lost (R573, R578, R591). -/
def peerLossTimeout (s : State) : State := if s.twin then ((s.wr R.TWN_STAT_IDENT 0 0).twinFlush).peerLost else s

/-! ### The state copy (R580, R581) -/

/-- Whether the state copy carries the registers at an offset: settings, staged and live values and thread registers of the unit blocks and
timeline settings; no counters, event flags or measurements. -/
def copiedBase (b : Nat) : Bool :=
  let within := fun lo hi => decide (lo ≤ b) && decide (b < hi)
  within 0x200004 0x200018 || b == 0x20010C || within 0x200200 0x200300
    || b == 0x300010 || within 0x301000 0x301028
    || b == 0x402000 || within 0x402008 0x402030
    || within 0x500004 0x50000D || within 0x500020 0x500028 || within 0x501000 0x5018B0 || within 0x502000 0x502020 || b == 0x502200
    || b == 0x701000 || b == 0x701004 || b == 0x704000 || b == 0x706000 || b == 0x706800 || b == 0x706804 || within 0x710000 0x71001C
    || within 0x800000 0x80001C || within 0x800040 0x800100
    || within 0x51000 0x5100C

/-- The lifecycle fields of ports, pipelines and job slots. -/
def lcFlds : List Fld := [R.INP_STAT_LC_STATE, R.OUT_STAT_LC_STATE, R.CVA_JOB_STAT_LC_STATE]

/-- The register items of the copy: the lifecycle states last. -/
def State.copyRegs (s : State) (p : Nat → Bool) : List CopyItem :=
  (s.regs.filter (fun e => p e.1)).flatMap fun e => e.2.flatMap fun u => u.2.map fun k => .reg e.1 u.1 k.1 k.2

/-- The numbers of a surface. -/
def Surf.nums (x : Surf) : List Nat := [x.fmt, x.w, x.h, x.maxBytes, b2n x.writeback, (x.job.map (· + 1)).getD 0, (x.locked.map (· + 1)).getD 0]

/-- The numbers of a job's declaration and placement. -/
def Job.nums (j : Job) : List Nat :=
  [j.handle, j.tln, j.inFmt, j.inStruct, j.inXfer, j.mode, j.inW, j.inH, j.outFmt, j.outStruct, j.outXfer, j.filter, j.outW, j.outH,
    j.credits, j.slot, j.localKib, j.surf]

/-- What the primary captures at the cut and sends (R580): the content of the copied allocations, the tables, the threads and the registers. -/
def State.copyItems (s : State) : List CopyItem :=
  let lc := lcFlds.map Fld.key
  (s.allocs.filter (fun x => copiedAlloc x || x.key / 2 ^ 20 == kJob)).map (fun x => .alloc x.len x.key (s.allocNth x) x.hidden x.readOnly)
    ++ (s.allocs.filter copiedAlloc).flatMap (fun x =>
        (s.hbmHost.filter (fun c => decide (x.base ≤ c.1) && decide (c.1 < x.base + x.len))).map (fun c => .mem x.key (s.allocNth x) (c.1 - x.base) [c.2.toNat]))
    ++ s.objs.map (fun e => .obj (e.1 / 2 ^ 20) (e.1 % 2 ^ 20) e.2 (tget 0 s.sessPrin (e.1 % 2 ^ 20)))
    ++ s.progs.map (fun e => .prog e.1 e.2)
    ++ (s.rings.filter (fun e => decide (32 ≤ e.1))).map (fun e => .ring e.1 e.2)
    ++ s.binds.map (fun e => .bind e.1 e.2)
    ++ s.surfs.map (fun e => .surf e.1 e.2.nums)
    ++ s.jobs.map (fun e => .job e.1 e.2.nums e.2.engs (e.2.bank.map (fun c => (c.1, c.2.toNat))))
    ++ s.routeX.map (fun e => .route e.1 [e.2.dst, e.2.cur.src, e.2.cur.delay, b2n e.2.cur.mute] e.2.cur.m)
    ++ s.cueX.map (fun e => .thread e.1 e.2)
    ++ s.staged.map .staged
    ++ (s.charges.filter (fun e => decide (1000 ≤ e.1) && e.1 != cAudio)).map (fun e => .charge e.1 e.2)
    ++ s.copyRegs (fun k => copiedBase (k / 32) && !lc.contains k) ++ s.copyRegs lc.contains

/-- Line 1 of the cut (R580): the primary captures and sends. A secondary that asked for a new copy has its primary in SYNC from here at the latest. -/
def stateCopyCut (s : State) : State :=
  if !s.active || !s.paired || !s.on R.TWN_STAT_IDENT 0 then s
  else
    let s := if s.pair = prSYNC then s else s.copyStart
    s.send (.copy s.copyItems)

/-- Every register the copy carries is at reset before it; lifecycle states stay as the stop left them. -/
def State.copyRegsClear (s : State) : State :=
  { s with regs := s.regs.filter (fun e => !(copiedBase (e.1 / 32) && decide (0x300000 ≤ e.1 / 32) && !(lcFlds.map Fld.key).contains e.1)) }

/-- The secondary's own objects and running outputs end before the copy replaces them (R580). -/
def State.mirrorClear (s : State) : State :=
  let s := s.stopThreads.haltOutputs
  let s := (s.jobs.map (·.1)).foldl State.jobRelease s
  let s := (s.surfs.map (·.1)).foldl (fun (s : State) i => s.surfUnlock i) s
  let s := (s.routeX.map (·.1)).foldl State.routeRelease s
  let ch := (s.charges.filter (fun e => decide (1000 ≤ e.1) && e.1 != cAudio)).map (fun e => (e.1, 0))
  let s := if ch.isEmpty then s else s.takeCharges ch
  let s := s.copyRegsClear
  { s with objs := [], sessPrin := [], rings := s.rings.filter (fun e => decide (e.1 < 32)), binds := [], surfs := [], progs := [], cueX := [],
           staged := [], lentFetch := [], lentJxs := [], lateDue := [], revoked := [], inUse := [],
           allocs := s.allocs.filter (fun x => x.key / 2 ^ 20 == kInput || decide (2 ^ 40 ≤ x.key)), twnX := { s.twnX with fresh := false } }

/-- IDENT_SEND. -/
def execIdentSend (s : State) : Res := .next (identSend s)
/-- IDENT_RECEIVED. -/
def execIdentReceived (nonce variant stepping : Nat) (s : State) : Res := .next (identReceived nonce variant stepping s)
/-- HELLO_SEND. -/
def execHelloSend (s : State) : Res := .next (helloSend s)
/-- HELLO_RECEIVED. -/
def execHelloReceived (h : Hello) (s : State) : Res := .next (helloReceived h s)
/-- HELLO_TIMEOUT. -/
def execHelloTimeout (s : State) : Res := .next (helloTimeout s)
/-- TWN_PAIR_WRITE: a write of TWN.CTL that changes PAIR. -/
def execTwnPairWrite (p data : Nat) (s : State) : Res := .next (twnCtlWrite p data s)
/-- TWN_YIELD: a write of TWN.CTL with YIELD 1. -/
def execTwnYield (p data : Nat) (s : State) : Res := .next (twnCtlWrite p (setBit data 28) s)
/-- TWN_RESYNC: a write of TWN.CTL with RESYNC 1. -/
def execTwnResync (p data : Nat) (s : State) : Res := .next (twnCtlWrite p (setBit data 27) s)
/-- YIELD_RECEIVED. -/
def execYieldReceived (s : State) : Res := .next (yieldReceived s)
/-- TWIN_TAKE_RECEIVED. -/
def execTwinTakeReceived (fsn : Nat) (yielded : Bool) (s : State) : Res := .next (twinTakeReceived fsn yielded s)
/-- PEER_ALIVE_CHANGE. -/
def execPeerAliveChange (high : Bool) (s : State) : Res := .next (peerAliveChange high s)
/-- ACTIVE_NET_CHANGE. -/
def execActiveNetChange (low : Bool) (s : State) : Res := .next (activeNetChange low s)
/-- PEER_LOSS_TIMEOUT. -/
def execPeerLossTimeout (s : State) : Res := .next (peerLossTimeout s)
/-- STATE_COPY_CUT. -/
def execStateCopyCut (s : State) : Res := .next (stateCopyCut s)
/-- QW_RECEIVED. -/
def execQwReceived (lane word : Nat) (s : State) : Res := .next (qwReceivedAll lane word s)

end Sys2Proof.Machine
end

