-- ==== Sys2Proof/Machine/TwinLink.lean ====
section
/-! DEFINITION. Twin operation, second part (16_twin_operation.md): the state copy as it arrives (R580, R581), line compare (R585, R586), evidence
and verdict (R587), REFC8's time records (R579), crossfeed streams (R577), notices over the link (R578). -/

namespace Sys2Proof.Machine

open Sys2Proof

/-! ### The state copy arrives (R580, R581) -/

/-- The field with a number in the register file. -/
def fldByKey (k : Nat) : Option Fld := (R.regMap.flatMap (·.flds)).find? (fun f => Fld.key f == k)

/-- The place of the `nth` allocation of an object on this card. -/
def State.localBase (s : State) (key nth : Nat) : Option Nat := ((s.allocs.filter (fun x => x.key == key))[nth]?).map (·.base)

/-- The base of an allocation, 0 where there is none. -/
def State.baseOr0 (s : State) (key nth : Nat) : Nat := (s.localBase key nth).getD 0

/-- The job the numbers of the copy describe, at this card's places. -/
def State.copiedJob (s : State) (i : Nat) (l engs : List Nat) (bank : List (Nat × Nat)) : Job :=
  let at' := fun k => l.getD k 0
  { jobOfArgs [] with
    handle := at' 0, tln := at' 1, inFmt := at' 2, inStruct := at' 3, inXfer := at' 4, mode := at' 5, inW := at' 6, inH := at' 7, outFmt := at' 8,
    outStruct := at' 9, outXfer := at' 10, filter := at' 11, outW := at' 12, outH := at' 13, credits := at' 14, slot := at' 15, localKib := at' 16,
    surf := at' 17, engs := engs, bank := bank.map (fun e => (e.1, BitVec.ofNat 8 e.2)), outBase := s.baseOr0 (objKey kJob i) 0,
    params := s.baseOr0 (objKey kJob i) 1 }

/-- The surface the numbers of the copy describe, at this card's place. -/
def State.copiedSurf (s : State) (i : Nat) (l : List Nat) : Surf :=
  let at' := fun k => l.getD k 0
  let opt := fun (v : Nat) => if v = 0 then none else some (v - 1)
  let base := match opt (at' 5) with
    | some j => s.baseOr0 (objKey kJob j) 0
    | none => s.baseOr0 (objKey kSurface i) 0
  ⟨at' 0, at' 1, at' 2, at' 3, at' 4 == 1, base, opt (at' 5), none, opt (at' 6)⟩

/-- The format of a timeline comes with the copy: one that is not what ran here starts, restarts or stops (R477, R486, R580). -/
def State.copyFmt (s : State) (t v : Nat) : State :=
  if s.rd R.REF_TLN_CFG_FMT t = v then s
  else
    let s := s.wr R.REF_TLN_CFG_FMT t v
    if v = 0 then s.tlnStop t else if s.epochRuns then s.tlnStart t else s.wr R.REF_TLN_STAT_STATE t 1

/-- A timeline takes a target phase of the primary's (R486). -/
def State.takePhase (s : State) (t v : Nat) : State :=
  let s := s.wr R.REF_TLN_PHASE_NS t v
  if s.tlnRuns t then (s.tlnShow t).slewCheck t else s

/-- A register item of the copy: an input port starts at once, outputs and jobs when the copy completes (R580); a timeline takes its settings. `false` where a
start fails. -/
def State.copyReg (s : State) (key u k v : Nat) : State × Bool :=
  match fldByKey key with
  | none => (s, true)
  | some f =>
    if f = R.INP_STAT_LC_STATE then
      (if v ≠ lcSTOPPED ∧ s.rd R.INP_STAT_LC_STATE u = lcSTOPPED then ((s.inpArm u).1, (s.inpArm u).2 == .ok) else (s, true))
    else if f = R.OUT_STAT_LC_STATE ∨ f = R.CVA_JOB_STAT_LC_STATE then
      (if v = lcARMED ∨ v = lcRUNNING then s.setTwn fun x => { x with arm := x.arm ++ [(f, u, k)] } else s, true)
    else if f = R.REF_TLN_CFG_FMT then (s.copyFmt u v, true)
    else if f = R.REF_TLN_PHASE_NS then (s.takePhase u v, true)
    else (s.wrk f u k v, true)

/-- One item of the copy, or a forwarded write; `false` where this card has no room for it. -/
def State.copyApply (s : State) : CopyItem → State × Bool
  | .alloc len key nth hidden readOnly =>
    match s.allocate len (if key / 2 ^ 20 = kJob ∧ nth = 1 then 0x100000 else 65536) key hidden readOnly with
    | some r => (r.2, true)
    | none => (s, false)
  | .mem key nth ofs bytes =>
    (match s.localBase key nth with
      | some b => s.hbmStore (b + ofs) bytes
      | none => s, true)
  | .obj kind idx o prin =>
    let s := s.setObj kind idx o
    (if kind = kSession ∧ idx ≠ 0 ∧ o.live then { s with sessPrin := tput s.sessPrin idx prin } else s, true)
  | .prog idx words => ({ s with progs := tput s.progs idx words }, true)
  | .thread t x => ({ s with cueX := tput s.cueX t x }, true)
  | .reg key u k v => s.copyReg key u k v
  | .staged x => ({ s with staged := s.staged ++ [x], stagedN := max s.stagedN (x.id + 1) }, true)
  | .ring idx r => (s.setRing idx { r with base := if r.host then r.base else s.baseOr0 (objKey kRing idx) 0 }, true)
  | .bind key ring => ({ s with binds := tput s.binds key ring }, true)
  | .surf idx nums => ({ s with surfs := tput s.surfs idx (s.copiedSurf idx nums) }, true)
  | .job idx nums engs bank => ({ s with jobs := tput s.jobs idx (s.copiedJob idx nums engs bank) }, true)
  | .route idx nums m =>
    let p : APath := ⟨nums.getD 1 0, nums.getD 2 0, m, nums.getD 3 0 == 1⟩
    ({ s with routeX := tput s.routeX idx ⟨nums.getD 0 0, p, none, 480, m, 240, 0, 0, none⟩ }, true)
  | .charge c v => (s.takeCharges [(c, v)], true)

/-- A list of items in order. -/
def State.copyItemsApply (s : State) (l : List CopyItem) : State × Bool :=
  l.foldl (fun (a : State × Bool) i => ((a.1.copyApply i).1, a.2 && (a.1.copyApply i).2)) (s, true)

/-- The secondary receives records of the MEMORY stream (R580, R581): the first of a copy replaces what the card holds. -/
def memoryStreamReceived (items : List CopyItem) (s : State) : State :=
  if !s.standby || !s.paired then s
  else
    let s := if s.twnX.fresh then s.mirrorClear else s
    let r := s.copyItemsApply items
    if r.2 then (r.1.poolShow).enginesShow else r.1.pairFail 7

/-- The outputs and jobs that ran at the cut are armed: they start at their next switch line (R580). -/
def State.copyArm (s : State) : State :=
  let l := s.twnX.arm
  (l.foldl (fun (s : State) e => s.wrk e.1 e.2.1 e.2.2 lcARMED) s).setTwn fun x => { x with arm := [] }

/-! ### Line compare (R585, R586) -/

/-- The bytes of line words (R585). -/
def wordBytes (l : List Nat) : List Nat := l.flatMap (fun w => [w % 256, w / 256 % 256])

/-- The CRCs of the line a pipeline has sent (R585). -/
def State.lineCrc (s : State) (n line fsn : Nat) : LineCrc :=
  let q := s.pipe n
  ⟨n, line, fsn % 4096, if q.lineA = [] then 0 else crc24 (wordBytes q.lineA), crc24 (wordBytes q.lineW)⟩

/-- Whether two line records are of the same line. -/
def LineCrc.same (a b : LineCrc) : Bool := a.pipe == b.pipe && a.line == b.line && a.fsn == b.fsn

/-- The FSN of a line record in full: the last one of its pipeline with these low 12 bits. -/
def State.lineFsn (s : State) (r : LineCrc) : Nat :=
  let f := s.rd R.OUT_FSN_FSN r.pipe
  (f + 2 ^ 32 - (f + 4096 - r.fsn) % 4096) % 2 ^ 32

/-- The island time one frame period before the frame of a line began (R587). -/
def State.lineSince (s : State) (r : LineCrc) : Nat :=
  let t := s.rd R.OUT_TMG_FMT_TLN r.pipe
  let x := s.tlnX t
  let f := s.tlnFmt t
  let n := x.n - (s.fsn t + 2 ^ 32 - s.lineFsn r) % 2 ^ 32
  (s.now + lineStart f x.phase n 1) - (s.epoch + periodNs f)

/-- A line differs, or its record is missing: in SYNC the frame does not match; in IN_STEP the first of an episode raises MISMATCH (R573, R586). -/
def State.lineBad (s : State) (r : LineCrc) (audio : Bool) : State :=
  let t := s.rd R.OUT_TMG_FMT_TLN r.pipe
  if s.pair = prSYNC then s.setTwn fun x => { x with missed := if x.missed.contains t then x.missed else t :: x.missed }
  else if s.pair ≠ prINSTEP ∨ s.twnX.episode.isSome then s
  else
    let e : Episode := ⟨r.pipe, r.line, s.lineFsn r, audio, s.lineSince r⟩
    let s := ((s.wr R.TWN_VERDICT_PIPE 0 r.pipe).wr R.TWN_VERDICT_LINE 0 r.line).wr R.TWN_VERDICT_AUDIO 0 (b2n audio)
    ((s.wr R.TWN_VERDICT_FSN_FSN 0 e.fsn).setTwn fun x => { x with episode := some e }).twinEvent 2

/-- Own and peer's CRCs of a line are compared (R586). -/
def State.lineCompare (s : State) (own peer : LineCrc) : State :=
  if own.lcrc = peer.lcrc ∧ own.acrc = peer.acrc then s
  else (s.inc R.TWN_CNT_MISMATCH_COUNT 0).lineBad own (own.acrc != peer.acrc)

/-- A compared line has left the framer: its record is sent and compared (R585, R586). -/
def State.lineSent (s : State) (n line fsn : Nat) : State :=
  if !s.twin || s.rd R.TWN_CTL_KIND 0 != 0 || !s.paired || !s.cmpPipe n || s.gangMember n then s
  else
    let r := s.lineCrc n line fsn
    let s := s.send (.twin 2 [r.pipe, r.line, r.fsn, r.acrc, r.lcrc])
    match s.twnX.peer.find? r.same with
    | some q => (s.setTwn fun x => { x with peer := x.peer.erase q }).lineCompare r q
    | none => s.setTwn fun x => { x with own := x.own ++ [r] }

/-- A peer's line record (R586). -/
def lineRecordReceived (pipe line fsn acrc lcrc : Nat) (s : State) : State :=
  let q : LineCrc := ⟨pipe, line, fsn % 4096, acrc, lcrc⟩
  if !s.twin || s.rd R.TWN_CTL_KIND 0 != 0 || !s.paired then s
  else match s.twnX.own.find? q.same with
    | some r => (s.setTwn fun x => { x with own := x.own.erase r }).lineCompare r q
    | none => s.setTwn fun x => { x with peer := x.peer ++ [q] }

/-- A line record has been missing for 1 ms (R586). -/
def cmpGapTimeout (s : State) : State :=
  match s.twnX.own with
  | [] => s
  | r :: l =>
    let s := s.setTwn fun x => { x with own := l }
    ((s.inc R.TWN_CNT_CMP_GAP_COUNT 0).evidence 6 0).lineBad r false

/-- A raster line of a pipeline, and the record of the line that has left (R359, R585). -/
def pipelineLineSent (n fsn line : Nat) (host : List (List Nat)) (s : State) : State :=
  let t := pipelineLine n fsn line host s
  if s.lineRuns n line ∧ s.rd R.OUT_STAT_LINE n ≠ 0 then t.lineSent n (s.rd R.OUT_STAT_LINE n) (s.rd R.OUT_FSN_FSN n) else t

/-! ### Crossfeed sent (R256, R577) -/

/-- The bytes of a crossfeed stream's frame: the FSN, the format code and sample structure, the active picture as it left output conversion, packed as R60
packs it. DESIGN CHOICE (assumption 149): the spec gives the stream no coding. -/
def xfeedBytes (fsn fmt struct : Nat) (p : Pic) : List Nat := leBytes 4 fsn ++ [fmt, struct, 0, 0] ++ packPic struct p

/-- The blocks that the crossfeed streams have ready (R256, R577): `xfeed` names, for each stream the peer has opened, the pipeline it names and the bytes
of the frame sent so far; the picture is the pipeline's own, of the last frame it completed. -/
def State.xfeedReady (s : State) (xfeed : List (Nat × Nat × Nat)) : List (Nat × List Nat) :=
  xfeed.filterMap fun e =>
    if 8 ≤ e.1 ∧ e.1 ≤ 15 ∧ e.2.1 < s.lanes ∧ !s.ganged e.2.1 then
      (s.pipe e.2.1).sentPic.bind fun q =>
        let b := ((xfeedBytes q.1 q.2.1 q.2.2.1 q.2.2.2).drop e.2.2).take 256
        if b.isEmpty then none else some (e.1, b)
    else none

/-- A block boundary with what the streams have ready: those of the control, decision, compare and memory streams in `ready`, those of crossfeed streams
from the pipelines. -/
def gistraBoundary (i : Nat) (ready : List (Nat × List Nat)) (xfeed : List (Nat × Nat × Nat)) (complete : Bool) (s : State) : State :=
  gistraBlockSend i (ready.filter (fun b => decide (b.1 ≤ 3)) ++ s.xfeedReady xfeed) complete s

/-! ### Evidence and verdict (R587) -/

/-- The peer's evidence arrives. -/
def evidenceReceived (bit arg : Nat) (s : State) : State :=
  if s.twin then { s with evid := (s.now, bit % 8, arg, true) :: s.evid } else s

/-- The evidence bits of one card since a time. -/
def State.evidBits (s : State) (since : Nat) (peer : Bool) : Nat :=
  (s.evid.filter (fun e => decide (since ≤ e.1) && e.2.2.2 == peer)).foldl (fun a e => setBit a e.2.1) 0

/-- Every 1 ms a summary of the own evidence of the last 1 ms is sent. -/
def evidenceSummarySend (s : State) : State :=
  if s.twin && s.on R.TWN_STAT_IDENT 0 then s.send (.twin 13 [s.evidBits (s.now - 1000000) false]) else s

/-- Whether destination `d` reads port `p`, by its select or through an Arcade job. -/
def State.destReads (s : State) (p : Nat) : Nat → Nat → Bool
  | 0, _ => false
  | k + 1, d => s.selNames p d || (s.selKind d == selARCADE && s.destReads p k (96 + hIdx (s.selH d)))

/-- Whether an output reads a port: its select, or an Arcade output surface of a layer. -/
def State.pipeReads (s : State) (n p : Nat) : Bool :=
  s.destReads p 8 n || (upFrom 1 7).any (fun l =>
    match (s.surfH (s.rdk R.OUT_LYR_SURF_LIVE_HANDLE n l)).job with
    | some j => s.rdk R.OUT_LYR_SURF_LIVE_HANDLE n l != 0 && s.destReads p 8 (96 + j)
    | none => false)

/-- Evidence that puts the fault in a card: bits 0 to 4 and 7. -/
def hardEvid (b : Nat) : Bool := b % 32 != 0 || bitAt b 7

/-- The verdict of an episode: the first row of R587's table that matches. -/
def State.verdictOf (s : State) (e : Episode) : Nat :=
  let own := s.evidBits e.since false
  let peer := s.evidBits e.since true
  let act := if s.rd R.TWN_STAT_ROLE 0 = 0 then own else peer
  let sby := if s.rd R.TWN_STAT_ROLE 0 = 0 then peer else own
  if hardEvid own && hardEvid peer then 5
  else if hardEvid act then 1
  else if hardEvid sby then 2
  else if s.evid.any (fun x => decide (e.since ≤ x.1) && x.2.1 == 5 && s.pipeReads e.pipe x.2.2.1) then 3
  else if bitAt own 6 || bitAt peer 6 then 4
  else 6

/-- 8 ms after an episode's first mismatch (R587, R588): ACTIVE fails over, STANDBY and LINK make the pair DIVERGED (R573), UNRESOLVED fails over
under UNRES. -/
def verdictTimer (s : State) : State :=
  match s.twnX.episode with
  | none => s
  | some e =>
    let v := s.verdictOf e
    let s := ((s.wr R.TWN_VERDICT_VERDICT 0 v).wr R.TWN_EVIDENCE_OWN 0 (s.evidBits e.since false)).wr R.TWN_EVIDENCE_PEER 0 (s.evidBits e.since true)
    let s := (s.setTwn fun x => { x with episode := none }).twinEvent 3
    if v = 2 ∨ v = 4 then s.diverge
    else if (v = 1 || (v == 6 && s.on R.TWN_CFG_UNRES 0)) && s.standby && s.pair == prINSTEP then s.takeSend false
    else s

/-! ### REFC8 (R579) -/

/-- A time record goes out and the peer's comes in, with the round trip measured from the echoes; SKEW follows (R579, R597). -/
def timeRecord (peer rtt : Nat) (skew : Int) (s : State) : State :=
  if !s.twin || !s.on R.TWN_STAT_IDENT 0 then s
  else
    let s := s.send (.twin 3 [s.epoch])
    let s : State := { s with refX := { s.refX with rtt := some rtt } }
    let s := (s.setCand 8 fun x => { x with mark := some (peer + rtt / 2, s.now) }).candPhaseShow 8
    let s := s.wr R.TWN_SKEW_NS 0 (sat32 skew)
    let high := decide (100 < skew) || decide (skew < -100)
    let s := if high && !s.twnX.skewHigh then s.twinEvent 9 else s
    s.setTwn fun x => { x with skewHigh := high }

/-! ### Crossfeed (R577) -/

/-- A write of TWN.XF_CFG; the peer tells the format, structure and gang of its pipeline. -/
def xfCfgWrite (p k data peerFmt peerStruct : Nat) (peerGang : Bool) (s : State) : State :=
  let en := bitAt data 31
  let joined := s.pair == prJOINED
  let was := s.rdk R.TWN_XF_CFG_STATE 0 k == 1
  let used := s.xfUsed - (if was then xfCost (tget (0, 0, false) s.twnX.xfPeer k).1 (tget (0, 0, false) s.twnX.xfPeer k).2.1 else 0)
  s.gate p (0x60100 + 4 * k) true
    ([ (decide (8 ≤ k), .decode), (en && (is4320 peerFmt || peerGang), .lenExceeds),
       (en && joined && decide (s.xfBudget * 1000000 < used + xfCost peerFmt peerStruct), .bandwidth) ] ++ twnWriter p)
    fun s =>
      let s := (s.wrk R.TWN_XF_CFG_EN 0 k (b2n en)).wrk R.TWN_XF_CFG_PEER_PIPE 0 k (data % 128)
      let s := s.setTwn fun x => { x with xfPeer := tput x.xfPeer k (peerFmt, peerStruct, peerGang) }
      if en && joined then s.xfOpen k else { s.wrk R.TWN_XF_CFG_STATE 0 k 0 with xfeed := tdel s.xfeed k }

/-! ### Notices over the link (R578) -/

/-- The head notice of MB12 + j is offered to the peer; it leaves once the peer has queued it. -/
def twinMbForward (j : Nat) (full : Bool) (s : State) : State :=
  match s.mb (12 + j) with
  | [] => s
  | n :: l =>
    if 4 ≤ j ∨ !s.twin ∨ !s.on R.TWN_STAT_IDENT 0 ∨ full then s
    else { s.mbSet (12 + j) l with mbAir := s.mbAir ++ [(j, n)] }.send (.twin 11 [j, n.len, n.tag, n.ptr])

/-- The mailbox that the peer's MB12 + j reaches. -/
def twinMb (j : Nat) : Nat := [3, 7, 10, 11].getD j 16

/-- A peer's notice arrives: queued with principal 0x20 and the twin epoch, or answered as not queued. -/
def twinNoticeReceived (j len tag ptr : Nat) (s : State) : State :=
  if !s.twin || !s.on R.TWN_STAT_IDENT 0 then s
  else
    let n : Notice := ⟨pTwin, s.senderEpoch 4, len % 65536, tag % 2 ^ 32, ptr % 2 ^ 64⟩
    let st := check (s.mbPostChecks 4 (twinMb j))
    (s.mbQueue (twinMb j) st n).send (.twin 12 [j, st.code])

/-- A completion returns for a notice in flight (R524, R578). -/
def twinCompletionReceived (j : Nat) (delivered : Bool) (tag : Nat) (s : State) : State :=
  match s.mbAir.find? (fun e => e.1 == j && e.2.tag == tag) with
  | none => s
  | some e => { s with mbAir := s.mbAir.erase e }.mbComplete (12 + j) e.2 delivered

/-- MEMORY_STREAM_RECEIVED. -/
def execMemoryStreamReceived (items : List CopyItem) (s : State) : Res := .next (memoryStreamReceived items s)
/-- LINE_RECORD_RECEIVED. -/
def execLineRecordReceived (pipe line fsn acrc lcrc : Nat) (s : State) : Res := .next (lineRecordReceived pipe line fsn acrc lcrc s)
/-- CMP_GAP_TIMEOUT. -/
def execCmpGapTimeout (s : State) : Res := .next (cmpGapTimeout s)
/-- GISTRA_BLOCK_SEND. -/
def execGistraBlockSend (lane : Nat) (ready : List (Nat × List Nat)) (xfeed : List (Nat × Nat × Nat)) (complete : Bool) (s : State) : Res :=
  .next (gistraBoundary lane ready xfeed complete s)
/-- PIPELINE_LINE_START. -/
def execPipelineLineStart (n fsn line : Nat) (host : List (List Nat)) (s : State) : Res :=
  .next (pipelineLineSent n fsn line host s)
/-- EVIDENCE_RECEIVED. -/
def execEvidenceReceived (bit arg : Nat) (s : State) : Res := .next (evidenceReceived bit arg s)
/-- EVIDENCE_SUMMARY_SEND. -/
def execEvidenceSummarySend (s : State) : Res := .next (evidenceSummarySend s)
/-- VERDICT_TIMER. -/
def execVerdictTimer (s : State) : Res := .next (verdictTimer s)
/-- TIME_RECORD. -/
def execTimeRecord (peer rtt : Nat) (skew : Int) (s : State) : Res := .next (timeRecord peer rtt skew s)
/-- XF_CFG_WRITE. -/
def execXfCfgWrite (p k data peerFmt peerStruct : Nat) (peerGang : Bool) (s : State) : Res :=
  .next (xfCfgWrite p k data peerFmt peerStruct peerGang s)
/-- TWIN_MB_FORWARD. -/
def execTwinMbForward (j : Nat) (full : Bool) (s : State) : Res := .next (twinMbForward j full s)
/-- TWIN_NOTICE_RECEIVED. -/
def execTwinNoticeReceived (j len tag ptr : Nat) (s : State) : Res := .next (twinNoticeReceived j len tag ptr s)
/-- TWIN_COMPLETION_RECEIVED. -/
def execTwinCompletionReceived (j : Nat) (delivered : Bool) (tag : Nat) (s : State) : Res :=
  .next (twinCompletionReceived j delivered tag s)

end Sys2Proof.Machine
end

