-- ==== Sys2Proof/Machine/Security.lean ====
section
/-! DEFINITION. Identity, secure boot and attestation (17_identity_secure_boot_attestation.md): the fuse load, the image check, anti-rollback,
measurements, attestation. Ed25519 (RFC 8032) is opaque; SHA-512 is Machine/Sha.lean. -/

namespace Sys2Proof.Machine

open Sys2Proof

/-! ### The fuses (R598 to R600, R627) -/

/-- The identity values show in the ROLLBACK register; ID and KEYS read the fuses themselves. -/
def State.rollShow (s : State) : State := s.wr R.SEC_ROLLBACK_COUNT 0 (if s.fuses.lost.contains 12 then 0 else s.fuses.rollback)

/-- The fuse field with a number of R598's, 0 where it lies in a failed row (R599). -/
def State.fuse (s : State) (k v : Nat) : Nat := if s.fuses.lost.contains k then 0 else v

/-- The 16 bytes that begin the identity block and the fuse block (R600, R612). -/
def State.idHead (s : State) : List Nat :=
  let ok := s.rd R.SEC_BOOT_STAT_FUSE_OK 0
  leBytes 2 0xE7A0 ++ leBytes 2 0x96 ++ [s.fuse 5 s.fuses.variant % 256, s.fuse 4 s.fuses.stepping % 256] ++ leBytes 6 (s.fuse 0 s.fuses.lot)
    ++ [s.fuse 1 s.fuses.wafer % 32, s.fuse 2 s.fuses.dieX % 256, s.fuse 3 s.fuses.dieY % 256,
        ok + 2 * b2n (!s.imgDigest.isEmpty) + 4 * s.rd R.SEC_BOOT_STAT_SLOT 0]

/-- The identity block (R600). -/
def State.idBlock (s : State) : List Nat :=
  s.idHead ++ [s.fuse 12 s.fuses.rollback, 0, 0, 0] ++ leBytes 4 (s.rd R.SEC_FW_VERSION_VERSION 0) ++ leBytes 4 (s.rd R.SEC_FW_SVN_SVN 0)
    ++ [0, 0, 0, 0]

/-- FUSE_LOAD_DONE (R599, R626): the fuses are valid, or BOOT ends in LIMP. `lost` names the fields that lie in the failed row. -/
def fuseLoadDone (ok : Bool) (row : Nat) (lost : List Nat) (s : State) : State :=
  if s.modeCode ≠ mBOOT ∨ bitAt s.bootStep 0 ∨ !s.pins.railsOk then s
  else if !ok then
    ({ s with fuses := { s.fuses with badRow := some row, lost := lost } }.flog 0 0x0001 .eccUncorr true (leBytes 4 row)).enterLimp 1
  else
    let s : State := { s with fuses := { s.fuses with badRow := none, lost := [] }, bootStep := setBit s.bootStep 0 }
    let s := (s.wr R.SEC_BOOT_STAT_FUSE_OK 0 1).rollShow
    let s := s.wrWords R.SEC_DEVKEY_WORD 0 0 ((upFrom 0 8).map (Config.devKeyWord s.fuses.secret))
    let s := s.enginesShow.poolShow
    if s.pins.perstHigh ∧ (s.domain 5).st = 3 then s.setDom 5 { s.domain 5 with st := 0 } else s

/-! ### The image slots (R601 to R606) -/

/-- SVN and FW_VERSION of a header as one number that orders them (R603). -/
def hdrKey (h : List Nat) : Nat := leField h 12 4 * 2 ^ 32 + leField h 16 4

/-- Whether a header passes the HEADER check (R601, R602). -/
def hdrOk (h : List Nat) : Bool :=
  let len := leField h 8 4
  leField h 0 4 == 0xE7A00096 && leField h 4 2 == 1 && leField h 7 1 == 0 && allZero ((h.drop 20).take 44) && allZero ((h.drop 224).take 32)
    && decide (4096 ≤ len) && decide (len ≤ 8388352) && len % 64 == 0 && decide (leField h 12 4 ≤ 64)

/-- Whether the key of a header is present, not revoked and the right one (R602). -/
def State.hdrKeyOk (s : State) (h : List Nat) : Bool :=
  let k := leField h 6 1
  decide (k < 4) && bitAt s.fuses.keysPresent k && !bitAt s.fuses.keysRevoked k
    && (sha512 ((h.drop 64).take 32)).take 32 == s.fuses.keyHash.getD k []

/-- The check code of a slot (R602): its header as read, whether the whole body was read, and whether DIGEST and SIGNATURE hold. -/
def State.slotCode (s : State) (h : Option (List Nat)) (bodyRead digestOk sigOk : Bool) : Nat :=
  match h with
  | none => 7
  | some h =>
    if !hdrOk h then 2 else if !s.hdrKeyOk h then 3 else if !bodyRead then 7 else if !digestOk then 4 else if !sigOk then 5
    else if leField h 12 4 < s.rd R.SEC_ROLLBACK_COUNT 0 then 6 else 1

/-- Whether a slot has been tried in this boot. -/
def State.slotTried (s : State) (b : Nat) : Bool := (if b = 0 then s.rd R.SEC_BOOT_STAT_STAT_A 0 else s.rd R.SEC_BOOT_STAT_STAT_B 0) != 0

/-- The slot that is tried next (R603): 0 A, 1 B. -/
def State.slotNext (s : State) (a b : Option (List Nat)) : Nat :=
  if s.on R.SEC_BOOT_NEXT_VALID 0 ∧ !s.slotTried 0 ∧ !s.slotTried 1 then s.rd R.SEC_BOOT_NEXT_SLOT 0
  else if s.slotTried 0 then 1 else if s.slotTried 1 then 0
  else match a, b with
    | some x, some y => if hdrKey x < hdrKey y then 1 else 0
    | _, _ => 0

/-- The fault records of the slots that failed (R604). -/
def State.slotFaults (s : State) : State :=
  let one := fun (s : State) (b c : Nat) => s.flog 4 0x0002 (if c = 7 then .notReady else .auth) true [b, c]
  one (one s 0 (s.rd R.SEC_BOOT_STAT_STAT_A 0)) 1 (s.rd R.SEC_BOOT_STAT_STAT_B 0)

/-- IMAGE_CHECK_DONE: the ROM has checked the next slot (R602 to R605): a valid one runs; when neither is, BOOT ends in LIMP. `ms` is how long
the image check has taken so far. -/
def imageCheckDone (hdrA hdrB : Option (List Nat)) (bodyRead digestOk sigOk : Bool) (ms : Nat) (s : State) : State :=
  if s.modeCode ≠ mBOOT ∨ !bitAt s.bootStep 0 ∨ bitAt s.bootStep 1 ∨ !s.pins.railsOk then s
  else
    let b := s.slotNext hdrA hdrB
    let h := if b = 0 then hdrA else hdrB
    let c := s.slotCode h bodyRead digestOk sigOk
    let s := if s.on R.SEC_BOOT_NEXT_VALID 0 then (s.wr R.SEC_BOOT_STAT_NEXT_USED 0 1).wr R.SEC_BOOT_NEXT_VALID 0 0 else s
    let s := s.wr (if b = 0 then R.SEC_BOOT_STAT_STAT_A else R.SEC_BOOT_STAT_STAT_B) 0 c
    let s := s.wr R.MGT_BOOT_TIME_IMAGE_MS 0 (min ms 1023)
    if c = 1 then
      let x := h.getD []
      let s := ((s.wr R.SEC_BOOT_STAT_SLOT 0 b).wr R.SEC_BOOT_STAT_KEY_INDEX 0 (leField x 6 1)).wr R.SEC_FW_VERSION_VERSION 0 (leField x 16 4)
      { s.wr R.SEC_FW_SVN_SVN 0 (leField x 12 4) with imgDigest := (x.drop 96).take 64, bootStep := setBit s.bootStep 1 }
    else if s.slotTried 0 && s.slotTried 1 then s.slotFaults.enterLimp 2
    else s

/-! ### Anti-rollback (R607 to R609) -/

/-- A write of SEC.SVN_COMMIT (R608). -/
def svnCommit (p data : Nat) (s : State) : State :=
  let n := bitsOf data 0 7
  s.gate p 0x70010 true
    [ (!isCore p && p != pPF, .protected'), (decide (64 < n), .decode), (decide (s.rd R.SEC_FW_SVN_SVN 0 < n), .protected'),
      (s.on R.SEC_ROLLBACK_BURN 0, .busy) ]
    fun s => if n ≤ s.rd R.SEC_ROLLBACK_COUNT 0 then s else { s.wr R.SEC_ROLLBACK_BURN 0 1 with burnTo := n }

/-- ROLLBACK_BIT_BURN: the next bit is blown; the last one ends the burn (R608). -/
def rollbackBitBurn (s : State) : State :=
  if !s.on R.SEC_ROLLBACK_BURN 0 then s
  else
    let s := { s with fuses := { s.fuses with rollback := min 64 (s.fuses.rollback + 1) } }.rollShow
    if s.rd R.SEC_ROLLBACK_COUNT 0 < s.burnTo then s
    else ({ s with burnTo := 0 }.wr R.SEC_ROLLBACK_BURN 0 0).flag R.SEC_EVT_FLAGS 0x00070144 0 0 0

/-- A write of SEC.BOOT_NEXT. -/
def bootNextWrite (p data : Nat) (s : State) : State :=
  s.gate p 0x70014 true [(!isCore p && p != pPF, .protected')] fun s =>
    (s.wr R.SEC_BOOT_NEXT_VALID 0 (bitsOf data 1 1)).wr R.SEC_BOOT_NEXT_SLOT 0 (bitsOf data 0 1)

/-! ### Measurements (R612) -/

/-- The bytes of a record from TAG to CHECK (R555). -/
def State.recordBytes (s : State) (r : Record) : List Nat :=
  memReadBytes s.nvs.sram r.addr (12 + 4 * ceilDiv r.payload.length 4)

/-- The bytes that DEF_DIGEST covers: the current records of tags 0x0100 to 0x01FF in ascending tag order. -/
def State.defBytes (s : State) : List Nat :=
  let l := s.activeLog.1
  (upFrom 0x100 0x100).flatMap fun t => match currentRec l t with
    | some r => s.recordBytes r
    | none => []

/-- The fuse block that FUSE_DIGEST covers. -/
def State.fuseBlock (s : State) : List Nat :=
  s.idHead ++ [s.fuses.keysPresent % 16 + 16 * (s.fuses.keysRevoked % 16), s.fuses.rollback] ++ List.replicate 14 0
    ++ (upFrom 0 4).flatMap (fun k => (s.fuses.keyHash.getD k [] ++ List.replicate 8 0).take 8)

/-- At the end of BOOT the three measurements are fixed (R612). -/
def State.measure (s : State) : State :=
  let s := s.wrWords R.SEC_FW_DIGEST_WORD 0 0 (leWords 16 (sha512 s.imgDigest))
  let s := s.wrWords R.SEC_DEF_DIGEST_WORD 0 0 (leWords 16 (sha512 s.defBytes))
  s.wrWords R.SEC_FUSE_DIGEST_WORD 0 0 (leWords 16 (sha512 s.fuseBlock))

/-! ### Attestation (R613 to R615) -/

/-- The bytes of a digest register. -/
def State.digestBytes (s : State) (f : Fld) : List Nat := (upFrom 0 16).flatMap fun k => leBytes 4 (s.rdk f 0 k)

/-- A report over a nonce (R613). -/
def State.report (s : State) (nonce : List Nat) : List Nat :=
  let body := leBytes 2 1 ++ leBytes 2 384 ++ [s.fuses.variant % 256, s.fuses.stepping % 256, 0, 0] ++ leBytes 6 s.fuses.lot
    ++ [s.fuses.wafer % 32, s.fuses.dieX % 256, s.fuses.dieY % 256, s.rd R.SEC_BOOT_STAT_SLOT 0, s.rd R.SEC_ROLLBACK_COUNT 0, s.modeCode]
    ++ leBytes 4 (s.rd R.SEC_FW_VERSION_VERSION 0) ++ leBytes 4 (s.rd R.SEC_FW_SVN_SVN 0) ++ [0, 0, 0, 0]
    ++ s.digestBytes R.SEC_FW_DIGEST_WORD ++ s.digestBytes R.SEC_DEF_DIGEST_WORD ++ s.digestBytes R.SEC_FUSE_DIGEST_WORD
    ++ (nonce ++ List.replicate 32 0).take 32 ++ leBytes 8 s.epochStamp ++ List.replicate 56 0
  body ++ (upFrom 0 64).map (fun i => Config.signature s.fuses.secret (sha512 body) i % 256)

/-- ATTEST, opcode 0x0090: the checks; a command that passes waits for the security unit (R614, R615). -/
def attest (f : Nat) (payload : List Nat) (s : State) : State :=
  match tfind s.taken f with
  | none => s
  | some t =>
    if t.opcode ≠ 0x90 ∨ s.attQ.any (fun e => e.1 == f) then s
    else
      let st := check (s.admChecks f t 384 384 payload true true)
      if st ≠ .ok then s.complete f t st 0 0 else { s with attQ := s.attQ ++ [(f, payload.take 32)] }

/-- ATTEST_REPORT_DONE: the oldest report is signed, written over its block, and the command completes (R613, R615). -/
def attestReportDone (s : State) : State :=
  match s.attQ with
  | [] => s
  | (f, nonce) :: l =>
    let s : State := { s with attQ := l }
    match tfind s.taken f with
    | none => s
    | some t => if t.opcode = 0x90 then (s.send (.hostWrite f t.payAddr (s.report nonce))).complete f t .ok 0 384 else s

/-- FUSE_LOAD_DONE. -/
def execFuseLoadDone (ok : Bool) (row : Nat) (lost : List Nat) (s : State) : Res := .next (fuseLoadDone ok row lost s)
/-- IMAGE_CHECK_DONE. -/
def execImageCheckDone (hdrA hdrB : Option (List Nat)) (bodyRead digestOk sigOk : Bool) (ms : Nat) (s : State) : Res :=
  .next (imageCheckDone hdrA hdrB bodyRead digestOk sigOk ms s)
/-- SVN_COMMIT. -/
def execSvnCommit (p data : Nat) (s : State) : Res := .next (svnCommit p data s)
/-- ROLLBACK_BIT_BURN. -/
def execRollbackBitBurn (s : State) : Res := .next (rollbackBitBurn s)
/-- ATTEST. -/
def execAttest (f : Nat) (payload : List Nat) (s : State) : Res := .next (attest f payload s)
/-- ATTEST_REPORT_DONE. -/
def execAttestReportDone (s : State) : Res := .next (attestReportDone s)

end Sys2Proof.Machine
end

