-- ==== Sys2Proof/Machine/Access.lean ====
section
/-! DEFINITION. Register access as a whole: the register at an offset, what a read shows, and a write of any register (R14 to R16, R30 to R35,
R72, R108, R109, R472). A register with a command of its own goes to that command's meaning. -/

namespace Sys2Proof.Machine

open Sys2Proof

/-! ### The register at an offset -/

/-- The indexes of an offset within a register's repetitions, outermost first; a stride of 0 marks one copy for each principal. -/
def regIdx : List (Nat × Nat) → Nat → Option (List Nat)
  | [], o => if o = 0 then some [] else none
  | (st, c) :: l, o =>
    if st = 0 then regIdx l o
    else if o / st < c then (regIdx l (o % st)).map (fun r => o / st :: r)
    else none

/-- The registers whose only repetition is an array of words of one unit. -/
def wordArrays : List Nat := [0x50880, 0x60020, 0x60100, 0x70040, 0x70080, 0x700C0, 0x70100]

/-- The unit and index of a register as the register file keys them: a transmit register by the sender's set, NVS.PORT_ADDR by principal. -/
def placeOf (base p : Nat) (l : List Nat) : Nat × Nat :=
  if wordArrays.contains base then (0, l.headD 0)
  else if 0x31000 ≤ base ∧ base < 0x31040 then (senderOf p, 0)
  else if base = 0x40010 then (p, 0)
  else match l with
    | [] => (0, 0)
    | [i] => (i, 0)
    | [i, j] => (i, j)
    | i :: j :: k :: _ => (i, 12 * j + k)

/-- The register at an offset, with its unit and index. -/
def regAt (p a : Nat) : Option (RegSpec × Nat × Nat) :=
  R.regMap.findSome? fun r => if r.base ≤ a then (regIdx r.dims (a - r.base)).map (fun l => (r, placeOf r.base p l)) else none

/-- The job slot of a CVA offset: engine and slot. -/
def slotAt (a : Nat) : Option (Nat × Nat) :=
  if blkOf a = .cva ∧ 0x2000 ≤ (a - 0x400000) % 0x4000 ∧ (a - 0x400000) % 0x4000 < 0x3000 then
    some ((a - 0x400000) / 0x4000, ((a - 0x400000) % 0x4000 - 0x2000) / 0x200)
  else none

/-- Whether a register belongs to something that is not there, so that it reads 0 and ignores writes: a job slot without a job, a Plaza
destination without one (R235), a candidate that is not connected or absent (R450), MB12 to MB15 without a Twin link, the SDI, bypass and LIMP
registers of a twin lane or the timing lane, the framing registers of the timing lane. -/
def State.emptyAt (s : State) (a : Nat) : Bool :=
  let n := unitOf a
  let o := (a - 0x100000) % 0x1000
  match blkOf a with
  | .cva => (slotAt a).any (fun e => (s.jobInSlot e.1 e.2).isNone)
  | .plz => decide (0x301000 ≤ a) && decide (96 ≤ n) && (tfind s.jobs (n - 96)).isNone
  | .ref => decide (0x50400 ≤ a) && decide (a < 0x50700)
      && (decide (9 ≤ (a - 0x50400) / 0x40) || ((a - 0x50400) / 0x40 == 8 && !s.twin))
  | .mbx => decide (0x30C00 ≤ a) && decide (a < 0x31000) && !s.twin
  | .lne => decide (96 ≤ n) && (o == 0x14 || o == 0x54 || (decide (0x100 ≤ o) && decide (o < 0x140)) || (n == 104 && decide (0x100 ≤ o) && decide (o < 0x200)))
  | _ => false

/-! ### What a read shows -/

/-- The value of a field as a read shows it: what the fuses, the straps and other state give, or what the register file holds; a write-only
field reads 0. -/
def State.fieldNow (s : State) (f : Fld) (u k : Nat) : Nat :=
  if f.acc = .wo then 0
  else if f = R.ID_VARIANT_STEPPING then s.fuses.stepping
  else if f = R.ID_VARIANT_VARIANT then s.fuses.variant
  else if f = R.ID_CAP_UNITS_ARCADE then s.engines
  else if f = R.ID_CAP_UNITS_PIPES ∨ f = R.ID_CAP_UNITS_LANES then s.lanes
  else if f = R.ID_CAP_FEAT_SCREENED then b2n s.row.screened
  else if f = R.ID_CAP_FEAT_STENCIL_SKIM then b2n s.stencil
  else if f = R.ID_CAP_FEAT_TWIN then b2n s.twin
  else if f = R.ID_CAP_FEAT_AUDIO then b2n s.audio
  else if f = R.ID_CAP_FEAT_HBM_STACKS then s.row.hbmStacks
  else if f = R.ID_CAP_POOLS_CREDITS then s.credits
  else if f = R.ID_CAP_POOLS_FETCH_SHARED then s.fetchShared
  else if f = R.ID_CAP_MEM_HBM_GIB then 24 * s.row.hbmStacks
  else if f = R.ID_LOT_LO_LOT then s.fuses.lot
  else if f = R.ID_LOT_HI_LOT then s.fuses.lot / 2 ^ 32
  else if f = R.ID_DIE_WAFER then s.fuses.wafer
  else if f = R.ID_DIE_X then s.fuses.dieX
  else if f = R.ID_DIE_Y then s.fuses.dieY
  else if f = R.LNE_STATUS_LOOP_ACTIVE then b2n (s.rd R.LNE_LOOP_SEL u != 0)
  else if f = R.LNE_GL_QW_AGE_AGE_MS then s.qwAge u
  else if f = R.LNE_STATUS_BOARD_ID then s.pins.boardId
  else if f = R.LNE_ESCAN_CAL_VSTEP_UV then (tfind s.fuses.vstepUv u).getD (1500 + Config.vstep u % 2001)
  else if f = R.LNE_CTL_TX_RATE then s.txRate u
  else if f = R.LNE_STATUS_TX_STATE then s.txState u
  else if f = R.LNE_STATUS_BAND ∨ f = R.LNE_EQ_EFF_BAND then s.rxBand u
  else if f = R.LNE_EQ_EFF_TX_BAND then bandOf (s.txRate u)
  else if f = R.LNE_EQ_EFF_SETTINGS then s.eqUsed u
  else if f = R.REF_PTP_STAT_LINK then b2n (s.rd R.LNE_STATUS_RX_STATE 104 == rxLOCKED)
  else if f = R.INP_STAT_MEMBER then b2n (s.quadMember u)
  else if f = R.PLZ_ISO_BUDGET_MBPS then s.isoBudget
  else if f = R.REF_EPOCH_NS_NS then s.epochNs
  else if f = R.MBX_MB_CFG_RECV then mbRecv u
  else if f = R.MBX_MB_STAT_DOM then (s.domain (mbDomain u)).st
  else if f = R.MBX_LK_PEEK_OWNER then s.rd R.MBX_LK_OWNER u
  else if f = R.NVS_SCAN_AGE_H then s.scanAge
  else if f = R.TWN_STAT_SIDE then b2n s.pins.side
  else if f = R.TWN_XF_BUDGET_MBITS then s.xfBudget
  else if f = R.SEC_KEYS_REVOKED then s.fuses.keysRevoked
  else if f = R.SEC_KEYS_PRESENT then s.fuses.keysPresent
  else if f = R.MGT_DOM_STAT_STATE then (s.domain (s.rd R.MGT_DOM_SEL_DOMAIN 0)).st
  else if f = R.MGT_DOM_STAT_PRESENT then b2n (s.domPresent (s.rd R.MGT_DOM_SEL_DOMAIN 0))
  else if f = R.MGT_DOM_STAT_RESETS then (s.domain (s.rd R.MGT_DOM_SEL_DOMAIN 0)).resets
  else if f = R.MGT_THERM_TRIP_C then 120
  else s.rdk f u k

/-- A register word as a read shows it. -/
def State.wordNow (s : State) (r : RegSpec) (u k : Nat) : Nat :=
  r.flds.foldl (fun a f => a + s.fieldNow f u k % 2 ^ f.width * 2 ^ f.lo) 0

/-- The low words of the 64-bit counters (R108): AUD.GRID, AUD.GRID_OFS, AUD.TAP_G0, REF.DCO, REF.HO. -/
def counterLows : List Nat := [0x700000, 0x700014, 0x706808, 0x50014, 0x50024]

/-- The place of a principal's holding register for a low word. -/
def holdKey (p a : Nat) : Nat := p * 2 ^ 28 + a

/-- The data of a read and the state after it: a low word, or REF.EPOCH_NS, loads the reader's holding register, and the words above return it
(R108, R109, R472). -/
def State.readWord (s : State) (p a : Nat) (r : RegSpec) (u k : Nat) : State :=
  if counterLows.contains r.base then
    let hi := match regAt p (a + 4) with
      | some (r', u', k') => s.wordNow r' u' k'
      | none => 0
    ({ s with hold := tset 0 s.hold (holdKey p a) hi }).respond (s.wordNow r u k)
  else if counterLows.contains (r.base - 4) then s.respond (tget 0 s.hold (holdKey p (a - 4)))
  else if r.base = 0x50034 then ({ s with hold := tset 0 s.hold (holdKey p a) (s.epoch / 1000000000 % 2 ^ 48) }).respond (s.wordNow r u k)
  else if r.base = 0x50038 then s.respond (tget 0 s.hold (holdKey p 0x50034) % 2 ^ 32)
  else if r.base = 0x5003C then s.respond (tget 0 s.hold (holdKey p 0x50034) / 2 ^ 32)
  else if s.emptyAt a then s.respond 0
  else s.respond (s.wordNow r u k)

/-- The offset of the read-only view of the transmit sets, and the set it shows. -/
def viewAt (a : Nat) : Option (Nat × Nat) :=
  if 0x31400 ≤ a ∧ a < 0x31400 + 0x40 * 6 then some ((a - 0x31400) / 0x40, 0x31000 + (a - 0x31400) % 0x40) else none

/-- A read of a register, or of the store's data window. -/
def regRead (p a : Nat) (s : State) : State :=
  if blkOf a = .nvsData then
    s.gate p a false (s.nvsChecks (a - 0x1000000) false) (fun s => s.respond (s.nvsWord (a - 0x1000000)))
  else if a = 0x40014 then nvsPortData p false 0 s
  else if 0x32000 ≤ a ∧ a < 0x32100 ∧ a % 16 = 0 then lockRead p ((a - 0x32000) / 16) s
  else match viewAt a with
    | some (u, a') =>
      s.gate p a false [((regAt p a').isNone, .decode), (!isCore p && p != pDebug, .protected')] fun s =>
        match regAt p a' with
        | some (r, _, _) => s.respond (s.wordNow r u 0)
        | none => s
    | none =>
      let rx := decide (0x30000 ≤ a) && decide (a < 0x31000) && decide (0x10 ≤ a % 0x100) && decide (a % 0x100 < 0x20)
      s.gate p a false
        [((regAt p a).isNone && !s.absentAt a, .decode), (rx && !receives p ((a - 0x30000) / 0x100) && p != pDebug, .protected')]
        fun s => match regAt p a with
          | some (r, u, k) => s.readWord p a r u k
          | none => s

/-! ### The checks of a write -/

/-- The staging registers, which only cue engines write (R39). -/
def stagingBases : List Nat :=
  [0x301000, 0x301004, 0x501000, 0x501004, 0x501008, 0x50100C, 0x501010, 0x501014, 0x501018, 0x501020, 0x501804, 0x501808, 0x501820, 0x501824,
   0x502000, 0x502004, 0x502008, 0x50200C, 0x710000, 0x710004, 0x710008, 0x20010C, 0x402010]

/-- The ring bound to the audio slot of an offset. -/
def State.slotRing (s : State) (a : Nat) : Nat :=
  if a < 0x706800 then s.rd R.AUD_INS_RING_RING ((a - 0x706000) / 0x20) else s.rd R.AUD_TAP_RING_RING ((a - 0x706800) / 0x20)

/-- Whether a principal is a writer of the registers at an offset: the holder of a port, a pipeline or a timeline, the Stencil owner, the owner
of a job or of a bound ring, the writers the REF, TWN and MBX chapters name. -/
def State.mayWrite (s : State) (p a : Nat) : Bool :=
  let n := unitOf a
  s.replay || match blkOf a with
    | .inp => s.holds p kInput n
    | .plz => if a < 0x301000 then true else if n < 96 then s.holds p kPipe n else (tfind s.jobs (n - 96)).isNone || s.ownsJob p (n - 96)
    | .cva => match slotAt a with
      | some e => match s.jobInSlot e.1 e.2 with
        | some i => s.ownsJob p i
        | none => true
      | none => true
    | .out =>
      if a % 0x4000 = 0x17D4 ∨ a % 0x4000 = 0x17D8 then s.stnOwner n != noSession && s.prinOf (s.stnOwner n) == p else s.holds p kPipe n
    | .aud =>
      if 0x706000 ≤ a ∧ a < 0x707000 then
        let h := s.slotRing a
        h == 0 || s.badHandle h || s.prinOf (s.hobj h).owner == p
      else true
    | .ref =>
      if 0x51000 ≤ a ∧ a < 0x51400 then s.holds p kTimeline ((a - 0x51000) / 0x40)
      else if 0x50400 ≤ a ∧ a < 0x50800 then true
      else refWriter p
    | .twn => (decide (1 ≤ p) && decide (p ≤ 5)) || p == pPF
    | .mbx => if a < 0x31000 then receives p ((a - 0x30000) / 0x100) else true
    | _ => true

/-- Whether the unit whose RWS fields a register holds is STOPPED (R30, R41, R124). -/
def State.rwsStopped (s : State) (a u : Nat) : Bool :=
  match blkOf a with
  | .lne => !s.laneRuns u
  | .inp => s.rd R.INP_STAT_LC_STATE u == lcSTOPPED
  | .out => s.rd R.OUT_STAT_LC_STATE u == lcSTOPPED
  | .aud => if a < 0x704000 then s.rd R.INP_STAT_LC_STATE u == lcSTOPPED else s.rd R.OUT_STAT_LC_STATE u == lcSTOPPED
  | .ref => !s.on R.REF_PTP_CFG_ENABLE 0
  | .mbx => !s.on R.MBX_ADMQ_CFG_ACTIVE u
  | _ => true

/-- Whether a write changes an RWS field (R30). -/
def State.rwsChanged (s : State) (r : RegSpec) (u k data : Nat) : Bool :=
  r.flds.any fun f => f.acc == .rws && bitsOf data f.lo f.width != s.rdk f u k

/-- Whether the value of a write is one the register's chapter refuses with SC_DECODE. -/
def State.badValue (s : State) (a base u data : Nat) : Bool :=
  let v := fun (f : Fld) => bitsOf data f.lo f.width
  if base = 0x200004 then
    v R.INP_CFG_DEPTH < 3 || 8 < v R.INP_CFG_DEPTH || 16 < v R.INP_CFG_DELAY || v R.INP_CFG_LOCK_FRAMES < 2 || 15 < v R.INP_CFG_LOCK_FRAMES
      || 4 < v R.INP_CFG_MAX_STRUCT || (0 < v R.INP_CFG_MAX_STRUCT && v R.INP_CFG_MAX_CLASS == 0)
  else if base = 0x200200 then v R.INP_ANCF_MATCH_STREAM == 3
  else if base = 0x100100 then
    bitAt data 31 && (u % 4 != 0 || (!s.on R.LNE_SDI_CFG_QUAD u && (upFrom u 4).any (fun i => s.rd R.LNE_CTL_MODE i != mdSDI)))
  else if base = 0x100140 then u == 96 && !([1, 2, 4, 8].contains (v R.LNE_GL_CFG_WIDTH))
  else if base = 0x5017D4 then v R.OUT_STN_CFG_STALE_LIMIT == 0
  else if base = 0x701000 then v R.AUD_IN_CFG_LS_SLEW_PPM < 1 || 1000 < v R.AUD_IN_CFG_LS_SLEW_PPM
  else if base = 0x701004 then v R.AUD_IN_FIXED_LS_FIXED_US < 1000 || 1000000 < v R.AUD_IN_FIXED_LS_FIXED_US
  else if base = 0x50004 then
    v R.REF_LIMITS_SOFT_PPB == 0 || v R.REF_LIMITS_HARD_PPB == 0 || v R.REF_LIMITS_HARD_PPB ≤ v R.REF_LIMITS_SOFT_PPB
  else if base = 0x50008 then
    v R.REF_LIMITS2_DIS_PPB == 0 || v R.REF_LIMITS2_PULL_PPM == 0 || 200 < v R.REF_LIMITS2_PULL_PPM
  else if base = 0x5000C then v R.REF_HO_CFG_WINDOW_S < 60
  else if base = 0x20014 then v R.FAB_LOCK_CFG_TIMEOUT < 64
  else if base = 0x10020 then v R.MGT_THERM_WARN_C < 70 || 110 < v R.MGT_THERM_WARN_C
  else decide (a % 4 ≠ 0)

/-- The checks of the target of a write (R15, R30, R39, and the chapter of the register). -/
def State.writeChecks (s : State) (p a data : Nat) (r : RegSpec) (u k : Nat) : List (Bool × Status) :=
  [ (stagingBases.contains r.base || !s.mayWrite p a, .protected'),
    (r.base == 0x100050 && data % 4 != 0 && s.modeCode != mSERVICE, .mode),
    (!s.emptyAt a && s.badValue a r.base u data, .decode),
    (!s.emptyAt a && s.rwsChanged r u k data && !s.rwsStopped a u, .unitRunning) ]

/-! ### The effect of a write -/

/-- Whether a field takes the write: GL_CFG.WIDTH only on TL0. -/
def fieldTakes (f : Fld) (u : Nat) : Bool :=
  (f.acc == .rw || f.acc == .rws || f.acc == .w1s || f.base == 0x34000) && !(f == R.LNE_GL_CFG_WIDTH && u != 96)

/-- The value a field takes: a W1S field keeps its ones; TWN.CMP_EN has no bits for absent pipelines. -/
def State.fieldNew (s : State) (f : Fld) (u k data : Nat) : Nat :=
  let v := bitsOf data f.lo f.width
  if f.acc = .w1s then s.rdk f u k ||| v
  else if f = R.TWN_CMP_EN_PIPES then v % 2 ^ (s.lanes - 32 * k)
  else v

/-- The fields of a register as written (R33: reserved and read-only bits are ignored). -/
def State.storeWord (s : State) (r : RegSpec) (u k data : Nat) : State :=
  r.flds.foldl (fun (s : State) f => if fieldTakes f u then s.wrk f u k (s.fieldNew f u k data) else s) s

/-- A clear of W1C flags; `again` are the bits the hardware sets again in the same cycle (R31, R32). -/
def State.w1cClear (s : State) (f : Fld) (u k data again : Nat) : State :=
  (upFrom 0 f.width).foldl (fun (s : State) b => if bitAt again b then s.flag f (f.base + 4) u k b else s)
    (s.wrk f u k (clearBits (s.rdk f u k) data))

/-- A write to a W1C event register: MIRROR does not lock it (R574). -/
def State.writeFlags (s : State) (p a data again : Nat) (f : Fld) (u k : Nat) : State :=
  s.answer p a true (s.fabricChecks p a true ++ [(!s.mayWrite p a, .protected')]) fun s =>
    if s.emptyAt a then s else s.w1cClear f u k (data % 2 ^ 32) again

/-- A write to a register without a meaning of its own. -/
def State.writeWord (s : State) (p a data again : Nat) : State :=
  match regAt p a with
  | none => s.gate p a true [(!s.absentAt a, .decode)] id
  | some (r, u, k) =>
    match r.flds.find? (fun f => f.acc == .w1c) with
    | some f => s.writeFlags p a data again f u k
    | none =>
      s.gate p a true (s.writeChecks p a data r u k) fun s =>
        if s.emptyAt a then s
        else
          let was := s.wordNow r u k
          let s := s.storeWord r u k data
          if r.base = 0x100100 ∧ u < 96 ∧ u % 4 = 0 ∧ s.on R.LNE_SDI_CFG_QUAD u ≠ bitAt was 31 then s.quadChange u else s

/-- A write to a lifecycle register: START and STOP together fail with SC_DECODE (R670); an empty job slot ignores the
write. -/
def State.lcWrite (s : State) (p a data : Nat) (start stop : State → State) : State :=
  if s.emptyAt a then s.gate p a true [] id
  else if bitAt data 0 && bitAt data 1 then s.gate p a true [(true, .decode)] id
  else if bitAt data 0 then start s
  else if bitAt data 1 then stop s
  else s.gate p a true [(!s.mayWrite p a, .protected')] id

/-! ### The firewall region table (R510, R512) -/

/-- A write to word `w` of region `r`: 0 BASE_LO, 1 BASE_HI, 2 LIM_LO, 3 LIM_HI. The entries of the NVS block are read-only, and BASE_HI brings the
entry into force. -/
def fwRegionWrite (p r w data : Nat) (s : State) : State :=
  s.gate p (0x24000 + 16 * r + 4 * w) true [(decide (512 ≤ r) || decide (4 ≤ w), .decode)] fun s =>
    if r < 4 then s
    else if w = 0 then s.wr R.FAB_FW_BASE_LO_BASE r data
    else if w = 2 then s.wr R.FAB_FW_LIM_LO_LIMIT r data
    else if w = 3 then s.wr R.FAB_FW_LIM_HI_LIMIT r data
    else
      ((((((s.wr R.FAB_FW_BASE_HI_ENABLE r (bitsOf data 31 1)).wr R.FAB_FW_BASE_HI_SPACE r (bitsOf data 30 1)).wr R.FAB_FW_BASE_HI_RD_LOCK r
        (bitsOf data 29 1)).wr R.FAB_FW_BASE_HI_OWNER r (bitsOf data 8 8)).wr R.FAB_FW_BASE_HI_BASE r data).fwTake r)

/-! ### Any write -/

/-- A write in the S0 blocks to a register with a meaning of its own; none for the others. -/
def writeS0 (p a data : Nat) (s : State) : Option State :=
  if blkOf a = .nvsData then some (nvsDataWrite p (a - 0x1000000) data s)
  else if a = 0x10014 then
    some (if bitAt data 30 then deviceReset p data s
      else if bitAt data 31 then domRequest p 0 s
      else if data % 4 ≠ 0 then domRequest p (data % 4) s
      else s.gate p a true [] id)
  else if a = 0x10030 then some (svcWrite p data s)
  else if 0x24000 ≤ a ∧ a < 0x26000 ∧ a % 4 = 0 then some (fwRegionWrite p ((a - 0x24000) / 16) (a / 4 % 4) data s)
  else if 0x30000 ≤ a ∧ a < 0x31000 ∧ a % 0x100 = 0 then some (mbCfgWrite p ((a - 0x30000) / 0x100) data s)
  else if 0x30000 ≤ a ∧ a < 0x31000 ∧ a % 0x100 = 0x20 then some (mbPop p ((a - 0x30000) / 0x100) data s)
  else if a = 0x31010 then some (txPost p data s)
  else if (viewAt a).isSome then
    some (s.gate p a true [(((viewAt a).bind (fun e => regAt p e.2)).isNone, .decode), (!isCore p && p != pDebug, .protected')] id)
  else if 0x32000 ≤ a ∧ a < 0x32100 ∧ a % 16 = 0 then some (lockWrite p ((a - 0x32000) / 16) data s)
  else if 0x34000 ≤ a ∧ a < 0x34080 ∧ a % 8 = 4 then some (ringDoorbell p ((a - 0x34000) / 8) data s)
  else if 0x38000 ≤ a ∧ a < 0x38400 ∧ a % 0x40 = 0x10 then some (admqEnable p ((a - 0x38000) / 0x40) data s)
  else if a = 0x40000 then some (nvsCfgWrite p data s)
  else if a = 0x40004 then some (nvsCtlWrite p data s)
  else if a = 0x40014 then some (nvsPortData p true data s)
  else if a = 0x50000 then some (refCfgWrite p data s)
  else if a = 0x50020 then some (manHiWrite p data s)
  else if a = 0x50800 then some (ptpCfgWrite p data s)
  else if 0x51000 ≤ a ∧ a < 0x51400 ∧ a % 0x40 = 0 then some (tlnCfgWrite p ((a - 0x51000) / 0x40) data s)
  else if 0x51000 ≤ a ∧ a < 0x51400 ∧ a % 0x40 = 4 then some (tlnPhaseWrite p ((a - 0x51000) / 0x40) data s)
  else if 0x51000 ≤ a ∧ a < 0x51400 ∧ a % 0x40 = 8 then some (tlnSlewWrite p ((a - 0x51000) / 0x40) data s)
  else if a = 0x60000 then some (twnCtlWrite p data s)
  else if 0x60100 ≤ a ∧ a < 0x60120 ∧ a % 4 = 0 then
    let k := (a - 0x60100) / 4
    let x := tget (0, 0, false) s.twnX.xfPeer k
    some (xfCfgWrite p k data x.1 x.2.1 x.2.2 s)
  else if a = 0x70010 then some (svnCommit p data s)
  else if a = 0x70014 then some (bootNextWrite p data s)
  else none

/-- A write in the unit blocks to a register with a meaning of its own; none for the others. -/
def writeUnit (p a data : Nat) (s : State) : Option State :=
  let n := unitOf a
  match blkOf a with
  | .lne =>
    if a % 0x1000 = 0 then some (laneCtlWrite p n data s)
    else if a % 0x1000 = 0x40 then some (escanWrite p n data s)
    else if a % 0x1000 = 0x1FC ∧ n ≠ 104 then some (cntClr p n data s)
    else none
  | .inp =>
    if a % 0x1000 = 0 then some (s.lcWrite p a data (inpStart p n) (inpStop p n))
    else if 0x200 ≤ a % 0x1000 ∧ a % 0x1000 < 0x300 ∧ a % 16 = 8 then some (ancfRingWrite p n ((a % 0x1000 - 0x200) / 16) data s)
    else none
  | .plz => if a = 0x300010 then some (gangCfgWrite p data s) else none
  | .cva =>
    match slotAt a with
    | some (e, sl) => if a % 0x200 = 4 then some (s.lcWrite p a data (jobStart p e sl) (jobStop p e sl)) else none
    | none => none
  | .out =>
    if a % 0x4000 = 0 then some (s.lcWrite p a data (outStart p n) (outStop p n))
    else if a % 0x4000 = 0x24 then some (ancRingWrite p n data s)
    else none
  | .aud =>
    if 0x706000 ≤ a ∧ a < 0x706800 ∧ a % 0x20 = 0 then some (insRingWrite p ((a - 0x706000) / 0x20) data s)
    else if 0x706800 ≤ a ∧ a < 0x707000 ∧ a % 0x20 = 0 then some (tapRingWrite p ((a - 0x706800) / 0x20) data s)
    else none
  | .cue =>
    if 0x80 ≤ a % 0x100 ∧ a % 4 = 0 then some (paramWrite p n ((a % 0x100 - 0x80) / 4) data s) else none
  | _ => none

/-- A write of any register: a register with a meaning of its own by that, any other by the rules of its fields. -/
def writeAny (p a data again : Nat) (s : State) : State :=
  match writeS0 p a data s with
  | some s' => s'
  | none => match writeUnit p a data s with
    | some s' => s'
    | none => s.writeWord p a data again

/-- A register write over the fabric. The primary of a pair records it (R582), but for a parameter word, which has a record of its own. -/
def regWrite (p a data again : Nat) (s : State) : State :=
  if blkOf a = .cue ∧ 0x80 ≤ a % 0x100 then writeAny p a data again s else s.regRec a (data % 2 ^ 32) (writeAny p a data again s)

/-! ### The width of an access (R34, R35) -/

/-- An access of a width that BAR0 and the fabric do not take (R34). In LIMP every access is answered as the mode says (R71). -/
def State.badWidth (s : State) (p a : Nat) (write : Bool) : State :=
  s.deny (if s.modeCode = mLIMP then (if isFn p then .mode else .domainOff) else .decode) p a write

/-- The response to a host access of 64 bits, from those of its two halves: the first status that is not OK, and both data words. -/
def Resp.pair (lo hi : Resp) : Resp := ⟨if lo.status = 0 then hi.status else lo.status, lo.data + 2 ^ 32 * hi.data⟩

/-- A write of `width` bytes: 4, or by a host function 8, which is two accesses, the lower address first (R34, R35). -/
def busWrite (p a width data again : Nat) (s : State) : State :=
  if width = 4 then regWrite p a data again s
  else if width = 8 ∧ isFn p then
    if s.waits p a true then { s with resp := Resp.waiting } else
    let lo := regWrite p a (data % 2 ^ 32) (again % 2 ^ 32) s
    let hi := regWrite p (a + 4) (data / 2 ^ 32) (again / 2 ^ 32) lo
    { hi with resp := lo.resp.pair hi.resp }
  else s.badWidth p a true

/-- A read of `width` bytes (R34, R35). -/
def busRead (p a width : Nat) (s : State) : State :=
  if width = 4 then regRead p a s
  else if width = 8 ∧ isFn p then
    if s.waits p a false then { s with resp := Resp.waiting } else
    let lo := regRead p a s
    let hi := regRead p (a + 4) lo
    { hi with resp := lo.resp.pair hi.resp }
  else s.badWidth p a false

/-- An access that carries the mark of a locked sequence (R501): 0 none, 1 LOCK, 2 UNLOCK. Only a control core pair or debug issues locked sequences:
the mark of any other master, and that of an access that the fabric does not take to its target, does nothing. LOCK begins a sequence, also after a broken
one. -/
def State.marked (s : State) (p a : Nat) (write : Bool) (mark : Nat) (act : State → State) : State :=
  if mark = 0 ∨ (!isCore p && p != pDebug) then act s
  else
    let s : State := if mark = 1 then { s with locks := tdel s.locks (lockKey p a) } else s
    if mark = 1 then act (if check (s.fabricChecks p a write) = .ok then { s with locks := tput s.locks (lockKey p a) false } else s)
    else if s.waits p a write then act s else { act s with locks := tdel (act s).locks (lockKey p a) }

/-- REGISTER_WRITE. -/
def execRegisterWrite (p addr width data mark : Nat) (s : State) : Res := .next (s.marked p addr true mark (busWrite p addr width data 0))
/-- W1C_FLAG_CLEAR. -/
def execW1cFlagClear (p addr width data again : Nat) (s : State) : Res := .next (busWrite p addr width data again s)
/-- COUNTER_LOW_READ. -/
def execCounterLowRead (p addr width mark : Nat) (s : State) : Res := .next (s.marked p addr false mark (busRead p addr width))
/-- EPOCH_NS_READ. -/
def execEpochNsRead (p : Nat) (s : State) : Res := .next (regRead p 0x50034 s)
/-- FW_REGION_WRITE. -/
def execFwRegionWrite (p r word data : Nat) (s : State) : Res := .next (fwRegionWrite p r word data s)

end Sys2Proof.Machine
end

