-- ==== Sys2Proof/Machine/CueUnits.lean ====
section
/-! DEFINITION. The lifecycle instructions of the cue threads: UHALT, USET and URUN (R433). -/

namespace Sys2Proof.Machine

open Sys2Proof

/-- The BAR0 offset of the registers of a unit: an input port, a pipeline, or the slot of a job. -/
def State.unitBase (s : State) (h : Nat) : Nat :=
  if hKind h = kInput then 0x200000 + 0x1000 * hIdx h
  else if hKind h = kPipe then 0x500000 + 0x4000 * hIdx h
  else match tfind s.jobs (hIdx h) with
    | some j => 0x402000 + 0x4000 * j.head + 0x200 * j.slot
    | none => 0

/-- The offset of the lifecycle register of a unit. -/
def State.unitLcAddr (s : State) (h : Nat) : Nat := s.unitBase h + (if hKind h = kJob then 4 else 0)

/-- The offset of the register a SEL below 0x80 names; none for another SEL (R433). -/
def State.usetAddr (s : State) (h sel : Nat) : Option Nat :=
  let n := hIdx h
  if hKind h = kInput then
    ([4, 8, 0xC, 0x10, 0x14][sel]?).map (s.unitBase h + ·) <|> (if sel = 5 then some (0x701000 + 0x80 * n) else if sel = 6 then some (0x701004 + 0x80 * n) else none)
  else if hKind h = kPipe then
    if sel = 8 then some (0x704000 + 0x40 * n)
    else ([4, 8, 0xC, 0x20, 0x24, 0x1800, 0x18A0, 0x18A4, 0, 0x17D0, 0x17D4, 0x17D8][sel]?).map (s.unitBase h + ·)
  else ([0x14, 0x18][sel]?).map (s.unitBase h + ·)

/-- The error log names the lifecycle path of the thread's engine as the master (R492). -/
def State.relog (s : State) (t : Nat) : State :=
  let e := (s.rd R.FAB_ERR_WR_INDEX 0 + 63) % 64
  let v := s.rd R.FAB_ERR_INFO_INFO e
  s.wr R.FAB_ERR_INFO_INFO e (v / 256 * 256 + (0x20 + t / 16) * 4 + v % 4)

/-- A register write over the lifecycle path as the principal of the binding session: the state after it, and its status. A secondary's thread
runs in step with the primary's (R444), so that the lock of MIRROR does not meet it (R574 names the host functions and the control cores). -/
def State.cueReg (s : State) (t a data : Nat) (lc : Bool) : State × Nat :=
  let p := s.prinOf (s.cueSess t)
  let mir := s.modeCode == mMIRROR
  if mir && !(s.mayWrite p a || (lc && isCore p)) then
    (((s.logErr .protected' p (0x20 + t / 16) true false a 0)), Status.protected'.code)
  else
    let r := writeAny (if mir then pTwin else p) a data 0 { s with replay := s.replay || mir, locks := [] }
    let r' : State := { r with replay := s.replay, resp := s.resp, locks := s.locks }
    if r.resp.status = 0 then (r', 0) else (r'.relog t, r.resp.status)

/-- The checks of the handle of a unit (R433): an object of another session than the thread's is refused (R78). -/
def State.unitChecks (s : State) (t h : Nat) : List (Bool × Status) :=
  s.handleChecks (s.cueSess t) h (!([kInput, kPipe, kJob].contains (hKind h)))

/-- A register write of a thread to a unit (R433): it meets the checks of the handle and those of the write by the session's principal, and the
first of all of them in the order of R20 is its status. -/
def State.cueUnitWrite (s : State) (t : Nat) (i : Ins) (h a data : Nat) (lc : Bool) (go : State → State) : State :=
  let own := check (s.unitChecks t h)
  let named := !s.badHandle h || ((hKind h == kInput || hKind h == kPipe) && decide (hIdx h < 96))
  let r := s.cueReg t a data lc
  if own ≠ .ok ∧ (!named ∨ r.2 = 0 ∨ own.rank ≤ (statusOf r.2).rank) then s.cueFail t i own 0xFF
  else if r.2 ≠ 0 then r.1.cueFail t i (statusOf r.2) 0xFF
  else go r.1

/-- A lifecycle request of a thread: `bits` is what it writes to the lifecycle register, `want` what WAIT waits for. -/
def State.cueLife (s : State) (t op bits want : Nat) : State :=
  s.cueIssue t op fun i =>
    let h := s.operand t i
    s.cueUnitWrite t i h (s.unitLcAddr h) bits true fun r =>
      if bitAt i.x 0 then r.cueWait t (s.cuePc t + 1) (.unit h want) else r.cueOk t (s.cuePc t + 1)

/-- UHALT, 0x50. -/
def cueUhalt (t : Nat) (s : State) : State := s.cueLife t 0x50 2 lcSTOPPED
/-- URUN, 0x52. -/
def cueUrun (t : Nat) (s : State) : State := s.cueLife t 0x52 1 lcRUNNING

/-- The stage entry a SEL of 0x80 and above names. -/
def usetStaged (h sel : Nat) : Option StageKey :=
  if hKind h = kInput ∧ 0x80 ≤ sel ∧ sel < 0x90 then some (.sync h (sel - 0x80))
  else if hKind h = kJob ∧ sel = 0x80 then some (.job h)
  else none

/-- USET, 0x51: the unit is named by g(d). -/
def cueUset (t : Nat) (s : State) : State :=
  s.cueIssue t 0x51 fun i =>
    let h := s.cueG t i.gd
    let known := (s.usetAddr h i.sel).isSome || (usetStaged h i.sel).isSome
    let checks := ([kInput, kPipe, kJob].contains (hKind h) && !known, .decode) :: s.unitChecks t h
    match if check checks = .ok then usetStaged h i.sel else none with
    | some k => s.cueStage t i checks k [(0, s.operand t i)]
    | none =>
      match if [kInput, kPipe, kJob].contains (hKind h) then s.usetAddr h i.sel else none with
      | none => s.cueFail t i (check checks) 0xFF
      | some a => s.cueUnitWrite t i h a (s.operand t i) false fun r => r.cueOk t (s.cuePc t + 1)

/-- UHALT. -/
def execUhalt (t : Nat) (s : State) : Res := .next (cueUhalt t s)
/-- USET. -/
def execUset (t : Nat) (s : State) : Res := .next (cueUset t s)
/-- URUN. -/
def execUrun (t : Nat) (s : State) : Res := .next (cueUrun t s)

end Sys2Proof.Machine
end

