-- ==== Sys2Proof/Machine/Defaults.lean ====
section
/-! DEFINITION. The defaults image (R562 to R565, R135, R153, R445, R446, R128) and the end of BOOT (steps 7 and 8 of R626, R68). -/

namespace Sys2Proof.Machine

open Sys2Proof

/-! ### Register words of the image (R563) -/

/-- The fields marked "image": those a domain reset loads again (R623), and NVS.CFG, whose domain is reset only with the device. -/
def isImage (f : Fld) : Bool := R.imageFlds.contains f || f.base == 0x40000

/-- The value of a register once the image fields of `data` are in it. -/
def State.imageMerge (s : State) (r : RegSpec) (u k data : Nat) : Nat :=
  r.flds.foldl (fun a f =>
    a + (if isImage f then bitsOf data f.lo f.width else s.fieldNow f u k % 2 ^ f.width) * 2 ^ f.lo) 0

/-- Whether a merged word fails the write checks of its register (R563): those of Machine/Access.lean, of LNE.CTL (R118, R119), of PLZ.GANG_CFG
(R262), of REF.TLN_CFG and REF.TLN_PHASE (R475, R480) and of REF.PTP_CFG. -/
def State.imageBad (s : State) (a base u w : Nat) : Bool :=
  if base = 0x100000 then !modeOk u (bitsOf w 18 2) || !rateOk (bitsOf w 18 2) (bitsOf w 24 4)
  else if base = 0x300010 then (upFrom 0 24).any (fun g => bitAt w g && decide (4 * g < s.lanes) && !s.on R.LNE_SDI_CFG_QUAD (4 * g))
  else if base = 0x50800 then decide (127 < bitsOf w 8 8) || decide (bitsOf w 0 8 < 2) || decide (10 < bitsOf w 0 8)
  else if base = 0x51000 then
    decide (bitsOf w 16 7 < 4) || decide (64 < bitsOf w 16 7) || (bitsOf w 0 8 != 0 && (formatOf (bitsOf w 0 8)).isNone)
  else if base = 0x51004 then
    s.rd R.REF_TLN_CFG_FMT u != 0 && decide (periodM (s.tlnFmt u) < (w + 1) * (s.tlnFmt u).num)
  else s.badValue a base u w

/-- A word that is not applied is logged (R563, R640) in the domain of its unit: tag and byte offset. -/
def State.wordSkipped (s : State) (a tag ofs : Nat) : State :=
  s.flog ((domainAt a).getD 0) 0x0006 .decode false (leBytes 2 tag ++ leBytes 2 ofs)

/-- One register word of the image: only the image fields of a register that is present take it (R563). -/
def State.imageWord (s : State) (tag ofs a data : Nat) : State :=
  match regAt 2 a with
  | none => s
  | some (r, u, k) =>
    if s.absentAt a || s.emptyAt a then s
    else if s.imageBad a r.base u (s.imageMerge r u k data) then s.wordSkipped a tag ofs
    else
      let data := if r.base = 0x300010 then data % 2 ^ (s.lanes / 4) else data
      (r.flds.filter isImage).foldl (fun (s : State) f => s.wrk f u k (bitsOf data f.lo f.width)) s

/-- The current record of a tag in the active space, when its length is that of the table (R557, R562). -/
def State.defaultRec (s : State) (tag len : Nat) : Option (List Nat) :=
  match currentRec s.activeLog.1 tag with
  | some r => if r.payload.length = len then some r.payload else none
  | none => none

/-- The words of a record applied to the registers that `places` names for their byte offsets. -/
def State.imageWords (s : State) (tag len : Nat) (places : List (Nat × Nat)) : State :=
  match s.defaultRec tag len with
  | none => s
  | some b => places.foldl (fun s e => s.imageWord tag e.1 e.2 (leField b e.1 4)) s

/-! ### The records (R562) -/

/-- Lane settings: LNE.CTL of every lane, then LNE.SDI_CFG, which depends on the modes, then LNE.LIMP_CFG. -/
def lanePlaces : List (Nat × Nat) :=
  [(0, 0), (4, 0x100), (8, 0x14)].flatMap fun e => (upFrom 0 105).map fun i => (12 * i + e.1, laneAddr i e.2)

/-- Input ports. -/
def inpPlaces : List (Nat × Nat) :=
  (upFrom 0 96).flatMap fun n =>
    [(24 * n, 0x200004 + 0x1000 * n), (24 * n + 4, 0x200008 + 0x1000 * n), (24 * n + 8, 0x20000C + 0x1000 * n),
     (24 * n + 12, 0x200014 + 0x1000 * n), (24 * n + 16, 0x701000 + 0x80 * n), (24 * n + 20, 0x701004 + 0x80 * n)]

/-- Output pipelines. -/
def outPlaces : List (Nat × Nat) :=
  (upFrom 0 96).flatMap fun n =>
    (upFrom 0 7).map fun j => (28 * n + 4 * j, if j < 6 then 0x500000 + 0x4000 * n + [0x4, 0x8, 0x20, 0x1800, 0x180C, 0x1810].getD j 0 else 0x704000 + 0x40 * n)

/-- The store configuration, the reference and the PTP port. -/
def nvsPlaces : List (Nat × Nat) := [(0, 0x40000)]
def refPlaces : List (Nat × Nat) :=
  [(0, 0x50000), (4, 0x50004), (8, 0x50008), (12, 0x5000C)]
    ++ (upFrom 0 16).flatMap (fun t => [(208 + 8 * t, 0x51000 + 0x40 * t), (212 + 8 * t, 0x51004 + 0x40 * t)])
def ptpPlaces : List (Nat × Nat) := (upFrom 0 6).map fun k => (4 * k, 0x50800 + 4 * k)

/-- The power-on crosspoints (R563): a KIND other than NONE, FRAME, STREET or UNDERCOAT is applied as NONE; a select that fails the checks of R238
is not applied. -/
def State.imageSelect (s : State) (b : List Nat) (d : Nat) : State :=
  let w := leField b (4 + 4 * d) 4
  let k := w / 2 ^ 28
  let n := w % 256
  if s.lanes ≤ d then s
  else if k ≠ selFRAME ∧ k ≠ selSTREET ∧ k ≠ selUNDERCOAT then s.wr R.PLZ_SEL_LIVE_SEL d 0
  else if (k = selUNDERCOAT ∧ 4 < n) ∨ (k ≠ selUNDERCOAT ∧ (s.lanes ≤ n ∨ s.quadMember n)) ∨ s.gangMember d then
    s.wordSkipped 0x301008 0x0114 (4 + 4 * d)
  else s.wr R.PLZ_SEL_LIVE_SEL d (k * 2 ^ 28 + n)

/-- Gangs and crosspoints. -/
def State.imagePlaza (s : State) : State :=
  let s := s.imageWords 0x0114 388 [(0, 0x300010)]
  match s.defaultRec 0x0114 388 with
  | none => s
  | some b => (upFrom 0 96).foldl (fun s d => s.imageSelect b d) s

/-- A candidate block (R563): bytes 0 to 15 of a CAND_CONFIG by the firmware session, under R452. -/
def State.imageCand (s : State) (b : List Nat) (c : Nat) : State :=
  let inl := (b.drop (16 + 16 * c)).take 16
  if check (s.candChecks 0 (s.handleOf kCand c) inl) = .ok then (s.candConfigBody c inl).st
  else s.wordSkipped 0x50400 0x0115 (16 + 16 * c)

/-- A timeline of the image starts as a write of its format would start it (R477). -/
def State.imageTln (s : State) (t : Nat) : State :=
  if s.rd R.REF_TLN_CFG_FMT t = 0 then s else if s.epochRuns then s.tlnStart t else s.wr R.REF_TLN_STAT_STATE t 1

/-- The reference: registers, candidates, timelines. -/
def State.imageRef (s : State) : State :=
  let s := s.imageWords 0x0115 336 refPlaces
  let s := match s.defaultRec 0x0115 336 with
    | none => s
    | some b => (upFrom 0 12).foldl (fun s c => s.imageCand b c) s
  (upFrom 0 16).foldl State.imageTln s

/-- The PTP port starts when the image enables it. -/
def State.imagePtp (s : State) : State :=
  let s := s.imageWords 0x0116 24 ptpPlaces
  if s.on R.REF_PTP_CFG_ENABLE 0 then (s.setPtp fun _ => ⟨[], none, none, none, none, 0, none, 0⟩).ptpPort ptLISTENING else s

/-- The equalisation table b = BOARD_ID, or the factory table with a record of the substitution (R135, R136). -/
def State.imageEq (s : State) : State :=
  let b := s.pins.boardId % 16
  match s.defaultRec (0x0100 + b) 2520 with
  | some p => { s with eqTable := some (words64 315 p) }
  | none => { s.flog 0 0x0004 .ok false [b] with eqTable := none }

/-! ### Power-on programs (R445, R446) -/

/-- One record: it is loaded into a program of the firmware session and bound at entry 0 with no ring, or skipped. -/
def State.imageProg (s : State) (tag : Nat) : State :=
  match currentRec s.activeLog.1 tag with
  | none => s
  | some r =>
    let p := r.payload
    let t := leField p 0 2
    let n := leField p 4 4
    let ws := words64 n (p.drop 16)
    let st := check
      [ (decide (p.length < 16) || p.length != 16 + 8 * n || n == 0 || (firstBad n 0 ws).isSome, .decode),
        (!s.threadPresent t, .unitAbsent), (s.powerOn.contains t, .busy) ]
    match if st = .ok then s.progStore 0 ws else none with
    | none => s.flog 0 0x0008 (if st = .ok then .noContext else st) false (leBytes 2 tag)
    | some (s', h) =>
      let s' := s'.cueBind t (s'.handleOf kSession 0) h 0 (leField p 2 1 % 16) 0
      { s' with powerOn := s'.powerOn ++ [t] }

/-! ### The end of BOOT -/

/-- The factory defaults that are not the reset values of the register tables (R564). -/
def State.factory (s : State) : State :=
  let s := (upFrom 0 16).foldl (fun (s : State) t => s.wr R.REF_TLN_CFG_KERB t 16) s
  let s := s.wr R.REF_CFG_QL_EN 0 1
  (upFrom 0 s.lanes).foldl (fun (s : State) n => s.wr R.OUT_UC_COLOR_LIVE_YCBCR n R.OUT_UC_COLOR_YCBCR.rst) s

/-- Invalid records of the two logs are recorded (R556, R640). -/
def State.logScan (s : State) : State :=
  (s.factoryLog.2 ++ s.activeLog.2).foldl (fun s a => s.flog 0 0x0007 .ok false (leBytes 4 a)) s

/-- The whole image (R562, R563). -/
def State.imageApply (s : State) : State :=
  let s := s.factory.logScan.imageEq
  let s := { s with limpMap := (s.defaultRec 0x0110 96).getD [] }
  let s := (s.imageWords 0x0111 1260 lanePlaces).imageWords 0x0112 2304 inpPlaces
  let s := (s.imageWords 0x0113 2688 outPlaces).imagePlaza
  let s := s.imageRef.imagePtp
  let s := (upFrom 0x0120 16).foldl State.imageProg s
  (s.imageWords 0x0130 4 nvsPlaces).nvsFw

/-- Enabled lanes start as a write of ENABLE would start them (R128); quad-link groups assemble (R178). -/
def State.lanesBegin (s : State) : State :=
  let s := ((upFrom 0 24).map (4 * ·)).foldl (fun (s : State) h => if s.on R.LNE_SDI_CFG_QUAD h then s.quadChange h else s) s
  (upFrom 0 105).foldl (fun (s : State) i => if s.lanePresent i && s.on R.LNE_CTL_ENABLE i then s.laneStart i else s) s

/-- Firmware is ready (R68, R626 steps 7 and 8): the image is applied, the audio reservation is charged (R267), the measurements are fixed (R612) and the
device enters IDLE. `ms` is the time since the release of reset. -/
def firmwareReady (ms : Nat) (s : State) : State :=
  if s.modeCode ≠ mBOOT ∨ bitsOf s.bootStep 0 4 ≠ 15 ∨ s.nvsState = nsRECALL then s
  else
    let s := s.imageApply.imageSave
    let s := if s.audio then s.takeCharges [(cAudio, 2000)] else s
    let s := (s.wr R.MGT_BOOT_TIME_TOTAL_MS 0 (min ms 1023)).measure
    let s := s.lanesBegin.setMode mIDLE
    if s.refX.idleAt.isNone then { s with refX := { s.refX with idleAt := some s.now } } else s

/-- FIRMWARE_READY. -/
def execFirmwareReady (ms : Nat) (s : State) : Res := .next (firmwareReady ms s)

end Sys2Proof.Machine
end

