-- ==== Sys2Proof/Machine/HostHbm.lean ====
section
/-! DEFINITION. Host access to HBM over BAR2 (R73, R79, R212, R283, R327), uncorrectable HBM errors (R55), and the control fabric's lock breaks and
timeouts (R502, R506). -/

namespace Sys2Proof.Machine

open Sys2Proof

/-! ### The bytes of a frame of the device (R283, R325, R327, R348) -/

/-- The codes of a frame of a device-written surface as its format holds them: format 0x01 or 0x03 at 10 bits, 0x02 at 12 bits; black before the
first frame. -/
def frameCode (fmt : Nat) (shown : Option (Nat × Pic)) (x y : Nat) : Pixel :=
  match shown with
  | none => if fmt = 1 then ⟨64, 512, 512⟩ else if fmt = 2 then ⟨256, 2048, 2048⟩ else ⟨64, 64, 64⟩
  | some (struct, p) =>
    let c := picAt p x y
    if fmt = 2 ∧ !is12 struct then ⟨4 * c.y, 4 * c.cb, 4 * c.cr⟩
    else if fmt ≠ 2 ∧ is12 struct then ⟨c.y / 4, c.cb / 4, c.cr / 4⟩
    else c

/-- Bit `b` of a frame in the layout of its format (R325): `w` pixels a row, `h` rows. -/
def frameBit (fmt w h : Nat) (shown : Option (Nat × Pic)) (b : Nat) : Bool :=
  let at' := fun (i : Nat) => frameCode fmt shown (i % w) (i / w)
  if fmt = 1 then
    let c := 8 * chromaStart w h
    if b < c then decide (b / 10 < w * h) && bitAt (at' (b / 10)).y (b % 10)
    else
      let i := (b - c) / 10
      let m := i % w
      let q := frameCode fmt shown (m / 2 * 2) (i / w)
      decide (i < w * h) && bitAt (if m % 2 = 0 then q.cb else q.cr) ((b - c) % 10)
  else if fmt = 2 then
    let i := b / 36
    let r := b % 36
    decide (i < w * h) && bitAt (if r < 12 then (at' i).y else if r < 24 then (at' i).cb else (at' i).cr) (r % 12)
  else
    let i := b / 40
    let r := b % 40
    decide (i < w * h) && bitAt (if r < 10 then (at' i).y else if r < 20 then (at' i).cb else if r < 30 then (at' i).cr else 1023) (r % 10)

/-- Byte `o` of a frame. -/
def frameByte (fmt w h : Nat) (shown : Option (Nat × Pic)) (o : Nat) : Nat :=
  (upFrom 0 8).foldl (fun a i => a + b2n (frameBit fmt w h shown (8 * o + i)) * 2 ^ i) 0

/-! ### BAR2 -/

/-- The surface that shows the content of an allocation the device writes: the output surface of a job for its output frames (R281, R283). -/
def State.allocSurf (s : State) (x : Alloc) : Option Nat :=
  if x.key / 2 ^ 20 = kJob then (if x.readOnly then (tfind s.jobs (x.key % 2 ^ 20)).map (·.surf) else none)
  else if x.key / 2 ^ 20 = kSurface ∧ ((s.surf (x.key % 2 ^ 20)).writeback ∨ (s.surf (x.key % 2 ^ 20)).job.isSome) then some (x.key % 2 ^ 20)
  else none

/-- The object whose owner and grants govern host access to an allocation. -/
def State.allocObj (s : State) (x : Alloc) : Obj :=
  match s.allocSurf x with
  | some k => s.obj kSurface k
  | none => s.obj (x.key / 2 ^ 20) (x.key % 2 ^ 20)

/-- Whether principal `p` may reach an allocation: the owner of its object, or for reads a session with a grant of it (R73, R78, R79); hidden
memory by none (R212), and no writes to what the device writes (R283, R327). -/
def State.bar2May (s : State) (p : Nat) (x : Alloc) (write : Bool) : Bool :=
  let o := s.allocObj x
  !x.hidden && !(write && x.readOnly) && (s.prinOf o.owner == p || (!write && o.grants.any (fun g => s.prinOf g == p)))

/-- The checks of an access of `n` bytes (R73, R71, R509, R574); in BOOT and LIMP the model's choice (assumptions 99, 154). -/
def State.bar2Checks (s : State) (p addr n : Nat) (write : Bool) : List (Bool × Status) :=
  [ (s.modeCode == mBOOT, .notReady), (s.modeCode == mLIMP || (s.modeCode == mMIRROR && write), .mode),
    (decide (s.hbmBytes < addr + n)
      || !(s.allocs.any (fun x => decide (x.base ≤ addr) && decide (addr + n ≤ x.base + x.len) && s.bar2May p x write)), .protected'),
    ((s.fwRefuses p 1 addr n write).isSome, .protected') ]

/-- The bytes a read returns: those of HBM, or of the frame a device-written surface shows. -/
def State.bar2Read (s : State) (addr n : Nat) : List Nat :=
  match s.allocAt addr with
  | some x =>
    match s.allocSurf x with
    | some k =>
      let f := s.surf k
      let slot := if x.key / 2 ^ 20 = kJob then x.len / 3 else x.len
      (upFrom (addr - x.base) n).map fun o => frameByte f.fmt f.w f.h (s.frameShown f) (o % slot)
    | none => memReadBytes s.hbmHost addr n
  | none => memReadBytes s.hbmHost addr n

/-- An access that fails: the error log records it (R507), a region's refusal is counted (R509); a read refused with SC_PROTECTED returns all ones
(R73). -/
def State.bar2Deny (s : State) (st : Status) (p addr n : Nat) (write : Bool) : State :=
  let s := match if st = .protected' then s.fwRefuses p 1 addr n write else none with
    | some r => s.fwLog r p (masterOf p) write true addr
    | none => s.logErr st p (masterOf p) write true addr 0
  if write then { s with resp := ⟨st.code, 0⟩ }
  else if st = .protected' then { s with resp := ⟨st.code, 2 ^ (8 * n) - 1⟩ }
  else { s.drawn with resp := ⟨st.code, Config.badRead s.free⟩ }

/-- HOST_BAR2_ACCESS by function `f`: a write of bytes, or a read of `count` bytes whose data are the response, least significant byte first;
`fixed` is the number of 256-bit words of the read that had one bit in error, which are corrected and counted (R55). -/
def hostBar2Access (f addr : Nat) (write : Bool) (bytes : List Nat) (count fixed : Nat) (s : State) : State :=
  let p := 0x10 + f
  let n := if write then bytes.length else count
  if 16 ≤ f ∨ n = 0 ∨ !s.pins.perstHigh then s
  else
    let st := check (s.bar2Checks p addr n write)
    if st ≠ .ok then s.bar2Deny st p addr n write
    else if write then ((s.hbmStore addr bytes).fwdWrite addr bytes).respond 0
    else { s with eccFixed := s.eccFixed + fixed }.respond (leVal (s.bar2Read addr n))

/-! ### Uncorrectable HBM errors (R55, R679) -/

/-- Black as a structure codes it. -/
def blackCode (struct x : Nat) : Pixel := (blackRow struct (x + 1)).getD x ⟨0, 0, 0⟩

/-- A picture with some pixels black. -/
def blackened (struct : Nat) (hit : List (Nat × Nat)) (p : Pic) : Pic :=
  (upFrom 0 p.length).map fun y => (upFrom 0 (p.getD y []).length).map fun x => if hit.contains (x, y) then blackCode struct x else picAt p x y

/-- The pixels of a job's source turn black: of its reader's newest sample, or of the picture its next frame reads. -/
def State.jobEcc (s : State) (i : Nat) (hit : List (Nat × Nat)) : State :=
  match tfind s.jobs i with
  | none => s
  | some j =>
    match j.samples.getLast? with
    | some x => s.setJob i fun j => { j with samples := j.samples.dropLast ++ [{ x with pic := blackened x.struct hit x.pic }] }
    | none => { s with eccPix := tput s.eccPix (1000 + i) (tget [] s.eccPix (1000 + i) ++ hit) }

/-- What an uncorrectable word does for any reader: `addr` counts from the start of HBM, the firmware reservation included (R679). The
reader raises ECC_UNCORR and the fault log records the address (R55). -/
def State.eccSeen (s : State) (reader : HbmReader) (addr : Nat) : State :=
  let s := s.flog 1 0x0010 .eccUncorr false (leBytes 5 (addr % 2 ^ 39 / 32 * 32))
  { s with evts := .eccUncorr reader addr :: s.evts }

/-- An access that ends with SC_ECC_UNCORR. -/
def State.eccFail (s : State) (p addr : Nat) : State :=
  let s := s.logErr .eccUncorr p (masterOf p) false true (addr - 2 ^ 30) 0
  { s.drawn with resp := ⟨Status.eccUncorr.code, Config.badRead s.free⟩ }

/-- The checks of a control core's read of HBM (R504, R509, R632): the data fabric and HBM are off in LIMP; in BOOT as for the host. -/
def State.coreHbmChecks (s : State) (p addr : Nat) : List (Bool × Status) :=
  [ ((s.domain 1).st == 2 || s.modeCode == mLIMP, .domainOff), (s.modeCode == mBOOT, .notReady),
    (decide (2 ^ 30 ≤ addr) && (s.fwRefuses p 1 (addr - 2 ^ 30) 1 false).isSome, .protected') ]

/-- No unit reads HBM: in BOOT no unit runs, in LIMP the HBM domain is off (R364, R632). -/
def State.unitsOff (s : State) : Bool := s.modeCode == mBOOT || s.modeCode == mLIMP

/-- HBM_ECC_UNCORR: `hit` names what the word holds for the reader, (column, row) of pixels or (source channel, grid index) of samples. A host or
control-core access reports it only when it passes its other checks (R21); one that does not is answered as they say. A core that does not run reads
nothing, and no unit reads HBM in BOOT or in LIMP (R364, R632). An uncorrectable read of LY7 is a Stencil fault (R353). -/
def hbmEccUncorr (reader : HbmReader) (addr : Nat) (hit : List (Nat × Nat)) (s0 : State) : State :=
  let s := s0.eccSeen reader addr
  match reader with
  | .bar2 f =>
    let p := 0x10 + f % 16
    let st := check (s0.bar2Checks p (addr - 2 ^ 30) 1 false)
    if addr < 2 ^ 30 ∨ !s0.pins.perstHigh then s0
    else if st ≠ .ok then s0.bar2Deny st p (addr - 2 ^ 30) 1 false
    else s.eccFail p addr
  | .core pair =>
    let p := if pair = 0 then 2 else 4
    let st := check (s0.coreHbmChecks p addr)
    if (s0.domain (0x10 + pair % 2)).st ≠ 0 ∨ bitAt s0.pairStop (pair % 2) then s0
    else if st ≠ .ok then s0.bar2Deny st p (addr - 2 ^ 30) 1 false
    else s.eccFail p addr
  | .layer n l =>
    if s0.unitsOff then s0
    else
      let s : State := { s with eccPix := tput s.eccPix (8 * n + l % 8) (tget [] s.eccPix (8 * n + l % 8) ++ hit) }
      if l % 8 = 7 ∧ s.stencil ∧ (s.pipe n).cfg.any (fun c => c.layerSurf 7 != 0) then s.slateFail n else s
  | .pipe n => if s0.unitsOff then s0 else { s with eccPix := tput s.eccPix (8 * n) (tget [] s.eccPix (8 * n) ++ hit) }
  | .arcade e sl => if s0.unitsOff then s0 else match s.jobInSlot e sl with
    | some i => s.jobEcc i hit
    | none => s
  | .audio => if s0.unitsOff then s0 else (s.audioZero hit).flag R.AUD_UNIT_EVT_FLAGS 0x00700010 0 0 0

/-! ### Lock breaks and timeouts (R502, R506) -/

/-- LOCK_TIMEOUT: the lock of the sequence that principal `p` runs on segment `seg` breaks, if it runs one; the log carries LOCK_BREAK and the status its
later transactions receive. -/
def lockTimeout (seg p addr : Nat) (write : Bool) (s : State) : State :=
  if tfind s.locks (64 * seg + masterOf p) ≠ some false then s
  else ({ s with locks := tput s.locks (64 * seg + masterOf p) true }.logErr .busy p (masterOf p) write false addr (2 ^ 30)).flag
    R.FAB_EVT_FLAGS 0x00020034 0 0 1

/-- FABRIC_TIMEOUT: the transaction receives SC_NOT_READY; 16 in a row on a segment are a control-fabric failure (R506, R68). -/
def fabricTimeout (seg p master addr : Nat) (write : Bool) (s : State) : State :=
  if 4 ≤ seg ∨ s.modeCode = mLIMP then s
  else
    let s := ((s.logErr .notReady p master write false addr (2 ^ 31)).flag R.FAB_EVT_FLAGS 0x00020034 0 0 0).evidence 4 0
    let s : State := { s with resp := ⟨Status.notReady.code, if write then 0 else 0xFFFF0000 + Status.notReady.code⟩ }
    let n := tget 0 s.segRun seg + 1
    let s : State := { s with segRun := tput s.segRun seg n }
    if n < 16 ∨ bitAt (s.rd R.FAB_STAT_SEG_FAIL 0) seg then s
    else
      let s := (s.wr R.FAB_STAT_SEG_FAIL 0 (setBit (s.rd R.FAB_STAT_SEG_FAIL 0) seg)).flog 2 0x0013 .notReady true [seg]
      if s.modeCode = mBOOT then s else s.enterLimp 6

/-- HOST_BAR2_ACCESS. -/
def execHostBar2Access (f addr : Nat) (write : Bool) (bytes : List Nat) (count fixed : Nat) (s : State) : Res :=
  .next (hostBar2Access f addr write bytes count fixed s)
/-- HBM_ECC_UNCORR. -/
def execHbmEccUncorr (reader : HbmReader) (addr : Nat) (hit : List (Nat × Nat)) (s : State) : Res := .next (hbmEccUncorr reader addr hit s)
/-- LOCK_TIMEOUT. -/
def execLockTimeout (seg p addr : Nat) (write : Bool) (s : State) : Res := .next (lockTimeout seg p addr write s)
/-- FABRIC_TIMEOUT. -/
def execFabricTimeout (seg p master addr : Nat) (write : Bool) (s : State) : Res := .next (fabricTimeout seg p master addr write s)

end Sys2Proof.Machine
end

