-- ==== Sys2Proof/Machine/Lines.lean ====
section
/-! DEFINITION. The line event of a timeline (R44, R45) and what every unit does at the frame boundary and at the switch line: staged values go live
(R40, R50), lifecycles move (R41), sync contexts decide (R215), paths, crossfeeds, audio frames and jobs follow; the determinism records of the frame
end (R582), and in MIRROR the frame waits for them (R584). -/

namespace Sys2Proof.Machine

open Sys2Proof

/-- The scheduled start of the switch line of the frame in progress on timeline `t` (R44, R215). -/
def State.switchNs (s : State) (t : Nat) : Nat := lineStart (s.tlnFmt t) (s.tlnX t).phase (s.tlnX t).n (s.tlnFmt t).sw

/-- The destinations whose select goes live between two states. -/
def freshSelects (old new : State) : List Nat :=
  (old.staged.filter (fun x => !new.staged.contains x)).filterMap fun x => match x.ent.key with
    | .sel d => if new.staged.any (fun y => y.id == x.id) then none else some d
    | _ => none

/-- The ports armed on a timeline run (R41, R203). -/
def State.portsRun (s : State) (t : Nat) : State :=
  (upFrom 0 s.lanes).foldl (fun (s : State) n =>
    if s.rd R.INP_CFG_REF_TLN n = t ∧ s.rd R.INP_STAT_LC_STATE n = lcARMED then s.wr R.INP_STAT_LC_STATE n lcRUNNING else s) s

/-- What the audio unit takes of the decisions of a switch line: Dv of the ports that follow it, the pairs that turn non-PCM or PCM, the frames of non-PCM
pairs (R390, R404, R405).
`before` is the state before the decisions, `now` the decision time. -/
def State.audioLines (before : State) (s : State) (t now : Nat) : State :=
  if !s.audio then s
  else
    let f := s.tlnFmt t
    let a := (s.tlnX t).phase
    let g0 := s.aStart f a (s.tlnX t).n 0
    let count := s.aCount f a (s.tlnX t).n 0
    (upFrom 0 s.lanes).foldl (fun (s : State) n =>
      if s.rd R.AUD_IN_CFG_LS_TLN n ≠ t then s
      else
        let new := (s.ctx n t).pick
        let picked := if s.ctxActive n t && new != (before.ctx n t).pick then new else none
        ((s.lipDecision n t now).npcmFrame n).npFrames n (s.fsn t) g0 count picked) s

/-- The records of a frame that this card has used, or has no more use for, are dropped. -/
def State.recsDone (s : State) (t k : Nat) : State :=
  { s with recs := s.recs.filter fun r => !(r.tln == t && r.fsn == k && (match r.body with
      | .sync _ _ _ _ | .path _ _ _ | .arc _ _ _ _ _ _ _ | .endMark _ => true
      | _ => false)) }

/-- The END record of a frame: how many records it had (R582). -/
def State.endRec (s : State) (t k : Nat) : State :=
  let s := s.sendDet t k (.endMark (tget 0 s.detN t))
  { s with detN := tdel s.detN t }

/-- The switch line of the frame in progress on timeline `t`, in the order in which one thing rests on another. -/
def State.switchWork (s : State) (t : Nat) : State :=
  let k := s.fsn t
  let used := s.drainingUsed
  let live := s.goLive t k
  let fresh := freshSelects s live
  let s := ((upFrom 0 s.lanes).filter (fun n => live.rd R.OUT_TMG_FMT_TLN n == t)).foldl (State.endSkim t) live
  let s := (s.endRevoked t).portsRun t
  let now := s.switchNs t
  let decided := s.syncDecisions t now
  let s := (decided.audioLines s t now).tapAudioFrame t (s.tlnX t).n
  let s := ((s.destLines t fresh).jobLines t k).freeReleased used k (s.tlnFmt t).sw
  (s.recsDone t k).endRec t k

/-- Whether the END record of a frame has come. -/
def State.hasEnd (s : State) (t k : Nat) : Bool :=
  s.recs.any fun r => r.tln == t && r.fsn == k && (match r.body with | .endMark _ => true | _ => false)

/-- The switch line of a timeline: a card in MIRROR waits for the END record (R584). -/
def State.switchLine (s : State) (t : Nat) : State :=
  if s.modeCode = mMIRROR ∧ !s.hasEnd t (s.fsn t) then { s with swPend := s.swPend ++ [(t, s.fsn t)] } else s.switchWork t

/-- DEC_WAIT has passed for a frame of timeline `t` (R584): the card decides the frame itself. -/
def State.decWait (s : State) (t : Nat) : State :=
  match s.swPend.find? (fun e => e.1 == t) with
  | none => s
  | some e =>
    let s : State := { s with swPend := s.swPend.filter (fun x => x != e) }
    let s : State := { (s.inc R.TWN_CNT_DEC_LATE_COUNT 0).evidence 6 0 with decOwn := true }
    let s := s.switchWork t
    { s with decOwn := s.modeCode != mMIRROR }

/-- DEC_WAIT_EXPIRY. -/
def decWaitExpiry (t : Nat) (s : State) : State := s.decWait t

/-- The FRAME record of a frame boundary (R582). -/
def State.frameRec (s : State) (t : Nat) : State :=
  s.sendDet t (s.fsn t) (.frame (s.rd R.REF_TLN_PHASE_NS t) (s.on R.REF_TLN_STAT_SLEWING t) (s.on R.REF_TLN_STAT_CUT_PEND t))

/-- A timeline reaches its next line (R44): the threads of the timeline see the line (R45, R429); line 1 is the frame boundary, the switch line that
of the format. A frame that still waits for its END record at the next boundary is past DEC_WAIT. -/
def timelineLineEvent (t : Nat) (s : State) : State :=
  if 16 ≤ t ∨ !s.tlnRuns t ∨ (s.tlnX t).starting then s
  else
    let s := if (s.tlnFmt t).lines ≤ (s.tlnX t).line then s.decWait t else s
    let s := s.tlnAdvance t
    let l := (s.tlnX t).line
    let s := if l = 1 then s.modeFrameEnd t else s
    let s := s.cueLines t l
    let s := if l = 1 then ((s.frameRec t).twinFrame t).imageRun else s
    if l = (s.tlnFmt t).sw then (s.twinSwitch t (s.fsn t)).switchLine t else s

/-- What the block does when no command waits: 1 µs passes on the island's oscillator, and what the DCO makes of it on the device epoch once it runs
(R471, R626). DESIGN CHOICE (assumption 5): the length of this step, and that nothing else happens in it. -/
def State.tick (s : State) : State :=
  { s with now := s.now + 1000, epoch := if s.epochRuns then (s.epoch + s.dcoNs 1000) % epochMod else s.epoch }

/-- TIMELINE_LINE_EVENT. -/
def execTimelineLineEvent (t : Nat) (s : State) : Res := .next (timelineLineEvent t s)
/-- DEC_WAIT_EXPIRY. -/
def execDecWaitExpiry (t : Nat) (s : State) : Res := .next (decWaitExpiry t s)

end Sys2Proof.Machine
end

