-- ==== Sys2Proof/Machine/TwinRec.lean ====
section
/-! DEFINITION. The determinism stream at the secondary (R580, R582 to R584, R444) and the end of the state copy (R573, R580). -/

namespace Sys2Proof.Machine

open Sys2Proof

/-! ### The map of IFCs (R583) -/

/-- During SYNC a SYNC record whose signature is that of one of the newest three published frames sets the difference of the port. -/
def State.ifcLearn (s : State) (r : DetRec) : State :=
  match (if s.pair = prSYNC then r.body else .endMark 0) with
  | .sync n kind ifc sig =>
    (match (if kind = 4 then none else ((s.port n).frames.reverse.take 3).find? (fun f => frameSig f.det.struct f.pic == sig)) with
     | some f => { s with ifcMap := tset 0 s.ifcMap n ((f.ifc % 2 ^ 32 + 2 ^ 32 - ifc % 2 ^ 32) % 2 ^ 32) }
     | none => s)
  | _ => s

/-! ### Admin commands and register writes are done again (R582, R584) -/

/-- The command a record carries. -/
def recordedCmd (l : List Nat) : Taken :=
  let at' := fun k => l.getD k 0
  ⟨at' 0, at' 1 == 1, at' 2, at' 3, at' 4, at' 5, at' 6, at' 7, l.drop 9, at' 8 == 1⟩

/-- The meaning of an admin command by its opcode; those that change no state of the copy are not recorded. -/
def adminRun (op f : Nat) (payload : List Nat) (bank : List (Nat × Nat)) (s : State) : State :=
  if op = 0x01 then sessionOpen f payload s else if op = 0x02 then sessionClose f payload s
  else if op = 0x03 then grant f payload s else if op = 0x04 then revoke f payload s
  else if op = 0x05 then destroy f payload s else if op = 0x06 then unitAcquire f payload s
  else if op = 0x07 then unitRelease f payload s else if op = 0x10 then ringCreate f payload s
  else if op = 0x12 then ringClear f payload s else if op = 0x13 then eventBind f payload s
  else if op = 0x20 then surfaceCreate f payload s else if op = 0x30 then programLoad f payload s
  else if op = 0x31 then threadBind f payload s else if op = 0x32 then threadStart f payload s
  else if op = 0x33 then threadStop f payload s else if op = 0x40 then jobCreate f payload bank s
  else if op = 0x50 then routeCreate f payload s else if op = 0x60 then cloneCreate f payload s
  else if op = 0x61 then skimCreate f payload s else if op = 0x70 then candConfig f payload s
  else s

/-- A recorded command runs here; one that ends otherwise than on the primary leaves nothing of itself, not even a
count of FAB.NOCTX (assumption 134), and makes the card DIVERGED. -/
def State.adminReplay (s : State) (f : Nat) (cmd payload : List Nat) (st handle result : Nat) (bank : List (Nat × Nat)) : State :=
  let own := s.taken
  let s' := adminRun (cmd.getD 0 0) f payload bank { s with replay := true, taken := tput s.taken f (recordedCmd cmd) }
  if s'.cpl.status = st ∧ s'.cpl.handle = handle ∧ s'.cpl.result = result ∧ tfind s'.taken f = none then
    { s' with replay := s.replay, taken := own, cpl := s.cpl }
  else s.diverge

/-- A recorded register write is done here as the twin peer's. -/
def State.regReplay (s : State) (a v : Nat) : State :=
  let s' := writeAny pTwin a v 0 { s with replay := true }
  if s'.resp.status = 0 then { s' with replay := s.replay, resp := s.resp } else s.diverge

/-! ### One record (R444, R582, R584) -/

/-- A record is kept until the unit it is for comes to it. -/
def State.recKeep (s : State) (r : DetRec) : State := { s with recs := s.recs ++ [r] }

/-- A FRAME record of a running timeline (R486, R573, R582): it gives the target phase; its FSN confirms that of the frame in progress, and gives it to a
timeline that waits for its first frame, which follows the one named. -/
def State.frameTake (s : State) (t fsn ph : Nat) : State :=
  if 16 ≤ t ∨ !s.tlnRuns t then s
  else
    let s := if s.rd R.REF_TLN_PHASE_NS t = ph then s else s.takePhase t ph
    if (s.tlnX t).starting then s.setTln t fun x => { x with ofs := (fsn + 1 + 2 ^ 32 - x.n % 2 ^ 32) % 2 ^ 32 } else s

/-- A record takes effect: an END lets a frame that waits go on; commands and writes are done at once; the other records wait for the decision they
are about. -/
def State.recApply (s : State) (r : DetRec) : State :=
  match r.body with
  | .frame ph _ _ => s.frameTake r.tln r.fsn ph.toNat
  | .param t i v => if t < 160 ∧ i < 32 then s.wrk R.CUE_PARAM_VALUE t i v else s
  | .admin f cmd arg st handle result bank => s.adminReplay f cmd arg st handle result bank
  | .reg a v => s.regReplay a v
  | .waite t _ _ => (s.recKeep r).waiteTake t
  | .commit t _ _ _ _ => commitTargetReached t (s.recKeep r)
  | .post t _ _ _ => commitTargetReached t (s.recKeep r)
  | .endMark _ =>
    if s.swPend.contains (r.tln, r.fsn) then
      { (s.recKeep r) with swPend := s.swPend.filter (fun e => e != (r.tln, r.fsn)) }.switchWork r.tln
    else s.recKeep r
  | _ => (s.recKeep r).ifcLearn r

/-- The size of a record in the buffer, a word for each number it carries. -/
def recBytes (r : DetRec) : Nat :=
  8 + 4 * (match r.body with
    | .ins _ smp => 1 + 8 * smp.length
    | .anci _ l => 1 + l.length
    | .post _ _ _ l => 3 + l.length
    | .admin _ cmd arg _ _ _ bank => cmd.length + arg.length + 8 + bank.length
    | _ => 7)

/-- DECISION_RECORD_RECEIVED. While the copy is not complete the records are buffered, up to 64 MiB; more makes the copy fail (R580). -/
def decisionRecordReceived (r : DetRec) (s : State) : State :=
  if !s.standby || !s.paired then s
  else if s.pair = prSYNC ∧ !s.twnX.copyDone then
    let s := (s.ifcLearn r).setTwn fun x => { x with buffer := x.buffer ++ [r] }
    if 2 ^ 26 < s.twnX.buffer.foldl (fun a x => a + recBytes x) 0 then s.pairFail 7 else s
  else s.recApply r

/-- STATE_COPY_COMPLETE: the secondary applies the buffered records in order and arms what ran at the cut (R580); each card then looks for 8
matching frames (R573). A copy that failed ends the pairing with cause 7. -/
def stateCopyComplete (ok : Bool) (s : State) : State :=
  if !s.twin || s.pair != prSYNC || s.twnX.copyDone || s.rd R.TWN_CTL_KIND 0 != 0 then s
  else if !ok then s.pairFail 7
  else
    let s := s.setTwn fun x => { x with copyDone := true, frames := 0 }
    let s := if s.standby then
        let l := s.twnX.buffer
        l.foldl State.recApply ((s.copyArm).setTwn fun x => { x with buffer := [] })
      else s
    s.converge

/-- DECISION_RECORD_RECEIVED. -/
def execDecisionRecordReceived (r : DetRec) (s : State) : Res := .next (decisionRecordReceived r s)
/-- STATE_COPY_COMPLETE. -/
def execStateCopyComplete (ok : Bool) (s : State) : Res := .next (stateCopyComplete ok s)

end Sys2Proof.Machine
end

