-- ==== Sys2Proof/Machine/MgmtPort.lean ====
section
/-! DEFINITION. The management port: MSPI and SMBus, and the operations the management island serves (R596, R635 to R638, R146, R542, R545, R590). -/

namespace Sys2Proof.Machine

open Sys2Proof

/-- The place of a port's STATUS. -/
def portNo : MgmtPort → Nat
  | .mspi => 0
  | .smbus => 1

/-- The STATUS of a port. -/
def State.portStat (s : State) (p : MgmtPort) : PortStat := tget ⟨0, 0, false, false, 0⟩ s.ports (portNo p)
/-- Change the STATUS of a port. -/
def State.setPortStat (s : State) (p : MgmtPort) (x : PortStat) : State := { s with ports := tput s.ports (portNo p) x }

/-- Bytes that a reading opcode returns. -/
def State.portData (s : State) (p : MgmtPort) (bytes : List Nat) : State := s.send (.port p bytes)

/-- An operation with opcode 0x10 or above (R637): refused while BUSY; otherwise its status and opcode are in STATUS when it ends. `act` answers the
state, the status, and whether the operation goes on. -/
def State.portOp (s : State) (p : MgmtPort) (op : Nat) (act : State → State × Status × Bool) : State :=
  let x := s.portStat p
  if x.busy then s.setPortStat p { x with refused := true }
  else
    let r := act s
    r.1.setPortStat p ⟨r.2.1.code, op, r.2.2, false, (r.1.portStat p).value⟩

/-- An operation that ends at once. -/
def State.portDo (s : State) (p : MgmtPort) (op : Nat) (act : State → State × Status) : State :=
  s.portOp p op fun s => ((act s).1, (act s).2, false)

/-- The value field of STATUS. -/
def State.portValue (s : State) (p : MgmtPort) (v : Nat) : State := s.setPortStat p { s.portStat p with value := v }

/-! ### Reading opcodes (R636) -/

/-- 0x01 ID_READ (R600). -/
def mgmtIdRead (p : MgmtPort) (s : State) : State := s.portData p s.idBlock

/-- 0x02 FLOG_READ: a record no longer held reads zeros with INDEX 0xFFFF_FFFF. -/
def flogRead (p : MgmtPort) (index : Nat) (s : State) : State :=
  let w := s.rd R.MGT_FLOG_WR_INDEX 0
  s.portData p (if index < w ∧ w ≤ index + 1024 then s.flogBytes index else leBytes 4 0xFFFFFFFF ++ List.replicate 28 0)

/-- The eight bytes of STATUS (R637). -/
def State.statusBytes (s : State) (p : MgmtPort) : List Nat :=
  let x := s.portStat p
  leBytes 2 x.status ++ [x.opcode % 256, b2n x.busy + 2 * b2n x.refused + 16 * s.modeCode + 128 * b2n s.pins.thermTrip] ++ leBytes 4 x.value

/-- 0x03 STATUS. -/
def mgmtStatus (p : MgmtPort) (s : State) : State := s.portData p (s.statusBytes p)

/-- 0x04 TEMP. -/
def mgmtTemp (p : MgmtPort) (s : State) : State := s.portData p (leBytes 2 (s.rd R.MGT_TEMP_TJ 0))

/-! ### Operations the island serves -/

/-- 0x10 FORCE_LIMP (R632): void with another argument; LIMP allows no mode request (R68, R69). -/
def forceLimp (p : MgmtPort) (arg : Nat) (s : State) : State :=
  s.portDo p 0x10 fun s =>
    if arg ≠ 0x4C494D50 then (s, .decode) else if s.modeCode = mLIMP then (s, .mode) else (s.enterLimp 7, .ok)

/-- 0x11 BYPASS (R146, R147): after a thermal trip bypass operations fail (R634). -/
def mgmtBypass (p : MgmtPort) (target ctl : Nat) (s : State) : State :=
  s.portDo p 0x11 fun s => if s.limpLatch then (s, .domainOff) else s.bypassOp (target % 256) (ctl % 128) (bitAt ctl 7)

/-- 0x12 DOMAIN_RESET: 0x1FF asks for a reset of the device (R617, R621). -/
def mgmtDomainReset (p : MgmtPort) (d : Nat) (s : State) : State :=
  let r := s.portDo p 0x12 fun s =>
    if d = 0x1FF then (s, .ok)
    else if check (s.domChecks d 0) = .ok then (s.domainReset d, .ok) else (s, check (s.domChecks d 0))
  if d = 0x1FF ∧ !(s.portStat p).busy then r.deviceReset 2 else r

/-- 0x13 TWIN_YIELD (R589, R590, R596). -/
def twinYield (p : MgmtPort) (s : State) : State :=
  s.portDo p 0x13 fun s => if s.twin then (s.yield true, .ok) else (s, .unitAbsent)

/-- 0x14 STORE_NOW (R545): BUSY until the STORE is complete. -/
def storeNow (p : MgmtPort) (s : State) : State :=
  s.portOp p 0x14 fun s => if s.nvsState = nsREADY then (s.storeStart nsSTORE, .ok, true) else (s, .notReady, false)

/-- 0x15 NVS_CFG: all three fields, BP_LOCK or not (R542). -/
def mgmtNvsCfg (p : MgmtPort) (data : Nat) (s : State) : State :=
  s.portDo p 0x15 fun s =>
    ((((s.wr R.NVS_CFG_BP_LOCK 0 (bitsOf data 7 1)).wr R.NVS_CFG_BP 0 (bitsOf data 4 2)).wr R.NVS_CFG_PAGE_MODE 0 (bitsOf data 0 1)).nvsFw, .ok)

/-- The byte address after a byte of a burst (R537). -/
def burstNext (linear : Bool) (a : Nat) : Nat := if linear then (a + 1) % storeBytes else a / 256 * 256 + (a + 1) % 256

/-- The bytes of a reading burst. -/
def State.burstRead (s : State) : Nat → Nat → List Nat
  | _, 0 => []
  | a, n + 1 => memReadBytes s.nvs.sram a 1 ++ s.burstRead (burstNext (s.on R.NVS_CFG_PAGE_MODE 0) a) n

/-- 0x20 NVS_READ (R535, R537, R538); an SMBus block holds 32 bytes (R638). The data of a read that fails is not stated. -/
def nvsRead (p : MgmtPort) (addr count : Nat) (s : State) : State :=
  let n := if p = .smbus then min count 32 else count
  s.portDo p 0x20 fun s =>
    let st := check ((decide (storeBytes ≤ addr), .decode) :: s.nvsChecks addr false)
    if st = .ok then (s.portData p (s.burstRead addr n), .ok)
    else ({ s.portData p ((upFrom 0 n).map (fun i => Config.badRead (s.free + i) % 256)) with free := s.free + n }, st)

/-- The bytes of a writing burst (R536): each is accepted or refused by itself. The answer is the state, the bytes accepted, and the status of the
first refused. -/
def State.burstWrite (s : State) : Nat → List Nat → State × Nat × Status
  | _, [] => (s, 0, .ok)
  | a, b :: l =>
    let st := check ((decide (storeBytes ≤ a), .decode) :: s.nvsChecks a true)
    let s' := if st = .ok then s.nvsPut a [b % 256] else s
    let r := s'.burstWrite (burstNext (s.on R.NVS_CFG_PAGE_MODE 0) a) l
    (r.1, r.2.1 + b2n (st == .ok), if st = .ok then r.2.2 else st)

/-- 0x21 NVS_WRITE: STATUS holds the count of bytes accepted. -/
def nvsWrite (p : MgmtPort) (addr : Nat) (bytes : List Nat) (s : State) : State :=
  s.portDo p 0x21 fun s => ((s.burstWrite addr bytes).1.portValue p (s.burstWrite addr bytes).2.1, (s.burstWrite addr bytes).2.2)

/-! ### Forwarded accesses (R493) -/

/-- The status of the register access just made. -/
def State.respStatus (s : State) : Status := statusOf s.resp.status

/-- 0x30 REG_READ, forwarded as principal 0x01; it waits while a locked sequence holds the segment (R501). -/
def mgmtRegRead (p : MgmtPort) (addr : Nat) (s : State) : State :=
  if s.waits pMgmt addr false then s else
  s.portDo p 0x30 fun s => ((regRead pMgmt addr s).portValue p (regRead pMgmt addr s).resp.data, (regRead pMgmt addr s).respStatus)

/-- 0x31 REG_WRITE, forwarded as principal 0x01. -/
def mgmtRegWrite (p : MgmtPort) (addr data : Nat) (s : State) : State :=
  if s.waits pMgmt addr true then s else
  s.portDo p 0x31 fun s => (regWrite pMgmt addr data 0 s, (regWrite pMgmt addr data 0 s).respStatus)

/-- A void transaction (R635): an unknown opcode, or an argument count that differs from the table. -/
def voidTransaction (p : MgmtPort) (opcode : Nat) (s : State) : State :=
  s.setPortStat p { s.portStat p with status := Status.decode.code, opcode := opcode % 256 }

/-- MGMT_ID_READ. -/
def execMgmtIdRead (port : MgmtPort) (s : State) : Res := .next (mgmtIdRead port s)
/-- FLOG_READ. -/
def execFlogRead (port : MgmtPort) (index : Nat) (s : State) : Res := .next (flogRead port index s)
/-- MGMT_STATUS. -/
def execMgmtStatus (port : MgmtPort) (s : State) : Res := .next (mgmtStatus port s)
/-- MGMT_TEMP. -/
def execMgmtTemp (port : MgmtPort) (s : State) : Res := .next (mgmtTemp port s)
/-- FORCE_LIMP. -/
def execForceLimp (port : MgmtPort) (arg : Nat) (s : State) : Res := .next (forceLimp port arg s)
/-- MGMT_BYPASS. -/
def execMgmtBypass (port : MgmtPort) (target ctl : Nat) (s : State) : Res := .next (mgmtBypass port target ctl s)
/-- MGMT_DOMAIN_RESET. -/
def execMgmtDomainReset (port : MgmtPort) (d : Nat) (s : State) : Res := .next (mgmtDomainReset port d s)
/-- TWIN_YIELD. -/
def execTwinYield (port : MgmtPort) (s : State) : Res := .next (twinYield port s)
/-- STORE_NOW. -/
def execStoreNow (port : MgmtPort) (s : State) : Res := .next (storeNow port s)
/-- MGMT_NVS_CFG. -/
def execMgmtNvsCfg (port : MgmtPort) (data : Nat) (s : State) : Res := .next (mgmtNvsCfg port data s)
/-- NVS_READ. -/
def execNvsRead (port : MgmtPort) (addr count : Nat) (s : State) : Res := .next (nvsRead port addr count s)
/-- NVS_WRITE. -/
def execNvsWrite (port : MgmtPort) (addr : Nat) (bytes : List Nat) (s : State) : Res := .next (nvsWrite port addr bytes s)
/-- MGMT_REG_READ. -/
def execMgmtRegRead (port : MgmtPort) (addr : Nat) (s : State) : Res := .next (mgmtRegRead port addr s)
/-- MGMT_REG_WRITE. -/
def execMgmtRegWrite (port : MgmtPort) (addr data : Nat) (s : State) : Res := .next (mgmtRegWrite port addr data s)
/-- VOID_TRANSACTION. -/
def execVoidTransaction (port : MgmtPort) (opcode : Nat) (s : State) : Res := .next (voidTransaction port opcode s)

end Sys2Proof.Machine
end

