-- ==== Sys2Proof/Machine/Dispatch.lean ====
section
/-! DEFINITION. The dispatch of a command to its meaning, one arm for each row of the opcode table. -/

namespace Sys2Proof.Machine

open Sys2Proof

def exec (i : Instr) (s : State) : Host.Outcome State Fault Refusal :=
  match i with
  | .registerWrite p addr width data mark => Sys2Proof.Machine.execRegisterWrite p addr width data mark s
  | .w1cFlagClear p addr width data again => Sys2Proof.Machine.execW1cFlagClear p addr width data again s
  | .counterLowRead p addr width mark => Sys2Proof.Machine.execCounterLowRead p addr width mark s
  | .epochNsRead p => Sys2Proof.Machine.execEpochNsRead p s
  | .timelineLineEvent t => Sys2Proof.Machine.execTimelineLineEvent t s
  | .stagedValueDelivery item => Sys2Proof.Machine.execStagedValueDelivery item s
  | .hbmEccUncorr reader addr hit => Sys2Proof.Machine.execHbmEccUncorr reader addr hit s
  | .adminCommandTake f entry => Sys2Proof.Machine.execAdminCommandTake f entry s
  | .sessionOpen f payload => Sys2Proof.Machine.execSessionOpen f payload s
  | .sessionClose f payload => Sys2Proof.Machine.execSessionClose f payload s
  | .grant f payload => Sys2Proof.Machine.execGrant f payload s
  | .revoke f payload => Sys2Proof.Machine.execRevoke f payload s
  | .destroy f payload => Sys2Proof.Machine.execDestroy f payload s
  | .objectFreed h => Sys2Proof.Machine.execObjectFreed h s
  | .unitAcquire f payload => Sys2Proof.Machine.execUnitAcquire f payload s
  | .unitRelease f payload => Sys2Proof.Machine.execUnitRelease f payload s
  | .ringCreate f payload => Sys2Proof.Machine.execRingCreate f payload s
  | .ringQuery f payload => Sys2Proof.Machine.execRingQuery f payload s
  | .ringClear f payload => Sys2Proof.Machine.execRingClear f payload s
  | .eventBind f payload => Sys2Proof.Machine.execEventBind f payload s
  | .ringDoorbell p f data => Sys2Proof.Machine.execRingDoorbell p f data s
  | .admqEnable p f data => Sys2Proof.Machine.execAdmqEnable p f data s
  | .admqDrained f => Sys2Proof.Machine.execAdmqDrained f s
  | .functionLevelReset f => Sys2Proof.Machine.execFunctionLevelReset f s
  | .laneEnable p lane data => Sys2Proof.Machine.execLaneEnable p lane data s
  | .laneDisable p lane data => Sys2Proof.Machine.execLaneDisable p lane data s
  | .laneLock lane rate freqOfs => Sys2Proof.Machine.execLaneLock lane rate freqOfs s
  | .laneLoss lane amplitude => Sys2Proof.Machine.execLaneLoss lane amplitude s
  | .autoHuntTimeout lane => Sys2Proof.Machine.execAutoHuntTimeout lane s
  | .escanStart p lane data => Sys2Proof.Machine.execEscanStart p lane data s
  | .escanAbort p lane data => Sys2Proof.Machine.execEscanAbort p lane data s
  | .escanDwellDone lane errs => Sys2Proof.Machine.execEscanDwellDone lane errs s
  | .mgmtBypass port target ctl => Sys2Proof.Machine.execMgmtBypass port target ctl s
  | .sdiTrsAlign lane lines words streams level fields => Sys2Proof.Machine.execSdiTrsAlign lane lines words streams level fields s
  | .sdiLineReceived lane line ds skewNs words => Sys2Proof.Machine.execSdiLineReceived lane line ds skewNs words s
  | .edhPacketReceived lane line packet => Sys2Proof.Machine.execEdhPacketReceived lane line packet s
  | .vpidPacketReceived lane line words => Sys2Proof.Machine.execVpidPacketReceived lane line words s
  | .vpidTimeout lane => Sys2Proof.Machine.execVpidTimeout lane s
  | .gistraBlockReceived lane groups skipDel skipIns xf => Sys2Proof.Machine.execGistraBlockReceived lane groups skipDel skipIns xf s
  | .gistraBlockSend lane ready xfeed complete => Sys2Proof.Machine.execGistraBlockSend lane ready xfeed complete s
  | .seqGapTimeout lane => Sys2Proof.Machine.execSeqGapTimeout lane s
  | .qwSend lane => Sys2Proof.Machine.execQwSend lane s
  | .qwReceived lane word => Sys2Proof.Machine.execQwReceived lane word s
  | .qwLoss lane => Sys2Proof.Machine.execQwLoss lane s
  | .tsReceived lane offered width lid ack posDisp commaHeld => Sys2Proof.Machine.execTsReceived lane offered width lid ack posDisp commaHeld s
  | .trainRateTimeout lane => Sys2Proof.Machine.execTrainRateTimeout lane s
  | .trainRetryTimeout lane => Sys2Proof.Machine.execTrainRetryTimeout lane s
  | .retrainCondition lane cause => Sys2Proof.Machine.execRetrainCondition lane cause s
  | .cntClr p lane data => Sys2Proof.Machine.execCntClr p lane data s
  | .inpStart p n => Sys2Proof.Machine.execInpStart p n s
  | .inpStop p n => Sys2Proof.Machine.execInpStop p n s
  | .inputFrameStart n => Sys2Proof.Machine.execInputFrameStart n s
  | .inputFrameComplete n => Sys2Proof.Machine.execInputFrameComplete n s
  | .freezeMsExpiry n => Sys2Proof.Machine.execFreezeMsExpiry n s
  | .inputFifoEccFault n addr => Sys2Proof.Machine.execInputFifoEccFault n addr s
  | .ancPacketReceived n pkt => Sys2Proof.Machine.execAncPacketReceived n pkt s
  | .ancfRingWrite p n filter ring => Sys2Proof.Machine.execAncfRingWrite p n filter ring s
  | .streetLineMiss dest line cause => Sys2Proof.Machine.execStreetLineMiss dest line cause s
  | .gangCfgWrite p data => Sys2Proof.Machine.execGangCfgWrite p data s
  | .cloneCreate f payload => Sys2Proof.Machine.execCloneCreate f payload s
  | .jobCreate f payload bank => Sys2Proof.Machine.execJobCreate f payload bank s
  | .jobStart p engine slot => Sys2Proof.Machine.execJobStart p engine slot s
  | .jobStop p engine slot => Sys2Proof.Machine.execJobStop p engine slot s
  | .engineLocalStoreFault engine addr => Sys2Proof.Machine.execEngineLocalStoreFault engine addr s
  | .surfaceCreate f payload => Sys2Proof.Machine.execSurfaceCreate f payload s
  | .outStart p n => Sys2Proof.Machine.execOutStart p n s
  | .outStop p n => Sys2Proof.Machine.execOutStop p n s
  | .pipelineLineStart n fsn line host => Sys2Proof.Machine.execPipelineLineStart n fsn line host s
  | .lineUnderrun n mask slate => Sys2Proof.Machine.execLineUnderrun n mask slate s
  | .lineStoreEccFault n addr => Sys2Proof.Machine.execLineStoreEccFault n addr s
  | .ancRingWrite p n ring => Sys2Proof.Machine.execAncRingWrite p n ring s
  | .skimCreate f payload => Sys2Proof.Machine.execSkimCreate f payload s
  | .routeCreate f payload => Sys2Proof.Machine.execRouteCreate f payload s
  | .audioPacketReceived n g time smp wide otherRate => Sys2Proof.Machine.execAudioPacketReceived n g time smp wide otherRate s
  | .groupRateWindow n g ofs => Sys2Proof.Machine.execGroupRateWindow n g ofs s
  | .groupPacketTimeout n g => Sys2Proof.Machine.execGroupPacketTimeout n g s
  | .asrcBlock n => Sys2Proof.Machine.execAsrcBlock n s
  | .audioGridSample host => Sys2Proof.Machine.execAudioGridSample host s
  | .npcmChange n g pair on' => Sys2Proof.Machine.execNpcmChange n g pair on' s
  | .insRingWrite p slot ring => Sys2Proof.Machine.execInsRingWrite p slot ring s
  | .tapRingWrite p slot ring => Sys2Proof.Machine.execTapRingWrite p slot ring s
  | .shuffleBufferEcc addr held => Sys2Proof.Machine.execShuffleBufferEcc addr held s
  | .programLoad f payload => Sys2Proof.Machine.execProgramLoad f payload s
  | .threadBind f payload => Sys2Proof.Machine.execThreadBind f payload s
  | .threadStart f payload => Sys2Proof.Machine.execThreadStart f payload s
  | .threadStop f payload => Sys2Proof.Machine.execThreadStop f payload s
  | .paramWrite p t index data => Sys2Proof.Machine.execParamWrite p t index data s
  | .nop t => Sys2Proof.Machine.execNop t s
  | .br t => Sys2Proof.Machine.execBr t s
  | .brz t => Sys2Proof.Machine.execBrz t s
  | .brnz t => Sys2Proof.Machine.execBrnz t s
  | .call t => Sys2Proof.Machine.execCall t s
  | .ret t => Sys2Proof.Machine.execRet t s
  | .loopOp t => Sys2Proof.Machine.execLoopOp t s
  | .halt t => Sys2Proof.Machine.execHalt t s
  | .ldi t => Sys2Proof.Machine.execLdi t s
  | .add t => Sys2Proof.Machine.execAdd t s
  | .sub t => Sys2Proof.Machine.execSub t s
  | .andOp t => Sys2Proof.Machine.execAndOp t s
  | .orOp t => Sys2Proof.Machine.execOrOp t s
  | .xorOp t => Sys2Proof.Machine.execXorOp t s
  | .shl t => Sys2Proof.Machine.execShl t s
  | .shr t => Sys2Proof.Machine.execShr t s
  | .cmp t => Sys2Proof.Machine.execCmp t s
  | .ldp t => Sys2Proof.Machine.execLdp t s
  | .stp t => Sys2Proof.Machine.execStp t s
  | .waitf t => Sys2Proof.Machine.execWaitf t s
  | .waitl t => Sys2Proof.Machine.execWaitl t s
  | .waite t => Sys2Proof.Machine.execWaite t s
  | .waitt t => Sys2Proof.Machine.execWaitt t s
  | .waitComplete t => Sys2Proof.Machine.execWaitComplete t s
  | .take t => Sys2Proof.Machine.execTake t s
  | .layer t => Sys2Proof.Machine.execLayer t s
  | .laypos t => Sys2Proof.Machine.execLaypos t s
  | .matrix t => Sys2Proof.Machine.execMatrix t s
  | .skimx t => Sys2Proof.Machine.execSkimx t s
  | .clone t => Sys2Proof.Machine.execClone t s
  | .commit t => Sys2Proof.Machine.execCommit t s
  | .commitTargetReached t => Sys2Proof.Machine.execCommitTargetReached t s
  | .amap t => Sys2Proof.Machine.execAmap t s
  | .again t => Sys2Proof.Machine.execAgain t s
  | .adelay t => Sys2Proof.Machine.execAdelay t s
  | .amute t => Sys2Proof.Machine.execAmute t s
  | .uhalt t => Sys2Proof.Machine.execUhalt t s
  | .uset t => Sys2Proof.Machine.execUset t s
  | .urun t => Sys2Proof.Machine.execUrun t s
  | .emit t => Sys2Proof.Machine.execEmit t s
  | .post t => Sys2Proof.Machine.execPost t s
  | .fence t => Sys2Proof.Machine.execFence t s
  | .candConfig f payload => Sys2Proof.Machine.execCandConfig f payload s
  | .candSignalChange c valid mark => Sys2Proof.Machine.execCandSignalChange c valid mark s
  | .freqMeasurement ms => Sys2Proof.Machine.execFreqMeasurement ms s
  | .wtrExpiry c => Sys2Proof.Machine.execWtrExpiry c s
  | .dpllLockQualify => Sys2Proof.Machine.execDpllLockQualify s
  | .pullInClamp => Sys2Proof.Machine.execPullInClamp s
  | .refCfgWrite p data => Sys2Proof.Machine.execRefCfgWrite p data s
  | .manHiWrite p data => Sys2Proof.Machine.execManHiWrite p data s
  | .frStartExpiry => Sys2Proof.Machine.execFrStartExpiry s
  | .tlnCfgWrite p t data => Sys2Proof.Machine.execTlnCfgWrite p t data s
  | .timelineAlignStart t => Sys2Proof.Machine.execTimelineAlignStart t s
  | .tlnPhaseWrite p t data => Sys2Proof.Machine.execTlnPhaseWrite p t data s
  | .slewStep t => Sys2Proof.Machine.execSlewStep t s
  | .tlnCut p t data => Sys2Proof.Machine.execTlnCut p t data s
  | .ptpMessageReceived m => Sys2Proof.Machine.execPtpMessageReceived m s
  | .ptpDelayReqSend t3 => Sys2Proof.Machine.execPtpDelayReqSend t3 s
  | .ptpTimeout => Sys2Proof.Machine.execPtpTimeout s
  | .lockTimeout seg p addr write => Sys2Proof.Machine.execLockTimeout seg p addr write s
  | .fabricTimeout seg p master addr write => Sys2Proof.Machine.execFabricTimeout seg p master addr write s
  | .fwRegionWrite p r word data => Sys2Proof.Machine.execFwRegionWrite p r word data s
  | .txPost p data => Sys2Proof.Machine.execTxPost p data s
  | .mbPop p m data => Sys2Proof.Machine.execMbPop p m data s
  | .mbCfgArm p m data => Sys2Proof.Machine.execMbCfgArm p m data s
  | .lockAcquireRead p k => Sys2Proof.Machine.execLockAcquireRead p k s
  | .lockRelease p k data => Sys2Proof.Machine.execLockRelease p k data s
  | .lockForce p k data => Sys2Proof.Machine.execLockForce p k data s
  | .msgEcho host => Sys2Proof.Machine.execMsgEcho host s
  | .msgFaultlog host => Sys2Proof.Machine.execMsgFaultlog host s
  | .msgTemp host => Sys2Proof.Machine.execMsgTemp host s
  | .mbReplyRetry => Sys2Proof.Machine.execMbReplyRetry s
  | .nvsDataWrite p addr data => Sys2Proof.Machine.execNvsDataWrite p addr data s
  | .nvsPortDataAccess p write data => Sys2Proof.Machine.execNvsPortDataAccess p write data s
  | .nvsCfgWrite p data => Sys2Proof.Machine.execNvsCfgWrite p data s
  | .nvsStore p data => Sys2Proof.Machine.execNvsStore p data s
  | .nvsRecall p data => Sys2Proof.Machine.execNvsRecall p data s
  | .storeComplete => Sys2Proof.Machine.execStoreComplete s
  | .recallComplete badNewer badOlder => Sys2Proof.Machine.execRecallComplete badNewer badOlder s
  | .powerFail => Sys2Proof.Machine.execPowerFail s
  | .powerFailRelease => Sys2Proof.Machine.execPowerFailRelease s
  | .marginScan refreshed badX badY => Sys2Proof.Machine.execMarginScan refreshed badX badY s
  | .twnPairWrite p data => Sys2Proof.Machine.execTwnPairWrite p data s
  | .twnYield p data => Sys2Proof.Machine.execTwnYield p data s
  | .twnResync p data => Sys2Proof.Machine.execTwnResync p data s
  | .identReceived nonce variant stepping => Sys2Proof.Machine.execIdentReceived nonce variant stepping s
  | .helloReceived h => Sys2Proof.Machine.execHelloReceived h s
  | .helloTimeout => Sys2Proof.Machine.execHelloTimeout s
  | .stateCopyCut => Sys2Proof.Machine.execStateCopyCut s
  | .stateCopyComplete ok => Sys2Proof.Machine.execStateCopyComplete ok s
  | .decisionRecordReceived r => Sys2Proof.Machine.execDecisionRecordReceived r s
  | .decWaitExpiry t => Sys2Proof.Machine.execDecWaitExpiry t s
  | .lineRecordReceived pipe line fsn acrc lcrc => Sys2Proof.Machine.execLineRecordReceived pipe line fsn acrc lcrc s
  | .cmpGapTimeout => Sys2Proof.Machine.execCmpGapTimeout s
  | .evidenceReceived bit arg => Sys2Proof.Machine.execEvidenceReceived bit arg s
  | .verdictTimer => Sys2Proof.Machine.execVerdictTimer s
  | .twinTakeReceived fsn yielded => Sys2Proof.Machine.execTwinTakeReceived fsn yielded s
  | .peerLossTimeout => Sys2Proof.Machine.execPeerLossTimeout s
  | .peerAliveChange high => Sys2Proof.Machine.execPeerAliveChange high s
  | .activeNetChange low => Sys2Proof.Machine.execActiveNetChange low s
  | .timeRecord peer rtt skew => Sys2Proof.Machine.execTimeRecord peer rtt skew s
  | .xfCfgWrite p k data peerFmt peerStruct peerGang => Sys2Proof.Machine.execXfCfgWrite p k data peerFmt peerStruct peerGang s
  | .twinMbForward j full => Sys2Proof.Machine.execTwinMbForward j full s
  | .attest f payload => Sys2Proof.Machine.execAttest f payload s
  | .svnCommit p data => Sys2Proof.Machine.execSvnCommit p data s
  | .rollbackBitBurn => Sys2Proof.Machine.execRollbackBitBurn s
  | .powerUp boardId side => Sys2Proof.Machine.execPowerUp boardId side s
  | .fuseLoadDone ok row lost => Sys2Proof.Machine.execFuseLoadDone ok row lost s
  | .imageCheckDone hdrA hdrB bodyRead digestOk sigOk ms => Sys2Proof.Machine.execImageCheckDone hdrA hdrB bodyRead digestOk sigOk ms s
  | .hbmTrainDone failed ms => Sys2Proof.Machine.execHbmTrainDone failed ms s
  | .lockstepCheckDone pair0 pair1 => Sys2Proof.Machine.execLockstepCheckDone pair0 pair1 s
  | .firmwareReady ms => Sys2Proof.Machine.execFirmwareReady ms s
  | .perstRise => Sys2Proof.Machine.execPerstRise s
  | .modeSet f payload => Sys2Proof.Machine.execModeSet f payload s
  | .modeTransitionDone => Sys2Proof.Machine.execModeTransitionDone s
  | .deviceReset p data => Sys2Proof.Machine.execDeviceReset p data s
  | .domainReset p => Sys2Proof.Machine.execDomainReset p s
  | .domainResetEnd d => Sys2Proof.Machine.execDomainResetEnd d s
  | .domainOn p => Sys2Proof.Machine.execDomainOn p s
  | .domainSleep p => Sys2Proof.Machine.execDomainSleep p s
  | .domainOff p => Sys2Proof.Machine.execDomainOff p s
  | .lockstepSplit pair ecc => Sys2Proof.Machine.execLockstepSplit pair ecc s
  | .svcTestStart p data => Sys2Proof.Machine.execSvcTestStart p data s
  | .svcTestDone passed channels => Sys2Proof.Machine.execSvcTestDone passed channels s
  | .tempSample sensor tj => Sys2Proof.Machine.execTempSample sensor tj s
  | .thermalTrip sensor tj => Sys2Proof.Machine.execThermalTrip sensor tj s
  | .mgmtIdRead port => Sys2Proof.Machine.execMgmtIdRead port s
  | .flogRead port index => Sys2Proof.Machine.execFlogRead port index s
  | .mgmtStatus port => Sys2Proof.Machine.execMgmtStatus port s
  | .mgmtTemp port => Sys2Proof.Machine.execMgmtTemp port s
  | .forceLimp port arg => Sys2Proof.Machine.execForceLimp port arg s
  | .mgmtDomainReset port d => Sys2Proof.Machine.execMgmtDomainReset port d s
  | .twinYield port => Sys2Proof.Machine.execTwinYield port s
  | .storeNow port => Sys2Proof.Machine.execStoreNow port s
  | .mgmtNvsCfg port data => Sys2Proof.Machine.execMgmtNvsCfg port data s
  | .nvsRead port addr count => Sys2Proof.Machine.execNvsRead port addr count s
  | .nvsWrite port addr bytes => Sys2Proof.Machine.execNvsWrite port addr bytes s
  | .mgmtRegRead port addr => Sys2Proof.Machine.execMgmtRegRead port addr s
  | .mgmtRegWrite port addr data => Sys2Proof.Machine.execMgmtRegWrite port addr data s
  | .hostBar2Access f addr write bytes count fixed => Sys2Proof.Machine.execHostBar2Access f addr write bytes count fixed s
  | .perstFall => Sys2Proof.Machine.execPerstFall s
  | .powerLost => Sys2Proof.Machine.execPowerLost s
  | .railsInRange inRange vcapOk => Sys2Proof.Machine.execRailsInRange inRange vcapOk s
  | .jtagTestLogicReset => Sys2Proof.Machine.execJtagTestLogicReset s
  | .identSend => Sys2Proof.Machine.execIdentSend s
  | .helloSend => Sys2Proof.Machine.execHelloSend s
  | .evidenceSummarySend => Sys2Proof.Machine.execEvidenceSummarySend s
  | .memoryStreamReceived items => Sys2Proof.Machine.execMemoryStreamReceived items s
  | .yieldReceived => Sys2Proof.Machine.execYieldReceived s
  | .twinNoticeReceived j len tag ptr => Sys2Proof.Machine.execTwinNoticeReceived j len tag ptr s
  | .twinCompletionReceived j delivered tag => Sys2Proof.Machine.execTwinCompletionReceived j delivered tag s
  | .arpOrIgmpReceived kind addr vlan => Sys2Proof.Machine.execArpOrIgmpReceived kind addr vlan s
  | .voidTransaction port opcode => Sys2Proof.Machine.execVoidTransaction port opcode s
  | .firmwareNoticeTake m host => Sys2Proof.Machine.execFirmwareNoticeTake m host s
  | .attestReportDone => Sys2Proof.Machine.execAttestReportDone s
  | .pairRejoin => Sys2Proof.Machine.execPairRejoin s

end Sys2Proof.Machine
end

