-- ==== Sys2Proof/Safety.lean ====
section
/-! DEFINITION. What a safe run of the block is, and the conditions and conclusions that the statements share, in the terms of the spec: the
canonical form of the memories, runs of steps, a command that is taken and admitted, a command that is completed. -/

namespace Sys2Proof.Machine

open Sys2Proof

/-- HBM and the persistent store's SRAM and banks are in canonical form: equal contents are equal data. -/
def State.memsWf (s : State) : Bool :=
  memWf s.hbm && memWf s.nvs.sram && memWf s.nvs.bankX.mem && memWf s.nvs.bankY.mem

/-- The block after `n` steps, where none of them stops. -/
def runSteps : Nat → State → Option State
  | 0, s => some s
  | n + 1, s => match step s with
    | .next t => runSteps n t
    | _ => none

/-- A run of `n` steps is safe when no step stops. -/
def safeRun (n : Nat) (s : State) : Prop := (runSteps n s).isSome = true

/-- What no run may do to the fuses (R607, R609): from the fuses `f`, the rollback count only rises and stays at most 64, and nothing else of the die's
identity and keys changes; which row reads badly, and what that loses, is the array's state at a load (R599). -/
abbrev State.fusesFrom (f : Fuses) (s : State) : Prop :=
  f.rollback ≤ s.fuses.rollback ∧ s.fuses.rollback ≤ 64
    ∧ s.fuses = { f with rollback := s.fuses.rollback, badRow := s.fuses.badRow, lost := s.fuses.lost }

/-- Whether a field lies outside the FAB block, where the error log, the firewall and the fabric's counters are (R72). -/
abbrev outsideFabric (f : Fld) : Prop := (f.base < 0x20000 ∨ 0x30000 ≤ f.base) ∧ f.lo < 32

/-- A register access was refused (R16): the response carries the status, the error log has one more entry, with the status in it, and apart from
the registers of the FAB block, the response, a target that wakes (R504) and the run of timeouts (R506) nothing has changed. -/
def RefusedWith (s t : State) (st : Status) (write : Bool) : Prop :=
  t.resp = ⟨st.code, if write then 0 else 0xFFFF0000 + st.code⟩
    ∧ t.rdk R.FAB_ERR_WR_INDEX 0 0 = (s.rdk R.FAB_ERR_WR_INDEX 0 0 + 1) % 2 ^ 32
    ∧ t.rdk R.FAB_ERR_INFO_INFO (s.rdk R.FAB_ERR_WR_INDEX 0 0 % 64) 0 / 2 ^ 16 = st.code
    ∧ (∀ (f : Fld) (u k : Nat), outsideFabric f → t.rdk f u k = s.rdk f u k)
    ∧ t = { s with regs := t.regs, resp := t.resp, segRun := t.segRun, dom := t.dom }

/-- The fabric lets principal `p` access the register at `a` (R14, R15, R71, R494, R495, R504, R509, R574). -/
abbrev State.reached (s : State) (p a : Nat) (write : Bool) : Prop := check (s.accessChecks p a write) = .ok

/-- What a register access that succeeds may change besides its own effect: the response, a target that wakes (R504), the end of a run of
timeouts (R506). -/
def State.accessed (s : State) (a : Nat) : State := (s.wakeAt a).respond 0

/-- A register without a meaning of its own, that is there for the write (R30, R33, R39). -/
abbrev State.plainWrite (s : State) (p a data : Nat) (r : RegSpec) (u k : Nat) : Prop :=
  regAt p a = some (r, u, k) ∧ writeS0 p a data s = none ∧ writeUnit p a data s = none ∧ (∀ f ∈ r.flds, f.acc ≠ .w1c) ∧ s.emptyAt a = false
    ∧ (r.base = 0x100100 → bitAt data 31 = s.on R.LNE_SDI_CFG_QUAD u)

/-- Where a read of a register passes neither a lock, the store's data nor a view of the mailboxes: the counters of REF and AUD. -/
abbrev inCounters (a : Nat) : Prop := blkOf a = .ref ∨ blkOf a = .aud

/-- A fault record was written (R639): the record's 32 bytes stand in its slot of the fault log as eight words, and the index has moved on. -/
def FaultLogged (s t : State) (dom code : Nat) (st : Status) (fatal : Bool) (arg : List Nat) : Prop :=
  let n := s.rdk R.MGT_FLOG_WR_INDEX 0 0
  let rec' := leBytes 4 n ++ leBytes 8 s.faultTime ++ leBytes 2 dom ++ leBytes 2 code ++ leBytes 2 st.code
    ++ [b2n (!s.epochRuns) + 2 * b2n fatal, 0] ++ (arg ++ List.replicate 12 0).take 12
  t.rdk R.MGT_FLOG_WR_INDEX 0 0 = (n + 1) % 2 ^ 32
    ∧ (∀ k, k < 8 → t.rdk R.MGT_FLOG_W_WORD (n % 1024) k = leVal ((rec'.drop (4 * k)).take 4))

/-- Command `t` with opcode `op` is the one taken from the ring of function `f` (R102). -/
abbrev State.taking (s : State) (f op : Nat) (t : Taken) : Prop := tfind s.taken f = some t ∧ t.opcode = op

/-- The modes in which the host's commands on objects run (R67): IDLE, RUN, SERVICE. -/
abbrev State.modeOk (s : State) : Prop := s.modeCode = mIDLE ∨ s.modeCode = mRUN ∨ s.modeCode = mSERVICE

/-- A command with no reserved bit set and no payload (R103, R105). -/
abbrev Taken.plain (t : Taken) : Prop := t.reserved = false ∧ t.payLen = 0

/-- The session a command of function `f` names is live, its own and not closing (R77, R82), and its OBJECT names no unit absent on the
variant (R17). -/
abbrev State.sessOk (s : State) (f : Nat) (t : Taken) : Prop :=
  s.badHandle t.session = false ∧ hKind t.session = kSession ∧ s.prinOf t.ss = 0x10 + f ∧ s.isDraining t.session = false
    ∧ s.absentHandle t.object = false

/-- The object a command names is live, not DRAINING, of a kind, and its session's (R27, R78, R90). -/
abbrev State.ownsObj (s : State) (t : Taken) (kind : Nat) : Prop :=
  s.badHandle t.object = false ∧ hKind t.object = kind ∧ s.owns t.ss t.object = true ∧ s.isDraining t.object = false

/-- The command of function `f` is complete with a status, a handle and a result, and the next one may be taken (R101, R102). -/
abbrev Completed (t : State) (f : Nat) (c : Taken) (st : Status) (handle result : Nat) : Prop :=
  t.cpl = ⟨f, c.opcode, c.tag, st.code, handle, result⟩ ∧ tfind t.taken f = none

/-- What no admin command on objects, sessions and rings touches: every register outside the fabric's own, the fuses, the persistent store, the
epoch, the queue. -/
def AdminKeeps (s t : State) : Prop :=
  (∀ (f : Fld) (u k : Nat), outsideFabric f → t.rdk f u k = s.rdk f u k) ∧ t.fuses = s.fuses ∧ t.nvs = s.nvs ∧ t.epoch = s.epoch
    ∧ t.pending = s.pending

/-- A whole block on a lane: SOB, the header, the payload, the CRC-32C of both, EOB, as code groups from running disparity `rd` (R181, R183, R184). -/
def wholeBlock (rd : Bool) (header : Nat) (pay crc : List Nat) : List Nat :=
  (codeGroups (kSOB :: leBytes 4 header ++ pay ++ crc ++ [kEOB]) rd).1

/-- The CRC that a block carries (R184). -/
def blockCrc (header : Nat) (pay : List Nat) : List Nat := leBytes 4 (crc32c (leBytes 4 header ++ pay))

/-- A lane that is UP between two received blocks, with no COMMA overdue (R183, R199). -/
abbrev State.rxIdle (s : State) (i n : Nat) : Prop :=
  s.rd R.LNE_GL_STAT_LINK_STATE i = glUP ∧ (s.lane i).rxBlk = none ∧ (s.lane i).early = [] ∧ (s.lane i).noComma + n < 8192

/-- An ANC packet that passes its parity check and its checksum and is no timecode packet (R226, R232). -/
abbrev plainAnc (k : AncPkt) : Prop := k.parityOk = true ∧ k.csumOk = true ∧ atcOf true k = none ∧ atcOf false k = none

/-- The ring that a latched filter of a port names (R227). -/
abbrev State.filterRing (s : State) (n f : Nat) : Nat := ((s.port n).filters.getD f (0, 0, 0)).2.2

/-- Thread `t` issues the instruction word `w` (R413, R426): it is present and RUNNING, its engine is ON, and the word at its PC is `w`. -/
abbrev State.issues (s : State) (t w : Nat) : Prop :=
  s.threadPresent t = true ∧ s.cueState t = cRUNNING ∧ (s.domain (0x20 + t / 16)).st = 0 ∧ (s.cueWords t)[s.cuePc t]? = some w

/-- The instruction at the PC is not the last of the program (R427). -/
abbrev State.more (s : State) (t : Nat) : Prop := s.cuePc t + 1 < (s.cueWords t).length

/-- Thread `t` runs on at `pc`. -/
abbrev State.wentOn (u : State) (t pc : Nat) : Prop := u.cuePc t = pc % 2 ^ 16 ∧ u.cueState t = cRUNNING

/-- Thread `t` has faulted with a status at the instruction where `s` stood (R443). -/
abbrev Faulted (s u : State) (t : Nat) (st : Status) : Prop :=
  u.cueState t = cFAULTED ∧ u.rd R.CUE_FAULT_STATUS t = st.code ∧ u.rd R.CUE_FAULT_PC t = s.cuePc t % 2 ^ 16 ∧ (u.cue t).stage = []
    ∧ bitAt (u.rd R.CUE_EVT_FLAGS t) 0 = true

/-- Thread `t` waits, to go on behind the instruction where `s` stood. -/
abbrev WaitsFor (s u : State) (t : Nat) (w : Wait) : Prop :=
  u.cueState t = cWAITING ∧ u.cuePc t = (s.cuePc t + 1) % 2 ^ 16 ∧ (u.cue t).wait = w

/-- What an instruction that sets g(d) alone does: the register, the PC, no other register and nothing else. -/
def SetsG (s u : State) (t d v : Nat) : Prop :=
  u.cueG t d = v % 2 ^ 32 ∧ u.wentOn t (s.cuePc t + 1)
    ∧ (∀ (f : Fld) (i k : Nat), (Fld.key f ≠ Fld.key R.CUE_G_VALUE ∨ i ≠ t ∨ k ≠ d) → (Fld.key f ≠ Fld.key R.CUE_STAT_PC ∨ i ≠ t ∨ k ≠ 0) →
        u.rdk f i k = s.rdk f i k)
    ∧ u = { s with regs := u.regs, free := u.free }

/-- A staging instruction has put its words into the stage buffer (R430, R434). -/
abbrev Stages (s u : State) (t : Nat) (k : StageKey) (v : List (Nat × Nat)) : Prop :=
  (u.cue t).stage = stageInto (s.cue t).stage k v ∧ u.rd R.CUE_S_S t = 0 ∧ u.wentOn t (s.cuePc t + 1)
    ∧ u.rd R.CUE_STAT_STAGED t = (stageInto (s.cue t).stage k v).length % 256

/-- The stage buffer has room for a key, or holds it (R434). -/
abbrev State.stageRoom (s : State) (t : Nat) (k : StageKey) : Prop := (s.cue t).stage.length < 128 ∨ (s.cue t).stage.any (fun e => e.key == k) = true

/-- The selected candidate has the best key of the eligible ones, and one is selected while one is eligible (R460, R461). -/
abbrev State.bestSelected (t : State) : Prop :=
  (∀ d, t.refSel = some d → t.eligible d = true ∧ ∀ e, e < 9 → t.eligible e = true → t.candRank d ≤ t.candRank e)
    ∧ (t.refSel = none → ∀ e, e < 9 → t.eligible e = false)

/-- The state a candidate takes on its measured |f| in ppt when it leaves WAIT (R456). -/
abbrev State.onLeaving (s : State) (f : Nat) : Nat := if f ≤ s.softPpt then caQUALIFIED else if f ≤ s.hardPpt then caDEGRADED else caDISQUALIFIED

/-- The tag of the frames the PTP port sends, after their words (R487). -/
abbrev State.ptpTag (s : State) : List Nat := if s.on R.REF_PTP_CFG_VLAN_EN 0 = true then [s.rd R.REF_PTP_CFG_VLAN_ID 0 % 4096] else []

/-- A store that holds `bs` at `a`, and every other byte as before (R535). -/
abbrev StorePut (s t : State) (a : Nat) (bs : List Nat) : Prop :=
  memReadBytes t.nvs.sram a bs.length = bs.map (· % 256) ∧ (∀ x, x < a ∨ a + bs.length ≤ x → memRead t.nvs.sram x = memRead s.nvs.sram x)
    ∧ t.nvs = { s.nvs with sram := t.nvs.sram }

/-- The management port's STATUS, besides its value (R637). -/
abbrev State.portShows (t : State) (p : MgmtPort) (st : Status) (op : Nat) (busy : Bool) : Prop :=
  (t.portStat p).status = st.code ∧ (t.portStat p).opcode = op ∧ (t.portStat p).busy = busy ∧ (t.portStat p).refused = false

/-- A card of a MIRROR pair compares lines and shares its decisions (R585). -/
abbrev State.comparing (s : State) : Prop := s.twin = true ∧ s.rd R.TWN_CTL_KIND 0 = 0 ∧ s.paired = true

/-- Those who may write the twin registers. -/
abbrev twnMay (p : Nat) : Prop := (1 ≤ p ∧ p ≤ 5) ∨ p = pPF

end Sys2Proof.Machine
end

