-- ==== Sys2Proof/Certificates/Slice0/Obligations.lean ====
section
/-! DEFINITION. The statements about the PRD96 for the provers, each from the numbered rules of the spec, in the order of its chapters. -/

open Sys2Proof Sys2Proof.Machine
/-- The step takes the command at the front of the queue and runs it on the state with the rest, and exec answers a next state for every constructor of
Instr in every state: no command stops the block. What that next state holds for each command is said by the statements below, each under the
conditions of its clauses. The queue is the model's own (log entry 6). -/
def Obligations.StepRunsFrontCommand : Prop :=
  (∀ (c : Instr) (rest : List Instr) (s : State), s.pending = c :: rest → step s = exec c { s with pending := rest })
  ∧ (∀ (c : Instr) (s : State), ∃ t, exec c s = .next t)

/-- A step with no command waiting only passes time (R471, R626). With an empty queue the step answers a next state; only the island clock and, where the
epoch runs, the epoch differ. That idle steps exist and how long they are is the model's choice (log entry 5). -/
def Obligations.IdleStepPassesTime : Prop :=
  ∀ s : State, s.pending = [] → ∃ t, step s = .next t ∧ t = { s with now := t.now, epoch := t.epoch } ∧ s.now ≤ t.now
    ∧ (s.epochRuns = false → t.epoch = s.epoch)

/-- No step lowers the rollback count or changes the die's identity and keys (R607, R608, R609, R627). For every state and every step, whatever command it
takes: from fuses f with a rollback count of at most 64, the rollback count after the step is at least what f has and at most 64, and the variant, the
stepping, the lot, the die's place, the eye scale, the keys, their hashes and the secret are those of f. This covers the power-up, the cut of a burn,
the device resets and LIMP. -/
def Obligations.FusesOnlyGrow : Prop :=
  ∀ (f : Fuses) (s t : State), s.fusesFrom f → step s = .next t → t.fusesFrom f

/-- Every step keeps HBM and the persistent store in canonical form (R73, R541, R544, R546, R553). In a state in which HBM, the store's SRAM and its two
banks are lists of bytes with rising addresses and no byte equal to what an unlisted address reads as, every step that answers a next state leaves
them so: whichever unit writes them. -/
def Obligations.StoresStayCanonical : Prop :=
  ∀ s t : State, s.memsWf = true → step s = .next t → t.memsWf = true

/-- The state after reset (R67, R622, R626). After reset the device is in BOOT with no command waiting, no object live, no timeline running, nothing sent,
no step of the boot done, memories in canonical form and a rollback count of at most 64. The contents of memory after reset and the fuse values are
the model's choice (log entries 2 and 3). -/
def Obligations.ResetState : Prop :=
  State.reset.modeCode = mBOOT ∧ State.reset.pending = [] ∧ State.reset.objs = [] ∧ State.reset.outs = [] ∧ State.reset.bootStep = 0
    ∧ (∀ t, t < 16 → State.reset.tlnRuns t = false) ∧ State.reset.memsWf = true ∧ State.reset.fusesFrom State.reset.fuses

/-- The first failing check is reported (R20). Of a list of checks, the status reported is OK where none fails; otherwise it is the status of a check that
fails, and no check that fails stands earlier in the order of R20. -/
def Obligations.ChecksInOrder : Prop :=
  (∀ l : List (Bool × Status), (∀ e ∈ l, e.2 ≠ .ok) →
    (check l = .ok ↔ ∀ e ∈ l, e.1 = false)
    ∧ (check l ≠ .ok → (true, check l) ∈ l)
    ∧ (∀ e ∈ l, e.1 = true → (check l).rank ≤ e.2.rank))
  ∧ List.Pairwise (fun a b : Status => a.rank < b.rank) [.decode, .unitAbsent, .domainOff, .notReady, .mode, .auth, .protected', .badHandle,
      .wrongKind, .draining, .unitRunning, .lenExceeds, .timeline, .noContext, .noMemory, .bandwidth, .busy, .late]

/-- A refused register access (R16). Whatever the register and whatever its effect would have been, an access by a principal for which a check fails, and
that no locked sequence meets, answers the status, with data 0xFFFF_0000 OR the code for a read, is discarded, and is recorded in the fabric error
log; only where the fabric takes it to its target does a sleeping target wake. An access to a segment that another master's locked sequence holds,
which nothing else keeps from its target, has no effect and no status while the sequence lasts; a later transaction of a sequence whose lock has
broken answers SC_BUSY and is discarded and logged in the same way. -/
def Obligations.RefusedAccess : Prop :=
  ∀ (s : State) (p a : Nat) (write : Bool) (own : List (Bool × Status)) (act : State → State),
    isPrincipal p = true →
      (check (s.fabricChecks p a write) ≠ .busy → check (s.accessChecks p a write ++ own) ≠ .ok →
        RefusedWith s (s.gate p a write own act) (check (s.accessChecks p a write ++ own)) write
        ∧ (s.gate p a write own act).dom = (if check (s.fabricChecks p a write) = .ok then s.wakeAt a else s).dom
        ∧ 0xFFFF0000 + (check (s.accessChecks p a write ++ own)).code = 0xFFFF0000 ||| (check (s.accessChecks p a write ++ own)).code)
      ∧ (check (s.fabricChecks p a write) = .busy → s.lockedOut p a = true → s.gate p a write own act = { s with resp := Resp.waiting })
      ∧ (check (s.fabricChecks p a write) = .busy → s.lockedOut p a = false →
          RefusedWith s (s.gate p a write own act) .busy write ∧ s.lockBroken p a = true ∧ (s.gate p a write own act).dom = s.dom)

/-- A register write stores the writable fields and nothing else (R30, R33, R34, R35, R178). A REGISTER_WRITE to a register without a command of its own,
by a principal the fabric lets through and whose checks pass, answers OK; each RW or RWS field of the register reads as written; every other field of
every register is unchanged, and so is every part of the state but the response, the domain that wakes, the run of timeouts and the record to the
twin. TWN.CMP_EN keeps no bits of absent pipelines. A write that sets QUAD of a stopped group of SDI lanes completes, shows its members and takes the
signal from their ports. Outside LIMP an access of another width than 32 bits, or 64 bits of a host function, answers SC_DECODE and changes nothing
but the log; a 64-bit host write that no locked sequence holds up is two 32-bit writes, the lower address first. COMPLETION: under the conditions on
the state and the operands that its clauses name and nothing else, exec answers a next state for REGISTER_WRITE. -/
def Obligations.PlainRegisterWrite : Prop :=
  (∀ (s : State) (p a data : Nat) (r : RegSpec) (u k : Nat),
    s.plainWrite p a data r u k → s.reached p a true → check (s.writeChecks p a data r u k) = .ok →
      ∃ t, exec (.registerWrite p a 4 data 0) s = .next t ∧ t.resp = ⟨0, 0⟩
        ∧ (∀ f ∈ r.flds, fieldTakes f u = true → (f.acc = .rw ∨ f.acc = .rws) → f ≠ R.TWN_CMP_EN_PIPES → t.rdk f u k = bitsOf data f.lo f.width)
        ∧ (∀ (g : Fld) (i j : Nat), (¬∃ f ∈ r.flds, fieldTakes f u = true ∧ Fld.key g = Fld.key f ∧ i = u ∧ j = k) →
            t.rdk g i j = s.rdk g i j)
        ∧ t = { s with regs := t.regs, resp := t.resp, segRun := t.segRun, dom := t.dom, outs := t.outs, detN := t.detN })
  ∧ (∀ (s : State) (p h data : Nat), h % 4 = 0 → h < 96 → s.reached p (laneAddr h 0x100) true →
    s.laneRuns h = false → (∀ i, h ≤ i → i < h + 4 → s.rd R.LNE_CTL_MODE i = mdSDI) → s.on R.LNE_SDI_CFG_QUAD h = false → bitAt data 31 = true →
      ∃ t, exec (.registerWrite p (laneAddr h 0x100) 4 data 0) s = .next t ∧ t.resp = ⟨0, 0⟩ ∧ t.on R.LNE_SDI_CFG_QUAD h = true
        ∧ (∀ i, h < i → i < h + 4 → t.rd R.LNE_SDI_STAT_QUAD_STATE i = 3 ∧ t.rd R.INP_STAT_IN_STATE i = inNO_SIGNAL))
  ∧ (∀ (s : State) (p a width data : Nat), s.modeCode ≠ mLIMP → width ≠ 4 → (width = 8 → isFn p = false) →
      ∃ t, exec (.registerWrite p a width data 0) s = .next t ∧ t.resp = ⟨Status.decode.code, 0⟩
        ∧ (∀ (f : Fld) (u k : Nat), outsideFabric f → t.rdk f u k = s.rdk f u k) ∧ t = { s with regs := t.regs, resp := t.resp })
  ∧ (∀ (s : State) (p a data : Nat), isFn p = true → s.lockedOut p a = false → ∃ lo hi t, exec (.registerWrite p a 4 (data % 2 ^ 32) 0) s = .next lo
      ∧ exec (.registerWrite p (a + 4) 4 (data / 2 ^ 32) 0) lo = .next hi ∧ exec (.registerWrite p a 8 data 0) s = .next t
      ∧ t = { hi with resp := lo.resp.pair hi.resp })

/-- A W1C clear clears the ones written, and a flag set in the same cycle stays (R31, R32). A W1C_FLAG_CLEAR that the fabric and the block's writers let
through answers OK. A flag reads 1 afterwards exactly if the hardware sets it again in the same cycle, or it was 1 and the word written has a 0 there.
An event the hardware does not set again keeps its occurrence counter; one it does is counted once. COMPLETION: under the conditions on the state and
the operands that its clauses name and nothing else, exec answers a next state for W1C_FLAG_CLEAR. -/
def Obligations.FlagClears : Prop :=
  ∀ (s : State) (p a data again : Nat) (r : RegSpec) (u k : Nat) (f : Fld),
    regAt p a = some (r, u, k) → r.flds.find? (fun f => f.acc == .w1c) = some f → writeS0 p a data s = none → writeUnit p a data s = none →
    check (s.fabricChecks p a true) = .ok → s.mayWrite p a = true → s.emptyAt a = false →
      ∃ t, exec (.w1cFlagClear p a 4 data again) s = .next t ∧ t.resp = ⟨0, 0⟩
        ∧ (∀ b, b < f.width → bitAt (t.rdk f u k) b = (bitAt again b || (bitAt (s.rdk f u k) b && !bitAt data b)))
        ∧ (∀ b, b < f.width → bitAt again b = false → t.rdk (occFld (f.base + 4) b) u k = s.rdk (occFld (f.base + 4) b) u k)
        ∧ (∀ b, b < f.width → bitAt again b = true →
            t.rdk (occFld (f.base + 4) b) u k = min (s.rdk (occFld (f.base + 4) b) u k + 1) 0xFFFF)

/-- The low word of a 64-bit counter and REF.EPOCH_NS load the reader's holding register (R108, R109, R472). COUNTER_LOW_READ of a low word answers that
word and puts the high word into the holding register of the reader and of no other; a read of the word above answers the reader's holding register,
which is 0 for a principal that has not read the low word since reset. EPOCH_NS_READ answers the nanoseconds and copies the seconds into the reader's
holding register; REF.EPOCH_S_LO and REF.EPOCH_S_HI answer the two words of that copy. COMPLETION: under the conditions on the state and the operands
that its clauses name and nothing else, exec answers a next state for COUNTER_LOW_READ, EPOCH_NS_READ. -/
def Obligations.HoldingReads : Prop :=
  ((∀ (s : State) (p a : Nat) (r r' : RegSpec) (u k u' k' : Nat),
    inCounters a → regAt p a = some (r, u, k) → regAt p (a + 4) = some (r', u', k') → counterLows.contains r.base = true → s.reached p a false →
      ∃ t, exec (.counterLowRead p a 4 0) s = .next t ∧ t.resp = ⟨0, (s.accessed a).wordNow r u k⟩
        ∧ tget 0 t.hold (holdKey p a) = (s.accessed a).wordNow r' u' k'
        ∧ (∀ q b, holdKey q b ≠ holdKey p a → tget 0 t.hold (holdKey q b) = tget 0 s.hold (holdKey q b))
        ∧ t = { s with resp := t.resp, hold := t.hold, segRun := t.segRun, dom := t.dom })
  ∧ (∀ (s : State) (p a : Nat) (r : RegSpec) (u k : Nat),
    inCounters (a + 4) → regAt p (a + 4) = some (r, u, k) → counterLows.contains r.base = false → counterLows.contains (r.base - 4) = true →
    s.reached p (a + 4) false →
      ∃ t, exec (.counterLowRead p (a + 4) 4 0) s = .next t ∧ t.resp = ⟨0, tget 0 s.hold (holdKey p a)⟩
        ∧ t = { s with resp := t.resp, segRun := t.segRun, dom := t.dom })
  ∧ (∀ p a, tget 0 State.reset.hold (holdKey p a) = 0))
  ∧ (∀ (s : State) (p : Nat), s.reached p 0x50034 false →
      ∃ t, exec (.epochNsRead p) s = .next t ∧ t.resp = ⟨0, s.epoch % 1000000000⟩
        ∧ tget 0 t.hold (holdKey p 0x50034) = s.epoch / 1000000000 % 2 ^ 48
        ∧ (∀ q b, holdKey q b ≠ holdKey p 0x50034 → tget 0 t.hold (holdKey q b) = tget 0 s.hold (holdKey q b))
        ∧ t = { s with resp := t.resp, hold := t.hold, segRun := t.segRun, dom := t.dom })
  ∧ (∀ (s : State) (p : Nat), s.reached p 0x50038 false →
      ∃ t, exec (.counterLowRead p 0x50038 4 0) s = .next t ∧ t.resp = ⟨0, tget 0 s.hold (holdKey p 0x50034) % 2 ^ 32⟩)
  ∧ (∀ (s : State) (p : Nat), s.reached p 0x5003C false →
      ∃ t, exec (.counterLowRead p 0x5003C 4 0) s = .next t ∧ t.resp = ⟨0, tget 0 s.hold (holdKey p 0x50034) / 2 ^ 32⟩)

/-- A fault is recorded in the next record of the fault log (R639). A fault writes record n at the n-th fault since power-up into slot n of 1,024: INDEX,
TIME (the device epoch, or the island's time before the epoch runs), DOMAIN, CODE, STATUS, FLAGS and ARG, laid out in 32 bytes. No other record, no
register outside MGT, no byte of HBM and nothing else but what the twin is told changes. -/
def Obligations.FaultRecords : Prop :=
  ∀ (s : State) (dom code : Nat) (st : Status) (fatal : Bool) (arg : List Nat),
    FaultLogged s (s.flog dom code st fatal arg) dom code st fatal arg
    ∧ (∀ m k, m ≠ s.rdk R.MGT_FLOG_WR_INDEX 0 0 % 1024 →
        (s.flog dom code st fatal arg).rdk R.MGT_FLOG_W_WORD m k = s.rdk R.MGT_FLOG_W_WORD m k)
    ∧ (∀ (f : Fld) (u k : Nat), (f.base < 0x10000 ∨ 0x20000 ≤ f.base) → f.lo < 32 → (s.flog dom code st fatal arg).rdk f u k = s.rdk f u k)
    ∧ s.flog dom code st fatal arg = { s with regs := (s.flog dom code st fatal arg).regs, outs := (s.flog dom code st fatal arg).outs,
                                              evid := (s.flog dom code st fatal arg).evid }

/-- TIMELINE_LINE_EVENT advances a running timeline by one line (R44, R478, R678). On a running timeline inside a frame, at a line that is not the switch
line, the event moves LINE on by 1, keeps FSN, and brings the device epoch to the scheduled start of the line, no register but REF.TLN_STAT.LINE
changing. At the last line of a frame (with no cut pending, no phase error to take, no frame waiting for its END record, outside the SYNC of a pair,
no released unit waiting for its image settings, and a switch line other than 1) the next line is line 1 of a frame whose FSN is 1 higher modulo 2^32.
COMPLETION: under the conditions on the state and the operands that its clauses name and nothing else, exec answers a next state for
TIMELINE_LINE_EVENT. -/
def Obligations.TimelineLines : Prop :=
  (∀ (s : State) (t : Nat), t < 16 → s.tlnRuns t = true → (s.tlnX t).starting = false → (s.tlnX t).line < (s.tlnFmt t).lines →
    (s.tlnX t).line ≠ 0 → (s.tlnX t).line + 1 ≠ (s.tlnFmt t).sw → (s.tlnX t).line + 1 < 2 ^ R.REF_TLN_STAT_LINE.width →
      ∃ u, exec (.timelineLineEvent t) s = .next u ∧ (u.tlnX t).line = (s.tlnX t).line + 1
        ∧ u.rdk R.REF_TLN_STAT_LINE t 0 = (s.tlnX t).line + 1 ∧ u.fsn t = s.fsn t ∧ (u.tlnX t).n = (s.tlnX t).n
        ∧ u.epoch = max s.epoch (lineStart (s.tlnFmt t) (s.tlnX t).phase (s.tlnX t).n ((s.tlnX t).line + 1))
        ∧ (∀ (f : Fld) (i j : Nat), (Fld.key f ≠ Fld.key R.REF_TLN_STAT_LINE ∨ i ≠ t ∨ j ≠ 0) → u.rdk f i j = s.rdk f i j)
        ∧ (∀ i, i ≠ t → u.tlnX i = s.tlnX i)
        ∧ u = { s with regs := u.regs, tln := u.tln, epoch := u.epoch, now := u.now, cueX := u.cueX, engEvt := u.engEvt })
  ∧ (∀ (s : State) (t : Nat), t < 16 → s.tlnRuns t = true → (s.tlnX t).starting = false → (s.tlnFmt t).lines ≤ (s.tlnX t).line →
    (s.tlnX t).line ≠ 0 → (s.tlnFmt t).sw ≠ 1 → s.on R.REF_TLN_STAT_CUT_PEND t = false → s.tlnErr t = 0 →
    (∀ e ∈ s.swPend, e.1 ≠ t) → s.pair ≠ prSYNC → s.imageDue = [] →
      ∃ u, exec (.timelineLineEvent t) s = .next u ∧ (u.tlnX t).line = 1 ∧ u.fsn t = (s.fsn t + 1) % 2 ^ 32
        ∧ (u.tlnX t).n = (s.tlnX t).n + 1 ∧ (u.tlnX t).phase = (s.tlnX t).phase
        ∧ (∀ i, i ≠ t → u.tlnX i = s.tlnX i ∧ u.fsn i = s.fsn i))

/-- Host access to HBM over BAR2 (R73). A host write that is allowed stores its bytes at its address and no others, and a read that is allowed answers the
bytes stored (a device-written surface answers its frame). An access outside the installed HBM, or in no allocation that the principal may reach,
outside BOOT, LIMP and MIRROR, receives SC_PROTECTED, a read returning all ones, and writes nothing. COMPLETION: under the conditions on the state and
the operands that its clauses name and nothing else, exec answers a next state for HOST_BAR2_ACCESS. -/
def Obligations.HostMemoryAccess : Prop :=
  (∀ (s : State) (f addr c : Nat) (bytes : List Nat), f < 16 → bytes ≠ [] → s.pins.perstHigh = true →
    check (s.bar2Checks (0x10 + f) addr bytes.length true) = .ok →
      ∃ t, exec (.hostBar2Access f addr true bytes c 0) s = .next t ∧ t.resp = ⟨0, 0⟩
        ∧ (∀ i (h : i < bytes.length), memRead t.hbm (addr + i) = BitVec.ofNat 8 bytes[i])
        ∧ (∀ a, a < addr ∨ addr + bytes.length ≤ a → memRead t.hbm a = memRead s.hbm a)
        ∧ t = { s with hbm := t.hbm, outs := t.outs, resp := t.resp })
  ∧ (∀ (s : State) (f addr n : Nat) (bytes : List Nat), f < 16 → 0 < n → s.pins.perstHigh = true →
    check (s.bar2Checks (0x10 + f) addr n false) = .ok →
      ∃ t, exec (.hostBar2Access f addr false bytes n 0) s = .next t ∧ t = { s with resp := ⟨0, leVal (s.bar2Read addr n)⟩ }
        ∧ (∀ x, s.allocAt addr = some x → x.key / 2 ^ 20 ≠ kSurface → t.resp.data = leVal (memReadBytes s.hbm addr n)))
  ∧ (∀ (s : State) (f addr n : Nat) (write : Bool) (bytes : List Nat), f < 16 → (if write then bytes.length else n) ≠ 0 → s.pins.perstHigh = true →
    s.modeOk → (s.hbmBytes < addr + (if write then bytes.length else n)
      ∨ ∀ x ∈ s.allocs, ¬(x.base ≤ addr ∧ addr + (if write then bytes.length else n) ≤ x.base + x.len ∧ s.bar2May (0x10 + f) x write = true)) →
      ∃ t, exec (.hostBar2Access f addr write bytes n 0) s = .next t
        ∧ t.resp = ⟨Status.protected'.code, if write then 0 else 2 ^ (8 * n) - 1⟩ ∧ t.hbm = s.hbm
        ∧ t = { s with regs := t.regs, resp := t.resp } ∧ t.rdk R.FAB_ERR_WR_INDEX 0 0 = (s.rdk R.FAB_ERR_WR_INDEX 0 0 + 1) % 2 ^ 32)

/-- An uncorrectable HBM error is recorded and reaches its reader (R21, R55, R639, R679). HBM_ECC_UNCORR writes a fault record of code 0x0010 with the
40-bit address of the 256-bit word and records the reader's ECC_UNCORR. A BAR2 or control-core read that passes its other checks answers SC_ECC_UNCORR
and is logged by the fabric; a BAR2 read that fails one answers that status and records no memory error. The pixels named are marked for the layer or
the pipeline (which shows Undercoat there); the samples named of an audio delay read as zero, with the audio unit's ECC_UNCORR flag. HBM does not
change. COMPLETION: under the conditions on the state and the operands that its clauses name and nothing else, exec answers a next state for
HBM_ECC_UNCORR. -/
def Obligations.MemoryErrors : Prop :=
  ∀ (s : State) (addr : Nat) (hit : List (Nat × Nat)),
    (∀ f, f < 16 → s.pins.perstHigh = true → 2 ^ 30 ≤ addr → check (s.bar2Checks (0x10 + f) (addr - 2 ^ 30) 1 false) = .ok →
      ∃ t, exec (.hbmEccUncorr (.bar2 f) addr hit) s = .next t ∧ t.resp.status = Status.eccUncorr.code
      ∧ FaultLogged s t 1 0x0010 .eccUncorr false (leBytes 5 (addr % 2 ^ 39 / 32 * 32)) ∧ t.evts = .eccUncorr (.bar2 f) addr :: s.evts
      ∧ t.rdk R.FAB_ERR_WR_INDEX 0 0 = (s.rdk R.FAB_ERR_WR_INDEX 0 0 + 1) % 2 ^ 32 ∧ t.hbm = s.hbm)
    ∧ (∀ f, f < 16 → s.pins.perstHigh = true → 2 ^ 30 ≤ addr → check (s.bar2Checks (0x10 + f) (addr - 2 ^ 30) 1 false) ≠ .ok →
      ∃ t, exec (.hbmEccUncorr (.bar2 f) addr hit) s = .next t ∧ t.resp.status = (check (s.bar2Checks (0x10 + f) (addr - 2 ^ 30) 1 false)).code
      ∧ t.evts = s.evts ∧ t.hbm = s.hbm)
    ∧ (∀ c, addr < 2 ^ 30 ∨ (∀ p, s.fwRefuses p 1 (addr - 2 ^ 30) 1 false = none) →
      ∃ t, exec (.hbmEccUncorr (.core c) addr hit) s = .next t ∧ t.resp.status = Status.eccUncorr.code
      ∧ FaultLogged s t 1 0x0010 .eccUncorr false (leBytes 5 (addr % 2 ^ 39 / 32 * 32)) ∧ t.hbm = s.hbm)
    ∧ (∀ n l, n < 96 → l < 8 → ∃ t, exec (.hbmEccUncorr (.layer n l) addr hit) s = .next t
      ∧ FaultLogged s t 1 0x0010 .eccUncorr false (leBytes 5 (addr % 2 ^ 39 / 32 * 32)) ∧ t.evts = .eccUncorr (.layer n l) addr :: s.evts
      ∧ tget [] t.eccPix (8 * n + l) = tget [] s.eccPix (8 * n + l) ++ hit ∧ t.hbm = s.hbm)
    ∧ (∀ n, ∃ t, exec (.hbmEccUncorr (.pipe n) addr hit) s = .next t
      ∧ FaultLogged s t 1 0x0010 .eccUncorr false (leBytes 5 (addr % 2 ^ 39 / 32 * 32))
      ∧ tget [] t.eccPix (8 * n) = tget [] s.eccPix (8 * n) ++ hit ∧ t.hbm = s.hbm)
    ∧ (∀ e sl, ∃ t, exec (.hbmEccUncorr (.arcade e sl) addr hit) s = .next t
      ∧ FaultLogged s t 1 0x0010 .eccUncorr false (leBytes 5 (addr % 2 ^ 39 / 32 * 32)) ∧ t.evts = .eccUncorr (.arcade e sl) addr :: s.evts
      ∧ t.hbm = s.hbm)
    ∧ (∃ t, exec (.hbmEccUncorr .audio addr hit) s = .next t
      ∧ FaultLogged s t 1 0x0010 .eccUncorr false (leBytes 5 (addr % 2 ^ 39 / 32 * 32))
      ∧ bitAt (t.rdk R.AUD_UNIT_EVT_FLAGS 0 0) 0 = true ∧ (∀ c g, (c, g) ∈ hit → ∀ v, (g, v) ∉ tget [] t.aHist c) ∧ t.hbm = s.hbm)

/-- Locked sequences, lock breaks and fabric timeouts (R501, R502, R506, R513). A granted access marked LOCK by a control core or debug begins a locked
sequence on its segment, which holds the segment against every other master; UNLOCK ends it. LOCK_TIMEOUT of a sequence that holds its segment breaks
the lock, logs SC_BUSY with LOCK_BREAK and raises the LOCK_BREAK flag; the accesses of the sequence that follow, up to UNLOCK, receive SC_BUSY.
LOCK_TIMEOUT of no such sequence changes nothing. FABRIC_TIMEOUT answers SC_NOT_READY, logs it, raises TIMEOUT and counts one more timeout in a row on
its segment; with fewer than 16 in a row nothing else happens, and the 16th in a row sets the bit of the segment in FAB.STAT in BOOT and elsewhere
enters LIMP with cause 6. In LIMP it changes nothing. COMPLETION: under the conditions on the state and the operands that its clauses name and nothing
else, exec answers a next state for REGISTER_WRITE, LOCK_TIMEOUT, FABRIC_TIMEOUT. -/
def Obligations.FabricTimeouts : Prop :=
  (∀ (s : State) (seg p addr : Nat) (write : Bool), seg < 3 → (isCore p = true ∨ p = pDebug) → tfind s.locks (64 * seg + masterOf p) = some false →
      ∃ t, exec (.lockTimeout seg p addr write) s = .next t ∧ bitAt (t.rdk R.FAB_EVT_FLAGS 0 0) 1 = true
        ∧ t.rdk R.FAB_ERR_WR_INDEX 0 0 = (s.rdk R.FAB_ERR_WR_INDEX 0 0 + 1) % 2 ^ 32
        ∧ t.rdk R.FAB_ERR_INFO_INFO (s.rdk R.FAB_ERR_WR_INDEX 0 0 % 64) 0 / 2 ^ 16 = Status.busy.code
        ∧ (∀ a, segOf a = seg → t.lockBroken p a = true)
        ∧ t = { s with regs := t.regs, locks := t.locks })
  ∧ (∀ (s : State) (seg p addr : Nat) (write : Bool), tfind s.locks (64 * seg + masterOf p) ≠ some false → exec (.lockTimeout seg p addr write) s = .next s)
  ∧ (∀ (s : State) (p a data : Nat) (r : RegSpec) (u k : Nat), (isCore p = true ∨ p = pDebug) → s.replay = false → s.plainWrite p a data r u k →
    s.reached p a true →
      (∃ t, exec (.registerWrite p a 4 data 1) s = .next t ∧ tfind t.locks (lockKey p a) = some false
        ∧ (∀ q b, segOf b = segOf a → masterOf q ≠ masterOf p → t.lockedOut q b = true))
      ∧ (∃ t, exec (.registerWrite p a 4 data 2) s = .next t ∧ tfind t.locks (lockKey p a) = none))
  ∧ (∀ (s : State) (seg p m addr : Nat) (write : Bool), seg < 4 → s.modeCode ≠ mLIMP → tget 0 s.segRun seg + 1 < 16 →
      ∃ t, exec (.fabricTimeout seg p m addr write) s = .next t ∧ bitAt (t.rdk R.FAB_EVT_FLAGS 0 0) 0 = true
        ∧ t.resp = ⟨Status.notReady.code, if write then 0 else 0xFFFF0000 + Status.notReady.code⟩
        ∧ tget 0 t.segRun seg = tget 0 s.segRun seg + 1 ∧ (∀ i, i ≠ seg → tget 0 t.segRun i = tget 0 s.segRun i)
        ∧ t.rdk R.FAB_STAT_SEG_FAIL 0 0 = s.rdk R.FAB_STAT_SEG_FAIL 0 0
        ∧ t = { s with regs := t.regs, resp := t.resp, segRun := t.segRun, outs := t.outs, evid := t.evid })
  ∧ (∀ (s : State) (seg p m addr : Nat) (write : Bool), seg < 4 → s.modeCode = mBOOT → tget 0 s.segRun seg = 15 →
      ∃ t, exec (.fabricTimeout seg p m addr write) s = .next t ∧ bitAt (t.rdk R.FAB_STAT_SEG_FAIL 0 0) seg = true)
  ∧ (∀ (s : State) (seg p m addr : Nat) (write : Bool), seg < 4 → s.modeCode ≠ mBOOT → s.modeCode ≠ mLIMP → tget 0 s.segRun seg = 15 →
    bitAt (s.rdk R.FAB_STAT_SEG_FAIL 0 0) seg = false →
      ∃ t, exec (.fabricTimeout seg p m addr write) s = .next t ∧ t.modeCode = mLIMP ∧ t.rd R.MGT_MODE_LIMP_CAUSE 0 = 6)
  ∧ (∀ (s : State) (seg p m addr : Nat) (write : Bool), 4 ≤ seg ∨ s.modeCode = mLIMP → exec (.fabricTimeout seg p m addr write) s = .next s)

/-- FW_REGION_WRITE programs a region, and the write of BASE_HI brings the entry into force (R509, R510, R512). A write to word 0, 2 or 3 of an entry 4 to
511 stores it and changes no bound in force; a write to word 1 stores its fields and puts the base and limit of the entry into force, of that entry
only. Entries 0 to 3 are read-only. A write inside an enabled region of another owner is then refused with SC_PROTECTED where nothing earlier in the
order of R20 fails, outside LIMP and MIRROR. COMPLETION: under the conditions on the state and the operands that its clauses name and nothing else,
exec answers a next state for FW_REGION_WRITE. -/
def Obligations.FirewallRegions : Prop :=
  (∀ (s : State) (p r w data : Nat), 4 ≤ r → r < 512 → w < 4 → s.reached p (0x24000 + 16 * r + 4 * w) true →
      ∃ t, exec (.fwRegionWrite p r w data) s = .next t ∧ t.resp = ⟨0, 0⟩
        ∧ (w = 0 → t.rd R.FAB_FW_BASE_LO_BASE r = data % 2 ^ 32 ∧ t.fwX = s.fwX)
        ∧ (w = 2 → t.rd R.FAB_FW_LIM_LO_LIMIT r = data % 2 ^ 32 ∧ t.fwX = s.fwX)
        ∧ (w = 3 → t.rd R.FAB_FW_LIM_HI_LIMIT r = data % 2 ^ 8 ∧ t.fwX = s.fwX)
        ∧ (w = 1 → t.on R.FAB_FW_BASE_HI_ENABLE r = bitAt data 31 ∧ t.on R.FAB_FW_BASE_HI_RD_LOCK r = bitAt data 29
            ∧ t.on R.FAB_FW_BASE_HI_SPACE r = bitAt data 30 ∧ t.rd R.FAB_FW_BASE_HI_OWNER r = bitsOf data 8 8
            ∧ tget (0, 0) t.fwX r = (s.rd R.FAB_FW_BASE_LO_BASE r + data % 2 ^ 8 * 2 ^ 32,
                s.rd R.FAB_FW_LIM_LO_LIMIT r + s.rd R.FAB_FW_LIM_HI_LIMIT r * 2 ^ 32))
        ∧ (∀ i, i ≠ r → tget (0, 0) t.fwX i = tget (0, 0) s.fwX i)
        ∧ (∀ (f : Fld) (u k : Nat), outsideFabric f → t.rdk f u k = s.rdk f u k))
  ∧ (∀ (s : State) (p r w data : Nat), r < 4 → w < 4 → s.reached p (0x24000 + 16 * r + 4 * w) true →
      ∃ t, exec (.fwRegionWrite p r w data) s = .next t ∧ t.regs = s.regs ∧ t.fwX = s.fwX)
  ∧ (∀ (s : State) (p a r : Nat) (own : List (Bool × Status)) (act : State → State), s.replay = false → s.fwHit r p 0 a 4 true = true → r < 512 →
      s.modeCode ≠ mLIMP → s.modeCode ≠ mMIRROR → check ((s.fabricChecks p a true).take 4) = .ok → isPrincipal p = true →
      (∀ e ∈ own, e.1 = true → Status.rank .protected' ≤ e.2.rank) →
      (s.gate p a true own act).resp = ⟨Status.protected'.code, 0⟩)

/-- SESSION_OPEN and SESSION_CLOSE complete (R76, R77, R82, R84, R26). SESSION_OPEN of a function, in a mode that admits it and with the fields it does
not name 0, completes OK: the session has the lowest free index, the next generation, the opening function as principal. With 1,023 sessions open it
completes with SC_NO_CONTEXT. SESSION_CLOSE of an own session completes OK with result 0 and the session freed, or with result 1 and the session
DRAINING. COMPLETION: under the conditions on the state and the operands that its clauses name and nothing else, exec answers a next state for
SESSION_OPEN, SESSION_CLOSE. -/
def Obligations.SessionCommands : Prop :=
  (∀ (s : State) (f i : Nat) (c : Taken) (pay : List Nat),
    s.taking f 0x01 c → c.plain → c.object = 0 → c.session = 0 → allZero c.inl = true → s.modeOk → s.freeIndex kSession 1 = some i →
      ∃ t, exec (.sessionOpen f pay) s = .next t
        ∧ Completed t f c .ok (mkHandle kSession (nextGen (s.obj kSession i).gen) i) 0
        ∧ (t.obj kSession i).live = true ∧ (t.obj kSession i).draining = false ∧ (t.obj kSession i).gen = nextGen (s.obj kSession i).gen
        ∧ tfind t.sessPrin i = some (0x10 + f) ∧ 1 ≤ i ∧ i < 1024
        ∧ (s.obj kSession i).live = false ∧ (∀ j, 1 ≤ j → j < i → (s.obj kSession j).live = true)
        ∧ (∀ kind j, objKey kind j ≠ objKey kSession i → t.obj kind j = s.obj kind j) ∧ AdminKeeps s t)
  ∧ (∀ (s : State) (f : Nat) (c : Taken) (pay : List Nat),
    s.taking f 0x01 c → c.plain → c.object = 0 → c.session = 0 → allZero c.inl = true → s.modeOk → s.freeIndex kSession 1 = none →
      ∃ t, exec (.sessionOpen f pay) s = .next t ∧ Completed t f c .noContext 0 0 ∧ t.objs = s.objs ∧ t.sessPrin = s.sessPrin)
  ∧ (∀ (s : State) (f : Nat) (c : Taken) (pay : List Nat),
    s.taking f 0x02 c → c.plain → allZero c.inl = true → s.modeOk → s.sessOk f c →
    s.badHandle c.object = false → hKind c.object = kSession → s.prinOf (hIdx c.object) = 0x10 + f → s.isDraining c.object = false →
      ∃ t r, exec (.sessionClose f pay) s = .next t ∧ Completed t f c .ok 0 r
        ∧ ((r = 0 ∧ (t.obj kSession (hIdx c.object)).live = false) ∨ (r = 1 ∧ (t.obj kSession (hIdx c.object)).draining = true)))

/-- GRANT and REVOKE complete (R78, R79). GRANT of an own surface or ring to a live session of the same principal completes OK, and the grantee may read
the object. REVOKE completes OK, the grantee may not read it any more unless it owns it, and its live uses are noted to end at the switch line: no
register changes yet. Neither changes the owner or the generation of the object, any other object, or what AdminKeeps names. COMPLETION: under the
conditions on the state and the operands that its clauses name and nothing else, exec answers a next state for GRANT, REVOKE. -/
def Obligations.GrantCommands : Prop :=
  ∀ (s : State) (f : Nat) (c : Taken) (pay : List Nat),
    c.plain → s.modeOk → s.sessOk f c → (hKind c.object = kSurface ∨ hKind c.object = kRing) → s.ownsObj c (hKind c.object) →
    allZero (c.inl.drop 4) = true → s.badHandle (leField c.inl 0 4) = false → hKind (leField c.inl 0 4) = kSession →
    s.isDraining (leField c.inl 0 4) = false → s.prinOf (hIdx (leField c.inl 0 4)) = s.prinOf c.ss →
    (s.taking f 0x03 c → ∃ t, exec (.grant f pay) s = .next t ∧ Completed t f c .ok 0 0 ∧ AdminKeeps s t
      ∧ t.mayRead (hIdx (leField c.inl 0 4)) c.object = true
      ∧ (∀ g, g ≠ hIdx (leField c.inl 0 4) → t.mayRead g c.object = s.mayRead g c.object)
      ∧ (t.hobj c.object).owner = (s.hobj c.object).owner ∧ (t.hobj c.object).gen = (s.hobj c.object).gen
      ∧ (∀ kind j, objKey kind j ≠ objKey (hKind c.object) (hIdx c.object) → t.obj kind j = s.obj kind j))
    ∧ (s.taking f 0x04 c → ∃ t, exec (.revoke f pay) s = .next t ∧ Completed t f c .ok 0 0 ∧ AdminKeeps s t
      ∧ (hIdx (leField c.inl 0 4) ≠ (s.hobj c.object).owner → t.mayRead (hIdx (leField c.inl 0 4)) c.object = false)
      ∧ (∀ g, g ≠ hIdx (leField c.inl 0 4) → t.mayRead g c.object = s.mayRead g c.object)
      ∧ t.revoked = s.revoked ++ (s.grantUses c.object (hIdx (leField c.inl 0 4))).map (fun k => (k, c.object))
      ∧ (t.hobj c.object).owner = (s.hobj c.object).owner ∧ (t.hobj c.object).gen = (s.hobj c.object).gen
      ∧ (∀ kind j, objKey kind j ≠ objKey (hKind c.object) (hIdx c.object) → t.obj kind j = s.obj kind j))

/-- DESTROY frees an unused object at once and drains a used one; OBJECT_FREED frees it (R88). DESTROY of an object with use count 0 completes OK with
result 0 and the handle is dead; of one with a use count above 0 it completes OK with result 1 and the handle is DRAINING (for a job, which is first
asked to stop, one or the other). OBJECT_FREED of a DRAINING object whose use count is 0 frees it; of a DRAINING session with no object left too.
COMPLETION: under the conditions on the state and the operands that its clauses name and nothing else, exec answers a next state for DESTROY,
OBJECT_FREED. -/
def Obligations.DestroyAndFree : Prop :=
  (∀ (s : State) (f : Nat) (c : Taken) (pay : List Nat),
    s.taking f 0x05 c → c.plain → allZero c.inl = true → s.modeOk → s.sessOk f c → s.ownsObj c (hKind c.object) → s.destroyable c.object = true →
    (hKind c.object = kClone → s.cloneRunning (hIdx c.object) = []) →
      ∃ t r, exec (.destroy f pay) s = .next t ∧ Completed t f c .ok 0 r
        ∧ (r = 0 → t.badHandle c.object = true) ∧ (r ≠ 0 → r = 1 ∧ t.isDraining c.object = true)
        ∧ (hKind c.object ≠ kJob → (r = 0 ↔ s.useCount (hKind c.object) (hIdx c.object) = 0)))
  ∧ (∀ (s : State) (h : Nat),
    s.badHandle h = false → s.isDraining h = true → hKind h ≠ kSession → s.useCount (hKind h) (hIdx h) = 0 →
      ∃ t, exec (.objectFreed h) s = .next t ∧ t.badHandle h = true)
  ∧ (∀ (s : State) (h : Nat),
    s.badHandle h = false → s.isDraining h = true → hKind h = kSession → hIdx h ≠ 0 → s.sessObjs (hIdx h) = [] →
      ∃ t, exec (.objectFreed h) s = .next t ∧ t.badHandle h = true)

/-- UNIT_ACQUIRE and UNIT_RELEASE complete (R80, R81, R86). UNIT_ACQUIRE of a present fixed unit that firmware or the command's session holds completes OK
with its handle; the session holds it, and the generation is the next one if firmware held it, unchanged if the session did. UNIT_RELEASE of a held
unit completes OK and the firmware session holds it, under the same generation: one at rest takes its settings of the defaults image, one that runs
takes them when it comes to rest (log entry 127). Neither changes any other object; an acquisition changes nothing that AdminKeeps names, nor does the
release of a running unit. COMPLETION: under the conditions on the state and the operands that its clauses name and nothing else, exec answers a next
state for UNIT_ACQUIRE, UNIT_RELEASE. -/
def Obligations.FixedUnits : Prop :=
  (∀ (s : State) (f : Nat) (c : Taken) (pay : List Nat),
    s.taking f 0x06 c → c.plain → s.modeOk → s.sessOk f c → c.object = 0 → leField c.inl 1 1 = 0 → allZero (c.inl.drop 4) = true →
    leField c.inl 2 2 < unitLimit (leField c.inl 0 1) → s.fixedAbsent (leField c.inl 0 1) (leField c.inl 2 2) = false →
    ((s.obj (leField c.inl 0 1) (leField c.inl 2 2)).owner = 0 ∨ (s.obj (leField c.inl 0 1) (leField c.inl 2 2)).owner = c.ss) →
      ∃ t, exec (.unitAcquire f pay) s = .next t
        ∧ Completed t f c .ok (mkHandle (leField c.inl 0 1) (t.obj (leField c.inl 0 1) (leField c.inl 2 2)).gen (leField c.inl 2 2)) 0
        ∧ (t.obj (leField c.inl 0 1) (leField c.inl 2 2)).owner = c.ss
        ∧ (t.obj (leField c.inl 0 1) (leField c.inl 2 2)).gen
            = (if (s.obj (leField c.inl 0 1) (leField c.inl 2 2)).owner = c.ss then (s.obj (leField c.inl 0 1) (leField c.inl 2 2)).gen
               else nextGen (s.obj (leField c.inl 0 1) (leField c.inl 2 2)).gen)
        ∧ (∀ kind j, objKey kind j ≠ objKey (leField c.inl 0 1) (leField c.inl 2 2) → t.obj kind j = s.obj kind j) ∧ AdminKeeps s t)
  ∧ (∀ (s : State) (f : Nat) (c : Taken) (pay : List Nat),
    s.taking f 0x07 c → c.plain → s.modeOk → s.sessOk f c → allZero c.inl = true → s.badHandle c.object = false →
    isFixed (hKind c.object) = true → s.isDraining c.object = false → s.owns c.ss c.object = true →
      ∃ t, exec (.unitRelease f pay) s = .next t ∧ Completed t f c .ok 0 0
        ∧ (t.hobj c.object).owner = 0 ∧ (t.hobj c.object).gen = (s.hobj c.object).gen
        ∧ (∀ kind j, objKey kind j ≠ objKey (hKind c.object) (hIdx c.object) → t.obj kind j = s.obj kind j)
        ∧ t.fuses = s.fuses ∧ t.nvs = s.nvs ∧ t.epoch = s.epoch
        ∧ (s.unitRests (hKind c.object) (hIdx c.object) = false → AdminKeeps s t ∧ objKey (hKind c.object) (hIdx c.object) ∈ t.imageDue)
        ∧ (s.unitRests (hKind c.object) (hIdx c.object) = true →
            (hKind c.object = kInput → ∀ g ∈ R.imageFlds, 0x200000 ≤ g.base → g.base < 0x201000 → ∀ k, t.rdk g (hIdx c.object) k = regGet s.image g (hIdx c.object) k)
            ∧ (hKind c.object = kPipe → ∀ g ∈ R.imageFlds, 0x500000 ≤ g.base → g.base < 0x504000 → ∀ k, t.rdk g (hIdx c.object) k = regGet s.image g (hIdx c.object) k)
            ∧ (hKind c.object = kPipe → t.rd R.PLZ_SEL_LIVE_SEL (hIdx c.object) = regGet s.image R.PLZ_SEL_LIVE_SEL (hIdx c.object) 0 % 2 ^ R.PLZ_SEL_LIVE_SEL.width
              ∧ t.selH (hIdx c.object) = 0 ∧ (∀ l, 1 ≤ l → l < 7 → t.rdk R.OUT_LYR_SURF_LIVE_HANDLE (hIdx c.object) l = 0))))

/-- RING_CREATE, RING_QUERY and RING_CLEAR complete (R84, R93, R94, R95, R105). RING_CREATE with valid arguments completes OK: the lowest free ring index
from 32 up is issued, and its ring has the size, entry size, side, producer, vector and session asked for and both indexes 0; one in host memory has
the base given, one in HBM has as base the place the completion returns as its result. RING_QUERY writes the ring context to PAYLOAD, and changes no
ring. RING_CLEAR clears OVERFLOW and DROPS and returns the drops counted. COMPLETION: under the conditions on the state and the operands that its
clauses name and nothing else, exec answers a next state for RING_CREATE, RING_QUERY, RING_CLEAR. -/
def Obligations.RingCommands : Prop :=
  (∀ (s : State) (f i : Nat) (c : Taken) (pay : List Nat),
    s.taking f 0x10 c → c.plain → s.modeOk → s.sessOk f c → c.object = 0 → check (ringCreateChecks c.inl) = .ok → s.freeIndex kRing 32 = some i →
    f < 16 → ((ringArgs c.inl 0).host = false → ∃ x, s.allocate (ringBytes (ringArgs c.inl c.session)) 65536 (objKey kRing i) false false = some x) →
      ∃ t b r, exec (.ringCreate f pay) s = .next t
        ∧ Completed t f c .ok (mkHandle kRing (nextGen (s.obj kRing i).gen) i) b
        ∧ tfind t.rings i = some r ∧ r.size = (ringArgs c.inl 0).size ∧ r.esize = (ringArgs c.inl 0).esize ∧ r.host = (ringArgs c.inl 0).host
        ∧ r.hostProduces = (ringArgs c.inl 0).hostProduces ∧ r.vector = (ringArgs c.inl 0).vector ∧ r.owner = c.session ∧ r.pi = 0 ∧ r.ci = 0
        ∧ r.overflow = false ∧ r.drops = 0 ∧ r.handle = mkHandle kRing (nextGen (s.obj kRing i).gen) i
        ∧ (t.obj kRing i).live = true ∧ 32 ≤ i ∧ (s.obj kRing i).live = false ∧ (∀ j, 32 ≤ j → j < i → (s.obj kRing j).live = true)
        ∧ (r.host = true → r.base = (ringArgs c.inl 0).base) ∧ (r.host = false → r.base = b))
  ∧ (∀ (s : State) (f : Nat) (c : Taken) (pay : List Nat) (r : RingCtx),
    s.taking f 0x11 c → c.reserved = false → c.payLen = 64 → allZero c.inl = true → s.modeOk → s.sessOk f c → s.ownsObj c kRing →
    tfind s.rings (hIdx c.object) = some r →
      ∃ t, exec (.ringQuery f pay) s = .next t ∧ Completed t f c .ok 0 0 ∧ Out.hostWrite f c.payAddr (ringContext r) ∈ t.outs
        ∧ (ringContext r).length = 64 ∧ (∀ j, j ≠ 2 * f + 1 → tfind t.rings j = tfind s.rings j) ∧ t.objs = s.objs)
  ∧ (∀ (s : State) (f : Nat) (c : Taken) (pay : List Nat) (r : RingCtx),
    s.taking f 0x12 c → c.plain → allZero c.inl = true → s.modeOk → s.sessOk f c → s.ownsObj c kRing →
    tfind s.rings (hIdx c.object) = some r → hIdx c.object ≠ 2 * f + 1 →
      ∃ t, exec (.ringClear f pay) s = .next t ∧ Completed t f c .ok 0 r.drops
        ∧ tfind t.rings (hIdx c.object) = some { r with overflow := false, drops := 0 }
        ∧ (∀ j, j ≠ 2 * f + 1 → j ≠ hIdx c.object → tfind t.rings j = tfind s.rings j) ∧ t.objs = s.objs)

/-- EVENT_BIND binds the events its mask names and no other (R106, R107). EVENT_BIND whose checks pass completes OK; each event its GROUP and MASK name is
bound to RING, or to nothing where RING is null, and every other binding stays. COMPLETION: under the conditions on the state and the operands that
its clauses name and nothing else, exec answers a next state for EVENT_BIND. -/
def Obligations.EventBindings : Prop :=
  ∀ (s : State) (f : Nat) (c : Taken) (pay : List Nat),
    s.taking f 0x13 c → c.plain → s.modeOk → s.sessOk f c → check (s.bindEvChecks c) = .ok →
      ∃ t, exec (.eventBind f pay) s = .next t ∧ Completed t f c .ok 0 0
        ∧ (∀ code ∈ bindCodes c.inl, tfind t.binds (bindKey (hKind c.object) (hIdx c.object) code)
            = if leField c.inl 0 4 = 0 then none else some (leField c.inl 0 4))
        ∧ (∀ b, b < 64 → (bitAt (leField c.inl 4 8) b = true ↔ leField c.inl 12 1 * 256 + b + 1 ∈ bindCodes c.inl))
        ∧ (∀ k, (∀ code ∈ bindCodes c.inl, k ≠ bindKey (hKind c.object) (hIdx c.object) code) → tfind t.binds k = tfind s.binds k)
        ∧ t.objs = s.objs ∧ AdminKeeps s t

/-- A doorbell moves the index of its ring, and a bad one is discarded and logged (R98). A write of MBX.RING_DB_HI moves PI of a host-produced ring, CI of
a device-produced one, of the ring its pair names, and no other ring; ARM arms it, or sends its message at once where a device-produced ring still
holds entries. A ring the function does not own is refused with SC_PROTECTED, an index that exceeds the ring or moves backwards with SC_LEN_EXCEEDS:
the access is logged and no ring changes. COMPLETION: under the conditions on the state and the operands that its clauses name and nothing else, exec
answers a next state for RING_DOORBELL. -/
def Obligations.RingDoorbells : Prop :=
  ∀ (s : State) (p f data : Nat), s.reached p (0x34004 + 8 * f) true → isPrincipal p = true → f < 16 →
    (∀ r, tfind s.rings (s.rd R.MBX_RING_DB_LO_RING f) = some r → s.fnOwnsRing f (s.rd R.MBX_RING_DB_LO_RING f) = true →
      dbBad r (data % 2 ^ 32) = false →
      ∃ t m, exec (.ringDoorbell p f data) s = .next t ∧ tfind t.rings (s.rd R.MBX_RING_DB_LO_RING f) = some m
        ∧ m.pi = (if r.hostProduces then data % 2 ^ 32 else r.pi) ∧ m.ci = (if r.hostProduces then r.ci else data % 2 ^ 32)
        ∧ (s.on R.MBX_RING_DB_LO_ARM f = true → (r.hostProduces = true ∨ ringUsed m = 0) → m.armed = true ∧ t.outs = s.outs)
        ∧ (s.on R.MBX_RING_DB_LO_ARM f = true → r.hostProduces = false → 0 < ringUsed m →
            m.armed = false ∧ ∃ fn, t.outs = .msix fn r.vector :: s.outs)
        ∧ (s.on R.MBX_RING_DB_LO_ARM f = false → m.armed = r.armed ∧ t.outs = s.outs)
        ∧ (∀ j, j ≠ s.rd R.MBX_RING_DB_LO_RING f → tfind t.rings j = tfind s.rings j)
        ∧ t = { s with rings := t.rings, outs := t.outs, resp := ⟨0, 0⟩, segRun := t.segRun, dom := t.dom })
    ∧ (s.fnOwnsRing f (s.rd R.MBX_RING_DB_LO_RING f) = false →
      ∃ t, exec (.ringDoorbell p f data) s = .next t ∧ RefusedWith s t .protected' true ∧ t.rings = s.rings)
    ∧ (∀ r, tfind s.rings (s.rd R.MBX_RING_DB_LO_RING f) = some r → s.fnOwnsRing f (s.rd R.MBX_RING_DB_LO_RING f) = true →
      dbBad r (data % 2 ^ 32) = true →
      ∃ t, exec (.ringDoorbell p f data) s = .next t ∧ RefusedWith s t .lenExceeds true ∧ t.rings = s.rings)

/-- The admin queue pairs and the reset of their function (R82, R83, R100, R101, R102, R103). ADMQ_ENABLE with both sizes 4 to 16 on a stopped pair makes
it ACTIVE with both rings empty and of those sizes, and with ENABLE 0 clears ENABLE, ACTIVE falling unless a command is taken. ADMIN_COMMAND_TAKE on
an active pair with a command waiting and a completion entry free takes the entry and moves CI by 1; an unknown opcode completes at once with
SC_DECODE. ADMQ_DRAINED clears ACTIVE once ENABLE is 0 and nothing is taken, and changes nothing before. FUNCTION_LEVEL_RESET of a virtual function
with no open session changes nothing; of one with one open session, that session is freed or DRAINING afterwards. COMPLETION: under the conditions on
the state and the operands that its clauses name and nothing else, exec answers a next state for ADMIN_COMMAND_TAKE, ADMQ_ENABLE, ADMQ_DRAINED,
FUNCTION_LEVEL_RESET. -/
def Obligations.AdminQueuesAndReset : Prop :=
  (∀ (s : State) (p f data : Nat), s.reached p (0x38010 + 0x40 * f) true → f < 16 → s.on R.MBX_ADMQ_CFG_ACTIVE f = false → bitAt data 31 = true →
    4 ≤ bitsOf data 8 5 → bitsOf data 8 5 ≤ 16 → 4 ≤ bitsOf data 0 5 → bitsOf data 0 5 ≤ 16 →
      ∃ t cmd cpl, exec (.admqEnable p f data) s = .next t ∧ t.on R.MBX_ADMQ_CFG_ENABLE f = true ∧ t.on R.MBX_ADMQ_CFG_ACTIVE f = true
        ∧ t.rd R.MBX_ADMQ_CFG_VECTOR f = bitsOf data 16 7
        ∧ tfind t.rings (2 * f) = some cmd ∧ cmd.size = bitsOf data 0 5 ∧ cmd.pi = 0 ∧ cmd.ci = 0 ∧ cmd.host = true ∧ cmd.hostProduces = true
        ∧ tfind t.rings (2 * f + 1) = some cpl ∧ cpl.size = bitsOf data 8 5 ∧ cpl.pi = 0 ∧ cpl.ci = 0 ∧ cpl.host = true
        ∧ cpl.hostProduces = false ∧ (∀ j, j ≠ 2 * f → j ≠ 2 * f + 1 → tfind t.rings j = tfind s.rings j))
  ∧ (∀ (s : State) (p f data : Nat), s.reached p (0x38010 + 0x40 * f) true → f < 16 → s.on R.MBX_ADMQ_CFG_ACTIVE f = true → bitAt data 31 = false →
    bitsOf data 16 7 = s.rd R.MBX_ADMQ_CFG_VECTOR f → bitsOf data 8 5 = s.rd R.MBX_ADMQ_CFG_CPL_SIZE f → bitsOf data 0 5 = s.rd R.MBX_ADMQ_CFG_CMD_SIZE f →
      ∃ t, exec (.admqEnable p f data) s = .next t ∧ t.on R.MBX_ADMQ_CFG_ENABLE f = false
        ∧ t.on R.MBX_ADMQ_CFG_ACTIVE f = (tfind s.taken f).isSome ∧ t.rings = s.rings)
  ∧ (∀ (s : State) (f : Nat) (entry : List Nat) (cmd cpl : RingCtx), tfind s.rings (2 * f) = some cmd → tfind s.rings (2 * f + 1) = some cpl →
    tfind s.taken f = none → f < 16 → s.on R.MBX_ADMQ_CFG_ENABLE f = true → s.on R.MBX_ADMQ_CFG_ACTIVE f = true → ringUsed cmd ≠ 0 →
    ringFull cpl = false → s.modeCode ≠ mBOOT → s.modeCode ≠ mLIMP →
      ∃ t, exec (.adminCommandTake f entry) s = .next t ∧ tfind t.rings (2 * f) = some { cmd with ci := (cmd.ci + 1) % 2 ^ 32 }
        ∧ (opKnown (leField entry 0 2) = true → tfind t.taken f = some (takenOf entry cmd.ci) ∧ t.cpl = s.cpl)
        ∧ (opKnown (leField entry 0 2) = false → Completed t f (takenOf entry cmd.ci) .decode 0 0))
  ∧ (∀ (s : State) (f : Nat), s.on R.MBX_ADMQ_CFG_ENABLE f = false → tfind s.taken f = none →
      ∃ t, exec (.admqDrained f) s = .next t ∧ t.on R.MBX_ADMQ_CFG_ACTIVE f = false ∧ t = { s with regs := t.regs }
        ∧ (∀ (g : Fld) (i j : Nat), Fld.key g ≠ Fld.key R.MBX_ADMQ_CFG_ACTIVE ∨ i ≠ f ∨ j ≠ 0 → t.rdk g i j = s.rdk g i j))
  ∧ (∀ (s : State) (f : Nat), s.on R.MBX_ADMQ_CFG_ENABLE f = true ∨ (tfind s.taken f).isSome = true →
      exec (.admqDrained f) s = .next s)
  ∧ (∀ (s : State) (f : Nat), 1 ≤ f → s.fnSessions f = [] → exec (.functionLevelReset f) s = .next s)
  ∧ (∀ (s : State) (f i : Nat), 1 ≤ f → f < 16 → s.fnSessions f = [i] →
      ∃ t, exec (.functionLevelReset f) s = .next t
        ∧ ((t.obj kSession i).live = false ∨ (t.obj kSession i).draining = true))

/-- An entry for a full device-produced ring is dropped (R97). When the device writes an entry into a full ring, the ring sets OVERFLOW, increments OCC
and DROPS (each up to its largest value), keeps its indexes, and nothing else of the state changes: no byte of HBM, no other ring, nothing sent. -/
def Obligations.FullRingDrops : Prop :=
  ∀ (s : State) (i : Nat) (r : RingCtx) (bytes : List Nat) (quiet : Bool), tfind s.rings i = some r → ringFull r = true →
    ∃ m, tfind (s.ringPush i bytes quiet).rings i = some m ∧ m.overflow = true ∧ m.occ = min (r.occ + 1) 0xFFFF
      ∧ m.drops = min (r.drops + 1) 0xFFFFFFFF ∧ m.pi = r.pi ∧ m.ci = r.ci
      ∧ (∀ j, j ≠ i → tfind (s.ringPush i bytes quiet).rings j = tfind s.rings j)
      ∧ s.ringPush i bytes quiet = { s with rings := (s.ringPush i bytes quiet).rings }

/-- Lanes: enable, disable, lock, loss, hunting (R119, R125, R126, R129, R130). LANE_ENABLE of a stopped SDI lane whose domain is ON, with a supported
mode and a rate that is not 0, completes: it sets ENABLE and the rate and makes the receiver hunt; LANE_DISABLE of an SDI lane whose RWS fields are
written back unchanged clears ENABLE and leaves the receiver DISABLED; an enable that changes an RWS field of a running lane is refused whole with
SC_UNIT_RUNNING. LANE_LOCK of a hunting receiver at a rate it may lock to enters LOCKED, shows the rate, the offset and SIG_DET, and raises LOCK (and
RATE after a lock at another rate). LANE_LOSS of a locked one returns to HUNT and raises LOSS. AUTO_HUNT_TIMEOUT moves an AUTO receiver to the next
family and changes no state of the lane. COMPLETION: under the conditions on the state and the operands that its clauses name and nothing else, exec
answers a next state for LANE_ENABLE, LANE_DISABLE, LANE_LOCK, LANE_LOSS, AUTO_HUNT_TIMEOUT. -/
def Obligations.LaneCommands : Prop :=
  (∀ (s : State) (p i data : Nat), i < 96 → s.reached p (laneAddr i 0) true → s.laneRuns i = false →
    bitsOf (setBit data 31) 18 2 = mdSDI → rateOk mdSDI (bitsOf (setBit data 31) 24 4) = true → bitsOf (setBit data 31) 24 4 ≠ 0 →
    (s.domain (0x80 + i)).st = 0 → (s.quadOn i = true → s.rd R.LNE_CTL_MODE i = mdSDI) →
      ∃ t, exec (.laneEnable p i data) s = .next t ∧ t.resp = ⟨0, 0⟩ ∧ t.on R.LNE_CTL_ENABLE i = true
        ∧ t.rd R.LNE_CTL_RX_RATE i = bitsOf (setBit data 31) 24 4 ∧ t.rd R.LNE_CTL_MODE i = mdSDI
        ∧ t.rd R.LNE_STATUS_RX_STATE i = rxHUNT ∧ t.hbm = s.hbm)
  ∧ (∀ (s : State) (p i data : Nat), i < 96 → s.reached p (laneAddr i 0) true → isPrincipal p = true → s.laneRuns i = true →
    s.ctlRws i (setBit data 31) = true → modeOk i (bitsOf (setBit data 31) 18 2) = true →
    rateOk (bitsOf (setBit data 31) 18 2) (bitsOf (setBit data 31) 24 4) = true →
    (s.quadOn i = true → bitsOf (setBit data 31) 18 2 = s.rd R.LNE_CTL_MODE i) →
      ∃ t, exec (.laneEnable p i data) s = .next t ∧ RefusedWith s t .unitRunning true)
  ∧ (∀ (s : State) (p i data : Nat), i < 96 → s.reached p (laneAddr i 0) true → s.on R.LNE_CTL_ENABLE i = true →
    s.ctlRws i (clearBits data 0x80000000) = false → s.rd R.LNE_CTL_MODE i = mdSDI → rateOk mdSDI (s.rd R.LNE_CTL_RX_RATE i) = true →
      ∃ t, exec (.laneDisable p i data) s = .next t ∧ t.on R.LNE_CTL_ENABLE i = false ∧ t.rd R.LNE_STATUS_RX_STATE i = rxDISABLED)
  ∧ (∀ (s : State) (i rate ofs : Nat), s.lanePresent i = true → s.rd R.LNE_STATUS_RX_STATE i = rxHUNT → s.mayLock i rate = true →
    (sext 8 ofs).natAbs ≤ 125 → rate < 16 →
      ∃ t, exec (.laneLock i rate ofs) s = .next t ∧ t.rd R.LNE_STATUS_RX_STATE i = rxLOCKED ∧ t.rd R.LNE_STATUS_RX_RATE_DET i = rate
        ∧ t.rd R.LNE_STATUS_FREQ_OFS i = ofs % 256 ∧ t.on R.LNE_STATUS_SIG_DET i = true ∧ bitAt (t.rd R.LNE_EVT_FLAGS i) 0 = true
        ∧ (s.rd R.LNE_STATUS_RX_RATE_DET i ≠ 0 → s.rd R.LNE_STATUS_RX_RATE_DET i ≠ rate → bitAt (t.rd R.LNE_EVT_FLAGS i) 2 = true)
        ∧ (s.rd R.LNE_STATUS_RX_RATE_DET i = 0 ∨ s.rd R.LNE_STATUS_RX_RATE_DET i = rate →
            bitAt (t.rd R.LNE_EVT_FLAGS i) 2 = bitAt (s.rd R.LNE_EVT_FLAGS i) 2))
  ∧ (∀ (s : State) (i : Nat) (amp : Bool), i < 96 → s.rd R.LNE_STATUS_RX_STATE i = rxLOCKED → s.rd R.LNE_CTL_MODE i = mdSDI →
      ∃ t, exec (.laneLoss i amp) s = .next t ∧ t.rd R.LNE_STATUS_RX_STATE i = rxHUNT ∧ t.on R.LNE_STATUS_SIG_DET i = amp
        ∧ bitAt (t.rd R.LNE_EVT_FLAGS i) 1 = true ∧ t.rd R.LNE_SDI_STAT_FR_STATE i = frOFF)
  ∧ (∀ (s : State) (i : Nat), s.rd R.LNE_STATUS_RX_STATE i = rxHUNT → s.rd R.LNE_CTL_RX_RATE i = 0xF →
      ∃ t, exec (.autoHuntTimeout i) s = .next t ∧ (t.lane i).tryRate = nextFamily (s.lane i).tryRate
        ∧ t.rd R.LNE_STATUS_RX_STATE i = rxHUNT ∧ t = { s with regs := t.regs, laneX := t.laneX })

/-- Eye scans: start, abort, end of dwell (R139, R141, R142). ESCAN_START that passes its checks, with ABORT 0, clears the error count and runs the point;
one that fails shows the status in LNE.ESCAN_STAT and changes no other field of any register (that it keeps none of the values written is log entry
17). ESCAN_ABORT of a running point ends it ABORTED with SC_OK, its count no more than the bits of the point, and raises ESCAN_DONE; with no point
running it changes no state of the scan. ESCAN_DWELL_DONE of a running point shows the errors, saturated, and DONE, and raises ESCAN_DONE. COMPLETION:
under the conditions on the state and the operands that its clauses name and nothing else, exec answers a next state for ESCAN_START, ESCAN_ABORT,
ESCAN_DWELL_DONE. -/
def Obligations.EyeScans : Prop :=
  (∀ (s : State) (p i data : Nat), s.reached p (laneAddr i 0x40) true → bitAt (setBit data 31) 30 = false →
    s.escanChecks i (setBit data 31) = .ok →
      ∃ t, exec (.escanStart p i data) s = .next t ∧ t.rd R.LNE_ESCAN_STAT_STATE i = 1 ∧ t.rd R.LNE_ESCAN_ERRS_ERRS i = 0
        ∧ t.rd R.LNE_ESCAN_STAT_STATUS i = Status.ok.code ∧ t.rd R.LNE_ESCAN_CTL_TIME i = bitsOf (setBit data 31) 16 6)
  ∧ (∀ (s : State) (p i data : Nat), s.reached p (laneAddr i 0x40) true → bitAt (setBit data 31) 30 = false →
    s.escanChecks i (setBit data 31) ≠ .ok →
      ∃ t, exec (.escanStart p i data) s = .next t
        ∧ (∀ (f : Fld) (u k : Nat), Fld.key f ≠ Fld.key R.LNE_ESCAN_STAT_STATUS ∨ u ≠ i ∨ k ≠ 0 → t.rdk f u k = s.rdk f u k)
        ∧ t.rd R.LNE_ESCAN_STAT_STATUS i = (s.escanChecks i (setBit data 31)).code)
  ∧ (∀ (s : State) (p i data : Nat), s.reached p (laneAddr i 0x40) true → s.rd R.LNE_ESCAN_STAT_STATE i = 1 →
      ∃ t, exec (.escanAbort p i data) s = .next t ∧ t.rd R.LNE_ESCAN_STAT_STATE i = 3 ∧ t.rd R.LNE_ESCAN_STAT_STATUS i = Status.ok.code
        ∧ t.rd R.LNE_ESCAN_ERRS_ERRS i ≤ 2 ^ s.rd R.LNE_ESCAN_CTL_DWELL i ∧ bitAt (t.rd R.LNE_EVT_FLAGS i) 3 = true)
  ∧ (∀ (s : State) (p i data : Nat), s.reached p (laneAddr i 0x40) true → s.rd R.LNE_ESCAN_STAT_STATE i ≠ 1 →
      ∃ t, exec (.escanAbort p i data) s = .next t ∧ t.rd R.LNE_ESCAN_STAT_STATE i = s.rd R.LNE_ESCAN_STAT_STATE i
        ∧ t.rd R.LNE_EVT_FLAGS i = s.rd R.LNE_EVT_FLAGS i)
  ∧ (∀ (s : State) (i errs : Nat), s.rd R.LNE_ESCAN_STAT_STATE i = 1 →
      ∃ t, exec (.escanDwellDone i errs) s = .next t ∧ t.rd R.LNE_ESCAN_STAT_STATE i = 2 ∧ t.rd R.LNE_ESCAN_ERRS_ERRS i = min errs 0xFFFFFFFF
        ∧ t.rd R.LNE_ESCAN_STAT_STATUS i = Status.ok.code ∧ bitAt (t.rd R.LNE_EVT_FLAGS i) 3 = true)

/-- The SDI framer, its payload ID and its counters (R145, R164, R166, R167, R168, R169, R170, R171, R201). SDI_TRS_ALIGN of a searching framer whose
signal can carry that raster enters ALIGNED with the raster, and the level found at 2.97 Gbit/s, raising ALIGN. SDI_LINE_RECEIVED of an aligned framer
outside a quad-link group, with words that arrive and an EAV in each data stream, passes the rows of the picture that its words carry to the port,
counts a line whose CRC words or line-number words are wrong at HD rates, raises CRC_ERR at the last line of a frame that had such lines, and at 270
Mbit/s takes the line into the CRCs of the field; one without EAV counts it; the fourth missing EAV in a row returns to SEARCH and raises MISALIGN; a
line of the other stream of a level B-DS signal is counted as dropped. EDH_PACKET_RECEIVED compares the CRCs that the packet carries with those of the
field at 270 Mbit/s, counts and raises each mismatch, and a field without a packet shows EDH_SEEN 0. VPID_PACKET_RECEIVED captures the payload ID that
a packet with right parity and checksum carries (under a near-end loopback, one that stands in the line looped), and another packet changes nothing;
VPID_TIMEOUT makes it invalid. CNT_CLR clears the SDI counters, the Gistra counters, or both, of its lane and of no other. COMPLETION: under the
conditions on the state and the operands that its clauses name and nothing else, exec answers a next state for SDI_TRS_ALIGN, SDI_LINE_RECEIVED,
EDH_PACKET_RECEIVED, VPID_PACKET_RECEIVED, VPID_TIMEOUT, CNT_CLR. -/
def Obligations.SdiFraming : Prop :=
  (∀ (s : State) (i lines words streams level : Nat) (fields : Bool), i < 96 → s.rd R.LNE_SDI_STAT_FR_STATE i = frSEARCH → s.quadOn i = false →
    s.trsFits i lines words streams = true →
      ∃ t, exec (.sdiTrsAlign i lines words streams level fields) s = .next t ∧ t.rd R.LNE_SDI_STAT_FR_STATE i = frALIGNED
        ∧ t.rd R.LNE_SDI_MEAS_LINES i = lines % 2 ^ R.LNE_SDI_MEAS_LINES.width ∧ t.rd R.LNE_SDI_MEAS_WORDS i = words % 2 ^ R.LNE_SDI_MEAS_WORDS.width
        ∧ t.rd R.LNE_SDI_STAT_LEVEL i = (if s.sdiRate i = 4 ∨ s.sdiRate i = 5 then level % 2 ^ R.LNE_SDI_STAT_LEVEL.width else 0)
        ∧ bitAt (t.rd R.LNE_FR_EVT_FLAGS i) 0 = true ∧ (s.rd R.INP_STAT_IN_STATE i = inNO_SIGNAL → t.rd R.INP_STAT_IN_STATE i = inACQUIRING))
  ∧ (∀ (s : State) (i line ds : Nat) (skew : Int) (words : List Nat), i < 96 →
    s.rd R.LNE_SDI_STAT_FR_STATE i = frALIGNED → (s.lineArrives i words).isSome = true →
    s.rd R.LNE_SDI_STAT_LEVEL i ≠ 3 → s.quadOn i = false → s.lineEavOk i words = true →
      ∃ t, exec (.sdiLineReceived i line ds skew words) s = .next t
        ∧ t.rd R.LNE_SDI_CRC_LINES_COUNT i = (if s.sdiRate i ≤ 1 ∨ s.lineCrcOk i words = true then s.rd R.LNE_SDI_CRC_LINES_COUNT i
            else satAdd R.LNE_SDI_CRC_LINES_COUNT.width (s.rd R.LNE_SDI_CRC_LINES_COUNT i) 1)
        ∧ t.rd R.LNE_SDI_LN_ERR_COUNT i = (if s.sdiRate i ≤ 1 ∨ s.lineLnOk i line words = true then s.rd R.LNE_SDI_LN_ERR_COUNT i
            else satAdd R.LNE_SDI_LN_ERR_COUNT.width (s.rd R.LNE_SDI_LN_ERR_COUNT i) 1)
        ∧ t.rd R.LNE_SDI_STAT_FR_STATE i = frALIGNED ∧ (t.lane i).misses = 0 ∧ (t.lane i).lastGood = line
        ∧ (t.port i).rows = ((s.portTake i line (s.rowsOf i words)).port i).rows ∧ (t.port i).fifo = ((s.portTake i line (s.rowsOf i words)).port i).fifo
        ∧ (1 < s.sdiRate i → s.lineCrcOk i words = false → line = s.rd R.LNE_SDI_MEAS_LINES i → bitAt (t.rd R.LNE_FR_EVT_FLAGS i) 2 = true)
        ∧ (s.sdiRate i ≤ 1 → (t.lane i).rxEdh = (s.lane i).rxEdh.map fun c =>
            (if edhApLine (sdFormat (s.rd R.LNE_SDI_MEAS_LINES i)) line then crc16 c.1 (afterSav words) else c.1,
             if edhFfLine (sdFormat (s.rd R.LNE_SDI_MEAS_LINES i)) line then crc16 c.2 words else c.2)))
  ∧ (∀ (s : State) (i line ds : Nat) (skew : Int) (words : List Nat), i < 96 →
    s.rd R.LNE_SDI_STAT_FR_STATE i = frALIGNED → (s.lineArrives i words).isSome = true → s.rd R.LNE_SDI_STAT_LEVEL i ≠ 3 → s.quadOn i = false →
    s.lineEavOk i words = false →
      ∃ t, exec (.sdiLineReceived i line ds skew words) s = .next t
        ∧ t.rd R.LNE_SDI_TRS_ERR_COUNT i = satAdd R.LNE_SDI_TRS_ERR_COUNT.width (s.rd R.LNE_SDI_TRS_ERR_COUNT i) 1
        ∧ ((s.lane i).misses < 3 → t.rd R.LNE_SDI_STAT_FR_STATE i = frALIGNED ∧ (t.lane i).misses = (s.lane i).misses + 1)
        ∧ (3 ≤ (s.lane i).misses → t.rd R.LNE_SDI_STAT_FR_STATE i = frSEARCH ∧ bitAt (t.rd R.LNE_FR_EVT_FLAGS i) 1 = true))
  ∧ (∀ (s : State) (i line ds : Nat) (skew : Int) (words : List Nat), i < 96 →
    s.rd R.LNE_SDI_STAT_FR_STATE i = frALIGNED → (s.lineArrives i words).isSome = true → s.rd R.LNE_SDI_STAT_LEVEL i = 3 →
    ds ≠ s.rd R.LNE_SDI_CFG_DS_LINK i →
      ∃ t, exec (.sdiLineReceived i line ds skew words) s = .next t
        ∧ t.rd R.LNE_SDI_DS_DROP_COUNT i = satAdd R.LNE_SDI_DS_DROP_COUNT.width (s.rd R.LNE_SDI_DS_DROP_COUNT i) 1 ∧ t.portX = s.portX)
  ∧ (∀ (s : State) (i line : Nat) (packet : Option (List Nat)), i < 96 → s.rd R.LNE_SDI_STAT_FR_STATE i = frALIGNED → s.sdiRate i = 1 →
    s.packetArrives i (packet.getD []) = true →
      ∃ t, exec (.edhPacketReceived i line packet) s = .next t ∧ t.on R.LNE_SDI_STAT_EDH_SEEN i = packet.any isEdh
        ∧ t.rd R.LNE_SDI_EDH_AP_COUNT i = (if (s.edhBad i packet).1 then satAdd R.LNE_SDI_EDH_AP_COUNT.width (s.rd R.LNE_SDI_EDH_AP_COUNT i) 1
            else s.rd R.LNE_SDI_EDH_AP_COUNT i)
        ∧ t.rd R.LNE_SDI_EDH_FF_COUNT i = (if (s.edhBad i packet).2 then satAdd R.LNE_SDI_EDH_FF_COUNT.width (s.rd R.LNE_SDI_EDH_FF_COUNT i) 1
            else s.rd R.LNE_SDI_EDH_FF_COUNT i)
        ∧ (((s.edhBad i packet).1 || (s.edhBad i packet).2) = true → bitAt (t.rd R.LNE_FR_EVT_FLAGS i) 3 = true))
  ∧ (∀ (s : State) (i line v : Nat) (words : List Nat), i < 96 → s.rd R.LNE_SDI_STAT_FR_STATE i = frALIGNED → s.quadOn i = false →
    vpidOfWords words = some v → s.packetArrives i words = true →
      ∃ t, exec (.vpidPacketReceived i line words) s = .next t ∧ t.on R.LNE_SDI_STAT_VPID_VALID i = true
        ∧ t.rd R.LNE_SDI_VPID_BYTE1 i = v % 256 ∧ t.rd R.LNE_SDI_VPID_BYTE2 i = v / 2 ^ 8 % 256
        ∧ t.rd R.LNE_SDI_VPID_BYTE3 i = v / 2 ^ 16 % 256 ∧ t.rd R.LNE_SDI_VPID_BYTE4 i = v / 2 ^ 24 % 256 ∧ (t.lane i).vpidPrev = some v)
  ∧ (∀ (s : State) (i line : Nat) (words : List Nat), vpidOfWords words = none → exec (.vpidPacketReceived i line words) s = .next s)
  ∧ (∀ (s : State) (i : Nat), i < 96 → s.on R.LNE_SDI_STAT_VPID_VALID i = true → s.quadOn i = false →
      ∃ t, exec (.vpidTimeout i) s = .next t ∧ t.on R.LNE_SDI_STAT_VPID_VALID i = false ∧ t = { s with regs := t.regs, laneX := t.laneX })
  ∧ (∀ (s : State) (p i data : Nat), i < 104 → s.reached p (laneAddr i 0x1FC) true →
      ∃ t, exec (.cntClr p i data) s = .next t
        ∧ (bitAt data 0 = true → i < 96 → t.rd R.LNE_SDI_CRC_LINES_COUNT i = 0 ∧ t.rd R.LNE_SDI_TRS_ERR_COUNT i = 0
            ∧ t.rd R.LNE_SDI_LN_ERR_COUNT i = 0 ∧ t.rd R.LNE_SDI_EDH_AP_COUNT i = 0 ∧ t.rd R.LNE_SDI_EDH_FF_COUNT i = 0)
        ∧ (bitAt data 1 = true → t.rd R.LNE_GL_CRC_ERR_COUNT i = 0 ∧ t.rd R.LNE_GL_CODE_ERR_COUNT i = 0 ∧ t.rd R.LNE_GL_SEQ_GAP_COUNT i = 0)
        ∧ (∀ (f : Fld) (u k : Nat), u ≠ i → t.rdk f u k = s.rdk f u k)
        ∧ (bitAt data 0 = false → t.rd R.LNE_SDI_CRC_LINES_COUNT i = s.rd R.LNE_SDI_CRC_LINES_COUNT i)
        ∧ (bitAt data 1 = false → t.rd R.LNE_GL_CRC_ERR_COUNT i = s.rd R.LNE_GL_CRC_ERR_COUNT i))

/-- Gistra training on a video lane (R194, R195, R196, R198, R199). On a video lane in TRAIN with its CDR locked and no near-end loopback, the eighth good
TS_RECEIVED in a row, with the far end's ACK and comma alignment held, enters UP and raises LINK_UP; one without comma alignment leaves the lane in
TRAIN, counts the good sequence, keeps the ACK and answers with a training sequence. TRAIN_RATE_TIMEOUT of a lane that is not ready steps the rate
down by one code, or at the lowest rate goes DOWN and waits to retry. TRAIN_RETRY_TIMEOUT of a waiting lane, and RETRAIN_CONDITION of an UP link with
a cause from 1 to 3 (which raises LINK_DOWN), enter TRAIN again at RX_RATE; a RETRAIN_CONDITION with another cause changes nothing. A lane that trains
is enabled, its domain ON, its RX_RATE not 0. COMPLETION: under the conditions on the state and the operands that its clauses name and nothing else,
exec answers a next state for TS_RECEIVED, TRAIN_RATE_TIMEOUT, TRAIN_RETRY_TIMEOUT, RETRAIN_CONDITION. -/
def Obligations.GistraTraining : Prop :=
  (∀ (s : State) (i offered width lid : Nat) (pos : Bool), i < 96 → s.rd R.LNE_GL_STAT_LINK_STATE i = glTRAIN →
    s.rd R.LNE_STATUS_RX_STATE i = rxLOCKED → s.looped i = false → s.on R.LNE_CTL_ENABLE i = true → 0xA ≤ offered → offered ≤ 0xC →
    width = 1 ∨ width = 2 ∨ width = 4 ∨ width = 8 → 7 ≤ (s.lane i).tsGood →
      ∃ t, exec (.tsReceived i offered width lid true pos true) s = .next t ∧ t.rd R.LNE_GL_STAT_LINK_STATE i = glUP
        ∧ t.rd R.LNE_GL_STAT_WIDTH i = 1 ∧ bitAt (t.rd R.LNE_FR_EVT_FLAGS i) 6 = true
        ∧ t.rd R.LNE_GL_STAT_TRAIN_COUNT i = satAdd R.LNE_GL_STAT_TRAIN_COUNT.width (s.rd R.LNE_GL_STAT_TRAIN_COUNT i) 1)
  ∧ (∀ (s : State) (i offered width lid : Nat) (ack pos : Bool), i < 96 → s.rd R.LNE_GL_STAT_LINK_STATE i = glTRAIN →
    s.rd R.LNE_STATUS_RX_STATE i = rxLOCKED → s.looped i = false → s.txState i = 1 → (∀ j, j < 105 → s.passSource j ≠ some i) → 0xA ≤ offered → offered ≤ 0xC → width = 1 ∨ width = 2 ∨ width = 4 ∨ width = 8 →
      ∃ t gs, exec (.tsReceived i offered width lid ack pos false) s = .next t ∧ t.rd R.LNE_GL_STAT_LINK_STATE i = glTRAIN
        ∧ (t.lane i).tsGood = (s.lane i).tsGood + 1 ∧ (t.lane i).tsAck = ((s.lane i).tsAck || ack) ∧ t.rd R.LNE_GL_STAT_FAR_LID i = lid % 256
        ∧ t.outs = .lane i 8 gs :: s.outs)
  ∧ (∀ (s : State) (i : Nat), i < 96 → s.rd R.LNE_GL_STAT_LINK_STATE i = glTRAIN → s.laneReady i = false → 0xA < s.rd R.LNE_GL_STAT_RATE i →
    s.rd R.LNE_GL_STAT_RATE i < 16 → s.mayTrain i = true →
      ∃ t, exec (.trainRateTimeout i) s = .next t ∧ t.rd R.LNE_GL_STAT_LINK_STATE i = glTRAIN
        ∧ t.rd R.LNE_GL_STAT_RATE i = s.rd R.LNE_GL_STAT_RATE i - 1)
  ∧ (∀ (s : State) (i : Nat), i < 96 → s.rd R.LNE_GL_STAT_LINK_STATE i = glTRAIN → s.laneReady i = false → s.rd R.LNE_GL_STAT_RATE i ≤ 0xA →
      ∃ t, exec (.trainRateTimeout i) s = .next t ∧ t.rd R.LNE_GL_STAT_LINK_STATE i = glDOWN ∧ (t.lane i).retry = true)
  ∧ (∀ (s : State) (i : Nat), i < 96 → s.rd R.LNE_GL_STAT_LINK_STATE i = glDOWN → (s.lane i).retry = true → s.rd R.LNE_CTL_RX_RATE i < 16 →
    s.mayTrain i = true →
      ∃ t, exec (.trainRetryTimeout i) s = .next t ∧ t.rd R.LNE_GL_STAT_LINK_STATE i = glTRAIN
        ∧ t.rd R.LNE_GL_STAT_RATE i = s.rd R.LNE_CTL_RX_RATE i ∧ (t.lane i).retry = false)
  ∧ (∀ (s : State) (i cause : Nat), i < 96 → s.rd R.LNE_GL_STAT_LINK_STATE i = glUP → s.rd R.LNE_CTL_RX_RATE i < 16 → s.mayTrain i = true →
    s.on R.LNE_GL_STAT_SPARE i = false → 1 ≤ cause → cause ≤ 3 →
      ∃ t, exec (.retrainCondition i cause) s = .next t ∧ t.rd R.LNE_GL_STAT_LINK_STATE i = glTRAIN
        ∧ t.rd R.LNE_GL_STAT_RATE i = s.rd R.LNE_CTL_RX_RATE i ∧ bitAt (t.rd R.LNE_FR_EVT_FLAGS i) 7 = true)
  ∧ (∀ (s : State) (i cause : Nat), cause = 0 ∨ 3 < cause → exec (.retrainCondition i cause) s = .next s)

/-- Gistra blocks and quality words on a video lane (R181, R182, R183, R184, R185, R186, R188, R189, R191, R192, R193, R198). GISTRA_BLOCK_RECEIVED of an
UP link without a near-end loopback reads the code groups: a good block of a stream that is not open is counted as dropped; one of stream 0 in
sequence is delivered, its bits to the framer; one with a bad CRC is counted and dropped; an ABORT in a block, a code error and a disparity error are
counted. GISTRA_BLOCK_SEND at a block boundary sends COMMA when nothing is ready, on a lane that sends its own symbols, after a skip set when one is
due, and sends 256 bytes of the transmit framer's bits as a block under stream 0's next SEQ with its CRC-32C. SEQ_GAP_TIMEOUT counts the missing
numbers and goes on with the block that waited. QW_SEND sends a quality word with its check and an LID, or only COMMA on a spare lane; QW_RECEIVED of
one with a good check loads it, and one with a bad check changes no register and no age; QW_LOSS raises QW_LOSS once. COMPLETION: under the conditions
on the state and the operands that its clauses name and nothing else, exec answers a next state for GISTRA_BLOCK_RECEIVED, GISTRA_BLOCK_SEND,
SEQ_GAP_TIMEOUT, QW_SEND, QW_RECEIVED, QW_LOSS. -/
def Obligations.GistraBlocks : Prop :=
  (∀ (s : State) (i header del ins : Nat) (pay : List Nat) (xf : Option (Nat × Nat × List (List Pixel))), i < 96 → s.looped i = false → s.rxIdle i (pay.length + 10) →
    header < 2 ^ 32 → bitsOf header 0 9 = pay.length → pay.length ≤ 256 → (∀ b ∈ pay, b < 256) →
      ∃ t, exec (.gistraBlockReceived i (wholeBlock (s.lane i).rxRd header pay (blockCrc header pay)) del ins xf) s = .next t
        ∧ t.rd R.LNE_GL_SKIP_DEL_COUNT i = satAdd R.LNE_GL_SKIP_DEL_COUNT.width (s.rd R.LNE_GL_SKIP_DEL_COUNT i) del
        ∧ t.rd R.LNE_GL_SKIP_INS_COUNT i = satAdd R.LNE_GL_SKIP_INS_COUNT.width (s.rd R.LNE_GL_SKIP_INS_COUNT i) ins
        ∧ t.rd R.LNE_GL_CRC_ERR_COUNT i = s.rd R.LNE_GL_CRC_ERR_COUNT i
        ∧ (bitsOf header 25 7 ≠ 0 → t.rd R.LNE_GL_STREAM_DROP_COUNT i
            = satAdd R.LNE_GL_STREAM_DROP_COUNT.width (s.rd R.LNE_GL_STREAM_DROP_COUNT i) 1)
        ∧ (bitsOf header 25 7 = 0 → tget (bitsOf header 13 8) (s.lane i).rxSeq 0 = bitsOf header 13 8 → pay ≠ [] →
            (t.lane i).rxStream = bitsOf header 21 4 ∧ (t.lane i).rxBits = (s.lane i).rxBits ++ byteBits pay
            ∧ tfind (t.lane i).rxSeq 0 = some ((bitsOf header 13 8 + 1) % 256)))
  ∧ (∀ (s : State) (i header : Nat) (pay crc : List Nat) (xf : Option (Nat × Nat × List (List Pixel))), i < 96 → s.looped i = false → s.rxIdle i (pay.length + 10) →
    header < 2 ^ 32 → bitsOf header 0 9 = pay.length → pay.length ≤ 256 → (∀ b ∈ pay ++ crc, b < 256) → crc.length = 4 → crc ≠ blockCrc header pay →
      ∃ t, exec (.gistraBlockReceived i (wholeBlock (s.lane i).rxRd header pay crc) 0 0 xf) s = .next t
        ∧ t.rd R.LNE_GL_CRC_ERR_COUNT i = satAdd R.LNE_GL_CRC_ERR_COUNT.width (s.rd R.LNE_GL_CRC_ERR_COUNT i) 1
        ∧ (t.lane i).rxSeq = (s.lane i).rxSeq ∧ (t.lane i).rxBits = (s.lane i).rxBits)
  ∧ (∀ (s : State) (i : Nat) (body : List Nat) (xf : Option (Nat × Nat × List (List Pixel))), i < 96 → s.looped i = false → s.rd R.LNE_GL_STAT_LINK_STATE i = glUP →
    (s.lane i).rxBlk = some body → (s.lane i).noComma + 1 < 8192 →
      ∃ t, exec (.gistraBlockReceived i [codeGroup (s.lane i).rxRd kABORT] 0 0 xf) s = .next t
        ∧ t.rd R.LNE_GL_ABORT_COUNT i = satAdd R.LNE_GL_ABORT_COUNT.width (s.rd R.LNE_GL_ABORT_COUNT i) 1 ∧ (t.lane i).rxBlk = none)
  ∧ (∀ (s : State) (i c : Nat) (xf : Option (Nat × Nat × List (List Pixel))), i < 96 → s.looped i = false → s.rd R.LNE_GL_STAT_LINK_STATE i = glUP →
    (s.lane i).errs.length < 15 → (s.lane i).noComma + 1 < 8192 →
      (readGroup (s.lane i).rxRd c = .code →
        ∃ t, exec (.gistraBlockReceived i [c] 0 0 xf) s = .next t ∧ t.rd R.LNE_GL_STAT_LINK_STATE i = glUP ∧ (t.lane i).rxBad = true
          ∧ t.rd R.LNE_GL_CODE_ERR_COUNT i = satAdd R.LNE_GL_CODE_ERR_COUNT.width (s.rd R.LNE_GL_CODE_ERR_COUNT i) 1)
      ∧ (∀ v, readGroup (s.lane i).rxRd c = .disp v →
        ∃ t, exec (.gistraBlockReceived i [c] 0 0 xf) s = .next t
          ∧ t.rd R.LNE_GL_DISP_ERR_COUNT i = satAdd R.LNE_GL_DISP_ERR_COUNT.width (s.rd R.LNE_GL_DISP_ERR_COUNT i) 1))
  ∧ (∀ (s : State) (i : Nat) (complete : Bool), i < 104 → s.rd R.LNE_GL_STAT_LINK_STATE i = glUP → s.on R.LNE_GL_STAT_SPARE i = false →
    s.txState i = 1 → (s.lane i).midBlock = false → (i < 96 → s.videoReady i = []) →
      ∃ t g h, exec (.gistraBlockSend i [] [] complete) s = .next t
        ∧ t.outs = .lane i 9 g :: (if 3821 < (s.lane i).sinceSkip then .lane i 3 h :: s.outs else s.outs))
  ∧ (∀ (s : State) (i : Nat) (ready : List (Nat × List Nat)) (xfeed : List (Nat × Nat × Nat)), i < 96 → s.rd R.LNE_GL_STAT_LINK_STATE i = glUP →
    s.on R.LNE_GL_STAT_SPARE i = false → s.txState i = 1 → (s.lane i).midBlock = false → (s.lane i).sinceSkip ≤ 3821 → (s.lane i).txHeld = false →
    2048 ≤ (s.lane i).txBits.length →
      ∃ t, exec (.gistraBlockSend i ready xfeed true) s = .next t
        ∧ (let pay := bitsBytes 256 (s.lane i).txBits
           let hd := leBytes 4 (blockHeader 0 (s.lane i).txStream (tget 0 (s.lane i).txSeq 0) pay.length)
           t.outs = .lane i 1 (codeGroups (kSOB :: hd ++ pay ++ leBytes 4 (crc32c (hd ++ pay))) (s.lane i).rd).1 :: s.outs)
        ∧ tfind (t.lane i).txSeq 0 = some ((tget 0 (s.lane i).txSeq 0 + 1) % 256) ∧ (t.lane i).txBits = (s.lane i).txBits.drop 2048)
  ∧ (∀ (s : State) (i : Nat) (e : Early), i < 96 → (s.lane i).early = [e] →
      ∃ t, exec (.seqGapTimeout i) s = .next t
        ∧ t.rd R.LNE_GL_SEQ_GAP_COUNT i = satAdd R.LNE_GL_SEQ_GAP_COUNT.width (s.rd R.LNE_GL_SEQ_GAP_COUNT i)
            ((e.seq + 256 - tget e.seq (s.lane i).rxSeq e.st) % 256)
        ∧ tfind (t.lane i).rxSeq e.st = some ((e.seq + 1) % 256) ∧ (t.lane i).early = [])
  ∧ (∀ (s : State) (i : Nat), i < 96 → s.rd R.LNE_GL_STAT_LINK_STATE i = glUP → s.txState i = 1 →
      (s.on R.LNE_GL_STAT_SPARE i = true → ∃ t g, exec (.qwSend i) s = .next t ∧ t.outs = .lane i 9 g :: s.outs)
      ∧ (s.on R.LNE_GL_STAT_SPARE i = false → (s.lane i).midBlock = false → (s.lane i).vidSeen = true →
          ∃ t, exec (.qwSend i) s = .next t ∧ (t.lane i).qwSeq = ((s.lane i).qwSeq + 1) % 256
            ∧ (let q := codeGroups (kQW :: leBytes 4 (qwCheck (s.qwBody i) * 2 ^ 24 + s.qwBody i)) (s.lane i).rd
               t.outs = .lane i 5 (codeGroups [kLID, i] q.2).1 :: .lane i 4 q.1 :: s.outs)))
  ∧ (∀ (s : State) (i word : Nat), i < 96 → s.rd R.LNE_GL_STAT_LINK_STATE i = glUP → s.looped i = false →
      (bitsOf (word % 2 ^ 32) 24 8 = qwCheck (word % 2 ^ 32) →
        ∃ t, exec (.qwReceived i word) s = .next t ∧ t.rd R.LNE_GL_QW_QW i = word % 2 ^ 32 ∧ t.qwAge i = 0
          ∧ (t.lane i).qwLost = false)
      ∧ (bitsOf (word % 2 ^ 32) 24 8 ≠ qwCheck (word % 2 ^ 32) → ∃ t, exec (.qwReceived i word) s = .next t
          ∧ t = { s with laneX := t.laneX, outs := t.outs } ∧ t.qwAge i = s.qwAge i))
  ∧ (∀ (s : State) (i : Nat), i < 96 → s.rd R.LNE_GL_STAT_LINK_STATE i = glUP →
      ((s.lane i).qwLost = false → ∃ t, exec (.qwLoss i) s = .next t ∧ (t.lane i).qwLost = true ∧ bitAt (t.rd R.LNE_FR_EVT_FLAGS i) 9 = true)
      ∧ ((s.lane i).qwLost = true → exec (.qwLoss i) s = .next s))

/-- Input ports: start, stop, a frame from line 1 to publication (R203, R207, R208, R210, R211, R219, R221). INP_START that passes its checks, with a
store and a history to be had and the charge admitted, arms the port with its charge held; one that fails a check is refused with that status.
INP_STOP stops an armed port, or a running one that writes no frame, at once and releases its charge, lets a running one finish its frame in STOPPING,
and leaves a stopped one. INPUT_FRAME_START of a running port takes a free slot, or discards the frame and counts it. INPUT_FRAME_COMPLETE of an
acquiring port, its domain ON, whose determination has held LOCK_FRAMES frames makes it VALID; of a valid running one that writes the frame it
publishes the rows that came as its picture under the next number. FREEZE_MS_EXPIRY in a frozen loss falls back, once. COMPLETION: under the
conditions on the state and the operands that its clauses name and nothing else, exec answers a next state for INP_START, INP_STOP, INPUT_FRAME_START,
INPUT_FRAME_COMPLETE, FREEZE_MS_EXPIRY. -/
def Obligations.InputPorts : Prop :=
  (∀ (s : State) (p n : Nat) (u : State), s.reached p (inpAddr n 0) true → check (s.inpStartChecks p n) = .ok →
    ((s.accessed (inpAddr n 0)).storeFor n).bind (fun x => x.histAlloc n) = some u → u.admits [(cInput n, s.portCharge n)] = true →
      ∃ t, exec (.inpStart p n) s = .next t ∧ t.rd R.INP_STAT_LC_STATE n = lcARMED ∧ t.chargeOf (cInput n) = s.portCharge n ∧ t.resp = ⟨0, 0⟩
        ∧ t.hbm = u.hbm ∧ t.objs = s.objs)
  ∧ (∀ (s : State) (p n : Nat), s.reached p (inpAddr n 0) true → isPrincipal p = true → check (s.inpStartChecks p n) ≠ .ok →
      ∃ t, exec (.inpStart p n) s = .next t ∧ RefusedWith s t (check (s.inpStartChecks p n)) true)
  ∧ (∀ (s : State) (p n : Nat), s.reached p (inpAddr n 0) true → s.holds p kInput n = true ∨ p = pTwin →
      ∃ t, exec (.inpStop p n) s = .next t
        ∧ (s.rd R.INP_STAT_LC_STATE n = lcARMED ∨ (s.rd R.INP_STAT_LC_STATE n = lcRUNNING ∧ (s.port n).writing = none) →
            t.rd R.INP_STAT_LC_STATE n = lcSTOPPED ∧ t.chargeOf (cInput n) = 0)
        ∧ (s.rd R.INP_STAT_LC_STATE n = lcRUNNING → (s.port n).writing ≠ none → t.rd R.INP_STAT_LC_STATE n = lcSTOPPING)
        ∧ (s.rd R.INP_STAT_LC_STATE n = lcSTOPPED → t.rd R.INP_STAT_LC_STATE n = lcSTOPPED ∧ t.portX = s.portX))
  ∧ (∀ (s : State) (n : Nat), n < s.lanes → s.rd R.INP_STAT_IN_STATE n ≠ inNO_SIGNAL → s.portOn n = true → s.rd R.INP_STAT_LC_STATE n = lcRUNNING →
      ∃ t, exec (.inputFrameStart n) s = .next t ∧ (t.port n).seen = true ∧ (t.port n).line1 = s.epoch
        ∧ (∀ k, s.freeSlot n = some k → (t.port n).writing = some k ∧ (t.port n).skipping = false
            ∧ (t.port n).frames = (s.port n).frames.filter (fun f => f.slot != k))
        ∧ (s.freeSlot n = none → (t.port n).writing = none ∧ (t.port n).skipping = true
            ∧ t.rd R.INP_CNT_WR_SKIP_COUNT n = satAdd R.INP_CNT_WR_SKIP_COUNT.width (s.rd R.INP_CNT_WR_SKIP_COUNT n) 1
            ∧ bitAt (t.rd R.INP_EVT_FLAGS n) 10 = true))
  ∧ (∀ (s : State) (n : Nat), n < s.lanes → s.portOn n = true → s.rd R.INP_STAT_IN_STATE n = inACQUIRING →
    (s.port n).seen = true → (s.port n).cand.any (Det.same (s.detOf n)) = true → s.rd R.INP_CFG_LOCK_FRAMES n ≤ (s.port n).run + 1 →
    (s.detOf n).fmt ≠ 0 → s.detFits n (s.detOf n) = true →
    s.rd R.INP_CFG_EXP_FMT n = 0 ∨ (s.detOf n).fmt = s.rd R.INP_CFG_EXP_FMT n →
      ∃ t, exec (.inputFrameComplete n) s = .next t ∧ t.rd R.INP_STAT_IN_STATE n = inVALID ∧ bitAt (t.rd R.INP_EVT_FLAGS n) 0 = true
        ∧ t.rd R.INP_FMT_DET_FMT n = (s.detOf n).fmt % 2 ^ R.INP_FMT_DET_FMT.width)
  ∧ (∀ (s : State) (n k : Nat), n < s.lanes → s.portOn n = true → s.rd R.INP_STAT_IN_STATE n = inVALID →
    s.rd R.INP_STAT_LC_STATE n = lcRUNNING → (s.port n).seen = true → (s.port n).writing = some k → (s.port n).skipping = false →
    (s.port n).cand.any (Det.same (s.detOf n)) = true →
      ∃ t, exec (.inputFrameComplete n) s = .next t ∧ (t.port n).ifcN = (s.port n).ifcN + 1
        ∧ t.rd R.INP_IFC_COUNT n = ((s.port n).ifcN + 1) % 2 ^ 32 ∧ t.rd R.INP_STAT_LOSS_PHASE n = 0 ∧ (t.port n).writing = none
        ∧ (∃ f, f.ifc = (s.port n).ifcN + 1 ∧ f.done = s.epoch ∧ f.slot = k ∧ f.pic = framePic (s.port n).rows ∧ (t.port n).frames = (s.port n).frames ++ [f]))
  ∧ (∀ (s : State) (n : Nat), (s.port n).lossAt.isSome = true → s.rd R.INP_LOSS_POLICY n = 0 → s.on R.INP_LOSS_FREEZE_HOLD n = false →
      ((s.port n).fellBack = false → ∃ t, exec (.freezeMsExpiry n) s = .next t ∧ (t.port n).fellBack = true
        ∧ t.rd R.INP_STAT_LOSS_PHASE n = 2 ∧ bitAt (t.rd R.INP_EVT_FLAGS n) 5 = true)
      ∧ ((s.port n).fellBack = true → exec (.freezeMsExpiry n) s = .next s))

/-- Ancillary packets, the rings of their filters, the FIFO fault of a port (R225, R226, R227, R228, R229, R230, R231). At a running port
ANC_PACKET_RECEIVED of a packet with a bad header parity counts it and captures nothing; one that no latched filter matches is not captured; an
ancillary timecode of the kind TC_SRC names is kept for the frame; one with a good checksum that a filter with a live ring with room matches is
counted as captured and its record's entries advance the ring that the filter named at the start of the frame. At a port that is not running it
changes nothing. ANCF_RING_WRITE by the port's holder with a ring of its session (device produces, 128-byte entries) binds it, and is refused with
SC_PROTECTED for another's port. INPUT_FIFO_ECC_FAULT stops the port, empties its line FIFO and writes a fault record; at a stopped port it changes
nothing. COMPLETION: under the conditions on the state and the operands that its clauses name and nothing else, exec answers a next state for
INPUT_FIFO_ECC_FAULT, ANC_PACKET_RECEIVED, ANCF_RING_WRITE. -/
def Obligations.InputPackets : Prop :=
  (∀ (s : State) (n : Nat) (k : AncPkt), n < s.lanes → s.rd R.INP_STAT_LC_STATE n = lcRUNNING → s.packetArrives n k.words = true → k.parityOk = false →
      ∃ t, exec (.ancPacketReceived n k) s = .next t ∧ t = { s with regs := t.regs }
        ∧ t.rd R.INP_CNT_ANC_HDR_COUNT n = satAdd R.INP_CNT_ANC_HDR_COUNT.width (s.rd R.INP_CNT_ANC_HDR_COUNT n) 1)
  ∧ (∀ (s : State) (n : Nat) (k : AncPkt), n < s.lanes → s.rd R.INP_STAT_LC_STATE n = lcRUNNING → s.packetArrives n k.words = true →
    k.parityOk = true → k.csumOk = false →
      ∃ t, exec (.ancPacketReceived n k) s = .next t
        ∧ t.rd R.INP_CNT_ANC_CSUM_COUNT n = satAdd R.INP_CNT_ANC_CSUM_COUNT.width (s.rd R.INP_CNT_ANC_CSUM_COUNT n) 1)
  ∧ (∀ (s : State) (n : Nat) (k : AncPkt), n < s.lanes → s.rd R.INP_STAT_LC_STATE n = lcRUNNING → plainAnc k →
    ancFilter (s.port n).filters k = none → exec (.ancPacketReceived n k) s = .next s)
  ∧ (∀ (s : State) (n : Nat) (k : AncPkt), s.rd R.INP_STAT_LC_STATE n ≠ lcRUNNING → exec (.ancPacketReceived n k) s = .next s)
  ∧ (∀ (s : State) (n kind w ub : Nat) (k : AncPkt), n < s.lanes → s.rd R.INP_STAT_LC_STATE n = lcRUNNING → s.packetArrives n k.words = true →
    k.parityOk = true → k.csumOk = true → atcOf (tcFive (s.rd R.INP_FMT_DET_FMT n)) k = some (kind, w, ub) → kind = s.rd R.INP_TCCFG_TC_SRC n → ancFilter (s.port n).filters k = none →
      ∃ t, exec (.ancPacketReceived n k) s = .next t ∧ (t.port n).tcNow = some (w, ub) ∧ t = { s with portX := t.portX })
  ∧ (∀ (s : State) (n f : Nat) (k : AncPkt) (r : RingCtx), n < s.lanes → s.rd R.INP_STAT_LC_STATE n = lcRUNNING → s.packetArrives n k.words = true → plainAnc k →
    ancFilter (s.port n).filters k = some f → tfind s.rings (hIdx (s.filterRing n f)) = some r → s.badHandle (s.filterRing n f) = false →
    ringUsed r + ancEntries k.udw.length ≤ 2 ^ r.size → r.pi < 2 ^ 32 → r.ci < 2 ^ 32 → r.size ≤ 16 →
      ∃ t q, exec (.ancPacketReceived n k) s = .next t
        ∧ t.rd R.INP_CNT_ANC_CAPT_COUNT n = satAdd R.INP_CNT_ANC_CAPT_COUNT.width (s.rd R.INP_CNT_ANC_CAPT_COUNT n) 1
        ∧ tfind t.rings (hIdx (s.filterRing n f)) = some q ∧ q.pi = (r.pi + ancEntries k.udw.length) % 2 ^ 32
        ∧ q.drops = r.drops ∧ q.ci = r.ci)
  ∧ (∀ (s : State) (p n filter ring : Nat), s.reached p (inpAddr n (0x208 + 0x10 * (filter % 16))) true → s.holds p kInput n = true →
    check (s.ringChecks (ring % 2 ^ 32) (s.obj kInput n).owner false 3) = .ok →
      ∃ t, exec (.ancfRingWrite p n filter ring) s = .next t ∧ t.rdk R.INP_ANCF_RING_RING n (filter % 16) = ring % 2 ^ 32 ∧ t.resp = ⟨0, 0⟩
        ∧ (∀ (g : Fld) (i j : Nat), Fld.key g ≠ Fld.key R.INP_ANCF_RING_RING ∨ i ≠ n ∨ j ≠ filter % 16 → t.rdk g i j = s.rdk g i j))
  ∧ (∀ (s : State) (p n filter ring : Nat), s.reached p (inpAddr n (0x208 + 0x10 * (filter % 16))) true → isPrincipal p = true →
    s.holds p kInput n = false → s.absentHandle (ring % 2 ^ 32) = false →
      ∃ t, exec (.ancfRingWrite p n filter ring) s = .next t ∧ RefusedWith s t .protected' true)
  ∧ (∀ (s : State) (n addr : Nat), n < s.lanes → s.rd R.INP_STAT_LC_STATE n ≠ lcSTOPPED →
      ∃ t, exec (.inputFifoEccFault n addr) s = .next t ∧ t.rd R.INP_STAT_LC_STATE n = lcSTOPPED ∧ bitAt (t.rd R.INP_EVT_FLAGS n) 11 = true
        ∧ (t.port n).writing = none ∧ (t.port n).fifo = [] ∧ FaultLogged s t (0x100 + n) 0x10 .eccUncorr false (sramArg 1 n addr))
  ∧ (∀ (s : State) (n addr : Nat), s.rd R.INP_STAT_LC_STATE n = lcSTOPPED → exec (.inputFifoEccFault n addr) s = .next s)

/-- Street lines, clone groups, gangs, staged values (R49, R51, R492, R504, R253, R258, R259, R260, R262). STREET_LINE_MISS at a pipeline on its street
path records the line and cause, shows the cause and raises PATH; in a frame whose path is not STREET, or whose street has ended already, it changes
nothing. CLONE_CREATE that passes its checks makes the group live for the session and its members those named; of a pipeline that heads one already it
completes with SC_NOCONTEXT. GANG_CFG_WRITE whose changed groups are stopped quad-link groups shows the bits of present groups; a changed group with a
pipeline that is not STOPPED refuses it. STAGED_VALUE_DELIVERY of a waiting value, of whatever unit whose domain is not OFF, writes the staging
registers of its word, wakes a sleeping domain and marks the value delivered; of one whose domain is OFF it drops the value and logs SC_DOMAIN_OFF
under the principal of the thread's session and the staging port of its engine; a select leaves the live one as it was; one that missed its switch
line is logged as well; one delivered before changes nothing. COMPLETION: under the conditions on the state and the operands that its clauses name and
nothing else, exec answers a next state for STAGED_VALUE_DELIVERY, STREET_LINE_MISS, GANG_CFG_WRITE, CLONE_CREATE. -/
def Obligations.PlazaCommands : Prop :=
  (∀ (s : State) (d line cause : Nat), d < 96 → s.rd R.PLZ_DST_STAT_PATH d = pathSTREET → s.selKind d = selSTREET →
    cause = 3 ∨ cause = 4 →
      (tfind s.lineTr d = none → ∃ t, exec (.streetLineMiss d line cause) s = .next t ∧ tfind t.lineTr d = some (line * 16 + cause)
        ∧ t.rd R.PLZ_DST_STAT_CAUSE d = cause ∧ bitAt (t.rd R.PLZ_DST_EVT_FLAGS d) 0 = true ∧ t.rd R.PLZ_DST_STAT_PATH d = pathSTREET)
      ∧ ((tfind s.lineTr d).isSome = true → exec (.streetLineMiss d line cause) s = .next s))
  ∧ (∀ (s : State) (d line cause : Nat), s.rd R.PLZ_DST_STAT_PATH d ≠ pathSTREET → exec (.streetLineMiss d line cause) s = .next s)
  ∧ (∀ (s : State) (f : Nat) (c : Taken) (pay : List Nat), s.taking f 0x60 c → c.plain → s.modeOk → s.sessOk f c → s.ownsObj c kPipe →
    allZero (c.inl.drop 7) = true → check (s.cloneChecks (hIdx c.object) (c.inl.take 7)) = .ok →
      ((s.obj kClone (hIdx c.object)).live = false → ∃ t, exec (.cloneCreate f pay) s = .next t
        ∧ Completed t f c .ok (mkHandle kClone (nextGen (s.obj kClone (hIdx c.object)).gen) (hIdx c.object)) (t.cloneMembers (hIdx c.object)).length
        ∧ (t.obj kClone (hIdx c.object)).live = true ∧ (t.obj kClone (hIdx c.object)).owner = c.ss
        ∧ t.rd R.PLZ_CLONE_A_MEMBERS (hIdx c.object) = leVal (c.inl.take 4) % 2 ^ R.PLZ_CLONE_A_MEMBERS.width)
      ∧ ((s.obj kClone (hIdx c.object)).live = true → ∃ t, exec (.cloneCreate f pay) s = .next t ∧ Completed t f c .noContext 0 0))
  ∧ (∀ (s : State) (p data : Nat), s.reached p 0x300010 true →
    (∀ k, k < 24 → bitAt data k ≠ bitAt (s.rd R.PLZ_GANG_CFG_GANG 0) k → 4 * k < s.lanes → s.on R.LNE_SDI_CFG_QUAD (4 * k) = true
      ∧ ∀ n, 4 * k ≤ n → n < 4 * k + 4 → s.rd R.OUT_STAT_LC_STATE n = lcSTOPPED) →
      ∃ t, exec (.gangCfgWrite p data) s = .next t ∧ t.rd R.PLZ_GANG_CFG_GANG 0 = data % 2 ^ (s.lanes / 4) ∧ t.resp = ⟨0, 0⟩)
  ∧ (∀ (s : State) (p data k n : Nat), s.reached p 0x300010 true → isPrincipal p = true →
    (∀ k, k < 24 → s.on R.LNE_SDI_CFG_QUAD (4 * k) = true) → k < 24 → bitAt data k ≠ bitAt (s.rd R.PLZ_GANG_CFG_GANG 0) k →
    4 * k < s.lanes → 4 * k ≤ n → n < 4 * k + 4 → s.rd R.OUT_STAT_LC_STATE n ≠ lcSTOPPED →
      ∃ t, exec (.gangCfgWrite p data) s = .next t ∧ RefusedWith s t .unitRunning true)
  ∧ (∀ (s : State) (item d v : Nat) (x : Staged), s.staged.find? (fun y => y.id == item) = some x → x.ent = ⟨.sel d, [(1, v)]⟩ → x.delivered = false →
    (s.domain 8).st ≠ 2 →
      ∃ t, exec (.stagedValueDelivery item) s = .next t ∧ t.rd R.PLZ_SEL_STG_H_HANDLE d = v % 2 ^ 32
        ∧ t.rd R.PLZ_SEL_LIVE_H_HANDLE d = s.rd R.PLZ_SEL_LIVE_H_HANDLE d
        ∧ (∀ y ∈ t.staged, y.id = item → y.delivered = true)
        ∧ t.rd R.FAB_ERR_WR_INDEX 0 = (if x.missed then (s.rd R.FAB_ERR_WR_INDEX 0 + 1) % 2 ^ 32 else s.rd R.FAB_ERR_WR_INDEX 0))
  ∧ (∀ (s : State) (item w v : Nat) (x : Staged), s.staged.find? (fun y => y.id == item) = some x → x.ent.vals = [(w, v)] → x.delivered = false →
    (s.domain (s.keyDomain x.ent.key)).st ≠ 2 →
      ∃ t, exec (.stagedValueDelivery item) s = .next t ∧ (∀ y ∈ t.staged, y.id = item → y.delivered = true)
        ∧ (∀ pl ∈ s.places false x.ent.key w, t.rdk pl.1 pl.2.1 pl.2.2.1 = bitsOf v pl.2.2.2 pl.1.width)
        ∧ (t.domain (s.keyDomain x.ent.key)).st ≠ 1)
  ∧ (∀ (s : State) (item : Nat) (x : Staged), s.staged.find? (fun y => y.id == item) = some x → x.delivered = false →
    (s.domain (s.keyDomain x.ent.key)).st = 2 → s.prinOf (s.cueSess x.thread) < 256 → x.thread < 160 →
      ∃ t, exec (.stagedValueDelivery item) s = .next t ∧ (∀ y ∈ t.staged, y.id ≠ item) ∧ t = { s with regs := t.regs, staged := t.staged }
        ∧ (∀ (f : Fld) (u k : Nat), outsideFabric f → t.rdk f u k = s.rdk f u k)
        ∧ t.rd R.FAB_ERR_WR_INDEX 0 = (s.rd R.FAB_ERR_WR_INDEX 0 + 1) % 2 ^ 32
        ∧ t.rd R.FAB_ERR_INFO_INFO (s.rd R.FAB_ERR_WR_INDEX 0 % 64)
            = Status.domainOff.code * 2 ^ 16 + s.prinOf (s.cueSess x.thread) * 2 ^ 8 + (0x30 + x.thread / 16) * 4 + 2)
  ∧ (∀ (s : State) (item : Nat), (∀ y ∈ s.staged, y.id = item → y.delivered = true) → exec (.stagedValueDelivery item) s = .next s)

/-- Arcade jobs: creation, start, stop, a failing engine (R271, R272, R275, R276, R281, R282, R284, R286, R287). JOB_CREATE of a declaration that passes
its checks, with an index, engines, memory and charge to be had, completes OK: the job is live for the session, STOPPED, on the engines placed, with
the credits of its declaration and its charge held. With no engine to place it on it completes with SC_NOCONTEXT. JOB_START that passes its checks
arms the job with an empty reader; one that fails is refused. JOB_STOP stops an armed job at once and lets a running one end its frame.
ENGINE_LOCAL_STORE_FAULT marks the engine failed, writes a fault record, and a running job on it goes to STOPPING and raises JOB_FAULT. COMPLETION:
under the conditions on the state and the operands that its clauses name and nothing else, exec answers a next state for JOB_CREATE, JOB_START,
JOB_STOP, ENGINE_LOCAL_STORE_FAULT. -/
def Obligations.JobCommands : Prop :=
  (∀ (s u : State) (f i k ob q : Nat) (engs : List Nat) (c : Taken) (pay : List Nat) (image : List (Nat × Nat)),
    s.taking f 0x40 c → c.reserved = false → c.payLen = 64 → pay.length = 64 → s.modeOk → s.sessOk f c → s.engines ≠ 0 →
    check (jobArgChecks pay image) = .ok → check (s.jobDevChecks pay) = .ok → s.freeIndex kJob 0 = some i → s.freeIndex kSurface 0 = some k →
    s.placeJob (max 1 (ceilDiv (jobCredits (jobOfArgs pay) (bankWord (createBank (jobOfArgs pay) image) 0x30 4 != 0)) 1600))
      (jobCredits (jobOfArgs pay) (bankWord (createBank (jobOfArgs pay) image) 0x30 4 != 0))
      (jobLocal (jobOfArgs pay) (bankWord (createBank (jobOfArgs pay) image) 0x30 4 != 0)) = some engs →
    s.jobAlloc i (jobOfArgs pay) = some (ob, q, u) → u.admits [(cJob i, jobCharge (jobOfArgs pay))] = true →
      ∃ t j result, exec (.jobCreate f pay image) s = .next t
        ∧ Completed t f c .ok (mkHandle kJob (nextGen (s.obj kJob i).gen) i) result
        ∧ tfind t.jobs i = some j ∧ j.engs = engs ∧ j.tln = leField pay 0 1 % 16 ∧ j.outBase = ob ∧ j.params = q ∧ j.surf = k
        ∧ j.credits = jobCredits (jobOfArgs pay) (bankWord (createBank (jobOfArgs pay) image) 0x30 4 != 0)
        ∧ (t.obj kJob i).live = true ∧ (t.obj kJob i).owner = c.ss ∧ t.jobLc j = lcSTOPPED
        ∧ t.chargeOf (cJob i) = jobCharge (jobOfArgs pay) ∧ (∀ x, x ≠ i → tfind t.jobs x = tfind s.jobs x))
  ∧ (∀ (s : State) (f i : Nat) (c : Taken) (pay : List Nat) (image : List (Nat × Nat)),
    s.taking f 0x40 c → c.reserved = false → c.payLen = 64 → pay.length = 64 → s.modeOk → s.sessOk f c → s.engines ≠ 0 →
    check (jobArgChecks pay image) = .ok → check (s.jobDevChecks pay) = .ok → s.freeIndex kJob 0 = some i →
    s.placeJob (max 1 (ceilDiv (jobCredits (jobOfArgs pay) (bankWord (createBank (jobOfArgs pay) image) 0x30 4 != 0)) 1600))
      (jobCredits (jobOfArgs pay) (bankWord (createBank (jobOfArgs pay) image) 0x30 4 != 0))
      (jobLocal (jobOfArgs pay) (bankWord (createBank (jobOfArgs pay) image) 0x30 4 != 0)) = none →
      ∃ t, exec (.jobCreate f pay image) s = .next t ∧ Completed t f c .noContext 0 0 ∧ t.jobs = s.jobs)
  ∧ (∀ (s : State) (p e sl i : Nat) (j : Job), s.jobInSlot e sl = some i → tfind s.jobs i = some j → s.reached p (jobLcAddr e sl) true →
      (check (s.jobStartChecks p i j) = .ok → ∃ t m, exec (.jobStart p e sl) s = .next t ∧ t.jobLc j = lcARMED ∧ tfind t.jobs i = some m
        ∧ m.samples = [] ∧ m.making = none ∧ m.engs = j.engs ∧ t.jrd j R.CVA_JOB_STAT_CADENCE = 0 ∧ t.resp = ⟨0, 0⟩)
      ∧ (isPrincipal p = true → check (s.jobStartChecks p i j) ≠ .ok →
          ∃ t, exec (.jobStart p e sl) s = .next t ∧ RefusedWith s t (check (s.jobStartChecks p i j)) true))
  ∧ (∀ (s : State) (p e sl i : Nat) (j : Job), s.jobInSlot e sl = some i → tfind s.jobs i = some j → s.reached p (jobLcAddr e sl) true →
    s.ownsJob p i = true ∨ p = pTwin ∨ isCore p = true →
      ∃ t, exec (.jobStop p e sl) s = .next t ∧ (s.jobLc j = lcARMED → t.jobLc j = lcSTOPPED) ∧ (s.jobLc j = lcRUNNING → t.jobLc j = lcSTOPPING)
        ∧ (s.jobLc j = lcSTOPPED → t.jobLc j = lcSTOPPED) ∧ t.resp = ⟨0, 0⟩)
  ∧ (∀ (s : State) (e addr : Nat), e < s.engines →
      ∃ t, exec (.engineLocalStoreFault e addr) s = .next t ∧ t.on R.CVA_ENG_STAT_FAILED e = true ∧ bitAt (t.rd R.CVA_ENG_EVT_FLAGS e) 0 = true
        ∧ FaultLogged s t (0x40 + e) 0x10 .eccUncorr false (sramArg 3 e addr)
        ∧ (∀ i j, s.jobs = [(i, j)] → j.engs.contains e = true → s.jobLc j = lcRUNNING →
            t.jobLc j = lcSTOPPING ∧ bitAt (t.jrd j R.CVA_JOB_EVT_FLAGS) 7 = true))

/-- SURFACE_CREATE completes (R322, R323, R324, R326). SURFACE_CREATE whose arguments pass, with an index and memory to be had, completes OK with the
handle of the next generation of the lowest free index and the BAR2 offset of its bytes; the surface is live for the session with the format and size
asked, and nothing is stored in its bytes. Arguments that fail a check complete with that status and create nothing. COMPLETION: under the conditions
on the state and the operands that its clauses name and nothing else, exec answers a next state for SURFACE_CREATE. -/
def Obligations.SurfaceCreate : Prop :=
  (∀ (s u : State) (f i b : Nat) (c : Taken) (pay : List Nat), s.taking f 0x20 c → c.plain → s.modeOk → s.sessOk f c →
    check (surfChecks (surfArgs c.inl)) = .ok → s.freeIndex kSurface 0 = some i →
    s.allocate (roundUp (surfFrameBytes (surfArgs c.inl).fmt (surfArgs c.inl).w (surfArgs c.inl).h (surfArgs c.inl).maxBytes
      * (if bitAt (surfArgs c.inl).flags 0 then 2 else 1)) 65536) 65536 (objKey kSurface i) false (bitAt (surfArgs c.inl).flags 0) = some (b, u) →
      ∃ t, exec (.surfaceCreate f pay) s = .next t ∧ Completed t f c .ok (mkHandle kSurface (nextGen (s.obj kSurface i).gen) i) b
        ∧ (t.obj kSurface i).live = true ∧ (t.obj kSurface i).owner = c.ss ∧ (t.surf i).fmt = (surfArgs c.inl).fmt ∧ (t.surf i).w = (surfArgs c.inl).w
        ∧ (t.surf i).h = (surfArgs c.inl).h ∧ (t.surf i).base = b ∧ (t.surf i).writeback = bitAt (surfArgs c.inl).flags 0
        ∧ (∀ x, x ≠ i → t.surf x = s.surf x))
  ∧ (∀ (s : State) (f : Nat) (c : Taken) (pay : List Nat), s.taking f 0x20 c → c.plain → s.modeOk → s.sessOk f c →
    check (surfChecks (surfArgs c.inl)) ≠ .ok →
      ∃ t, exec (.surfaceCreate f pay) s = .next t ∧ Completed t f c (check (surfChecks (surfArgs c.inl))) 0 0 ∧ t.surfs = s.surfs ∧ t.objs = s.objs
        ∧ t.allocs = s.allocs)

/-- Output pipelines: start, stop, the insert ring, Skim sets (R253, R263, R362, R363, R364, R368, R375). OUT_START that passes its checks with its
charges admitted arms the pipeline with the charge of its select held; one that is not admitted answers SC_BANDWIDTH, counts the refusal and starts
nothing; one that fails a check is refused with that status. OUT_STOP stops an armed pipeline at once and lets a running one end its frame; of a gang
member it is refused. ANC_RING_WRITE by the holder with a ring that fits binds it. SKIM_CREATE completes OK with the set of the pipeline, shown in
OUT.SKIM_SET; where the pipeline has one it completes with SC_NO_CONTEXT. COMPLETION: under the conditions on the state and the operands that its
clauses name and nothing else, exec answers a next state for OUT_START, OUT_STOP, ANC_RING_WRITE, SKIM_CREATE. -/
def Obligations.PipelineLifecycle : Prop :=
  (∀ (s : State) (p n : Nat), n < 96 → s.reached p (outAddr n 0) true → check (s.outStartChecks p n) = .ok →
      (s.admits (s.liveCharges n) = true → ∃ t, exec (.outStart p n) s = .next t ∧ t.rd R.OUT_STAT_LC_STATE n = lcARMED ∧ t.resp = ⟨0, 0⟩
        ∧ t.chargeOf (cSelect n) = s.selectCharge n (s.selKind n) (s.selNum n) (s.selH n) (s.rdk R.OUT_LYR_SRC_XY_LIVE_XY n 0)
            (s.rdk R.OUT_LYR_SRC_WH_LIVE_WH n 0))
      ∧ (s.admits (s.liveCharges n) = false → ∃ t, exec (.outStart p n) s = .next t ∧ t.resp = ⟨Status.bandwidth.code, 0⟩
        ∧ t.rd R.PLZ_ISO_REFUSED_COUNT 0 = satAdd R.PLZ_ISO_REFUSED_COUNT.width (s.rd R.PLZ_ISO_REFUSED_COUNT 0) 1
        ∧ t.rd R.OUT_STAT_LC_STATE n = s.rd R.OUT_STAT_LC_STATE n ∧ t.charges = s.charges))
  ∧ (∀ (s : State) (p n : Nat), s.reached p (outAddr n 0) true → isPrincipal p = true → check (s.outStartChecks p n) ≠ .ok →
      ∃ t, exec (.outStart p n) s = .next t ∧ RefusedWith s t (check (s.outStartChecks p n)) true)
  ∧ (∀ (s : State) (p n : Nat), s.reached p (outAddr n 0) true → s.gangMember n = false →
    s.holds p kPipe n = true ∨ p = pTwin ∨ isCore p = true →
      ∃ t, exec (.outStop p n) s = .next t ∧ t.resp = ⟨0, 0⟩
        ∧ (s.rd R.OUT_STAT_LC_STATE n = lcARMED → t.rd R.OUT_STAT_LC_STATE n = lcSTOPPED ∧ t.chargeOf (cSelect n) = 0)
        ∧ (s.rd R.OUT_STAT_LC_STATE n = lcRUNNING → t.rd R.OUT_STAT_LC_STATE n = lcSTOPPING ∧ t.charges = s.charges)
        ∧ (s.rd R.OUT_STAT_LC_STATE n = lcSTOPPED → t.rd R.OUT_STAT_LC_STATE n = lcSTOPPED ∧ t.pipeX = s.pipeX))
  ∧ (∀ (s : State) (p n : Nat), s.reached p (outAddr n 0) true → isPrincipal p = true → s.gangMember n = true →
      ∃ t, exec (.outStop p n) s = .next t ∧ RefusedWith s t .protected' true)
  ∧ (∀ (s : State) (p n ring : Nat), s.reached p (outAddr n 0x24) true → s.holds p kPipe n = true →
    check (s.ringChecks (ring % 2 ^ 32) (s.obj kPipe n).owner true 3) = .ok →
      ∃ t, exec (.ancRingWrite p n ring) s = .next t ∧ t.rd R.OUT_ANC_RING_RING n = ring % 2 ^ 32 ∧ t.resp = ⟨0, 0⟩
        ∧ (∀ (g : Fld) (i j : Nat), Fld.key g ≠ Fld.key R.OUT_ANC_RING_RING ∨ i ≠ n ∨ j ≠ 0 → t.rdk g i j = s.rdk g i j))
  ∧ (∀ (s : State) (f : Nat) (c : Taken) (pay : List Nat), s.taking f 0x61 c → c.plain → s.modeOk → s.sessOk f c → s.ownsObj c kPipe →
    s.stencil = true → hIdx c.object < s.lanes → s.gangMember (hIdx c.object) = false →
      ((s.obj kSkim (hIdx c.object)).live = false → ∃ t, exec (.skimCreate f pay) s = .next t
        ∧ Completed t f c .ok (mkHandle kSkim (nextGen (s.obj kSkim (hIdx c.object)).gen) (hIdx c.object)) 0
        ∧ (t.obj kSkim (hIdx c.object)).live = true ∧ (t.obj kSkim (hIdx c.object)).owner = c.ss
        ∧ t.rd R.OUT_SKIM_SET_HANDLE (hIdx c.object) = mkHandle kSkim (nextGen (s.obj kSkim (hIdx c.object)).gen) (hIdx c.object) % 2 ^ 32)
      ∧ ((s.obj kSkim (hIdx c.object)).live = true → ∃ t, exec (.skimCreate f pay) s = .next t ∧ Completed t f c .noContext 0 0))

/-- Raster lines, underrun, a line-store fault (R359, R362, R363, R373, R374, R381, R640). PIPELINE_LINE_START of a raster line that happens (the pipeline
present and no other's gang member, its domain ON or in reset, its timeline running, not in LIMP) completes: it shows the line and the FSN; at its
switch line an armed pipeline becomes RUNNING with a frame; at line 1 a stopping one that has sent a frame becomes STOPPED; on the line after the last
active line VBLANK is raised, and FRAME_DONE where a frame is in progress. A line past the end of the raster, in a frame that a cut lengthens, shows
line 0. Without a running timeline or in a domain that is off the line shown is 0. With no event waiting for the end of the line before, a line of a
gang member or of no raster changes nothing; in LIMP it changes no register, and nothing at all on a lane that sends no black. LINE_UNDERRUN in a
frame aborts it, counts it and shows the line and the layers; a frame that is aborted already is not aborted again. LINE_STORE_ECC_FAULT of a running
pipeline writes a fault record, raises PIPE_FAULT and goes to STOPPING; of one that does not run it changes nothing. COMPLETION: under the conditions
on the state and the operands that its clauses name and nothing else, exec answers a next state for PIPELINE_LINE_START, LINE_UNDERRUN,
LINE_STORE_ECC_FAULT. -/
def Obligations.PipelineLines : Prop :=
  (∀ (s : State) (n fsn line : Nat) (host : List (List Nat)), s.lineRuns n line = true →
      ∃ t, exec (.pipelineLineStart n fsn line host) s = .next t ∧ t.rd R.OUT_STAT_LINE n = line % 2 ^ 13 ∧ t.rd R.OUT_FSN_FSN n = fsn % 2 ^ 32
        ∧ (line = (s.pipeFmt n).sw → s.rd R.OUT_STAT_LC_STATE n = lcARMED → t.rd R.OUT_STAT_LC_STATE n = lcRUNNING
            ∧ t.on R.OUT_TMG_CTL_RUN n = true ∧ (t.pipe n).cfg.isSome = true)
        ∧ (line = 1 → s.rd R.OUT_STAT_LC_STATE n = lcSTOPPING → (s.pipe n).cfg.isSome = true → t.rd R.OUT_STAT_LC_STATE n = lcSTOPPED)
        ∧ (line = lastActive (s.pipeFmt n) + 1 → bitAt (t.rd R.OUT_EVT_FLAGS n) 0 = true
            ∧ ((s.pipe n).cfg.isSome = true → bitAt (t.rd R.OUT_EVT_FLAGS n) 2 = true)))
  ∧ (∀ (s : State) (n fsn line : Nat) (host : List (List Nat)), n < s.lanes → line ≠ 0 → s.modeCode ≠ mLIMP → s.gangMember n = false →
    line ≤ (s.pipeFmt n).lines → s.lineRuns n line = false →
      ∃ t, exec (.pipelineLineStart n fsn line host) s = .next t ∧ t.rd R.OUT_STAT_LINE n = 0
        ∧ t.rd R.OUT_STAT_LC_STATE n = s.rd R.OUT_STAT_LC_STATE n)
  ∧ (∀ (s : State) (n fsn line : Nat) (host : List (List Nat)), s.pastEnd n fsn line = true →
      ∃ t, exec (.pipelineLineStart n fsn line host) s = .next t ∧ t.rd R.OUT_STAT_LINE n = 0
        ∧ t.rd R.OUT_STAT_LC_STATE n = s.rd R.OUT_STAT_LC_STATE n)
  ∧ (∀ (s : State) (n fsn line : Nat) (host : List (List Nat)), (s.pipe n).held = [] →
    s.lanes ≤ n ∨ line = 0 ∨ s.modeCode ≠ mLIMP ∧ (s.gangMember n = true ∨ (s.pipeFmt n).lines < line ∧ s.pastEnd n fsn line = false) →
      exec (.pipelineLineStart n fsn line host) s = .next s)
  ∧ (∀ (s : State) (n fsn line : Nat) (host : List (List Nat)), s.modeCode = mLIMP → (s.pipe n).held = [] →
      ∃ t, exec (.pipelineLineStart n fsn line host) s = .next t ∧ t.regs = s.regs ∧ t.objs = s.objs ∧ t.hbm = s.hbm
        ∧ (s.txState n ≠ 3 → t = s))
  ∧ (∀ (s : State) (n mask : Nat) (slate : Bool), n < s.lanes → (activeRow (s.pipeFmt n) (s.rd R.OUT_STAT_LINE n)).isSome = true →
    (s.pipe n).cfg.isSome = true →
      (s.on R.OUT_STAT_ABORTED n = false → ∃ t, exec (.lineUnderrun n mask slate) s = .next t ∧ t.on R.OUT_STAT_ABORTED n = true
        ∧ t.rd R.OUT_CNT_UNDERRUN_COUNT n = satAdd R.OUT_CNT_UNDERRUN_COUNT.width (s.rd R.OUT_CNT_UNDERRUN_COUNT n) 1
        ∧ t.rd R.OUT_UR_LAST_LINE n = s.rd R.OUT_STAT_LINE n % 2 ^ 13 ∧ t.rd R.OUT_UR_LAST_MASK n = mask % 256
        ∧ t.on R.OUT_UR_LAST_SLATE n = slate ∧ bitAt (t.rd R.OUT_EVT_FLAGS n) 3 = true)
      ∧ (s.on R.OUT_STAT_ABORTED n = true → exec (.lineUnderrun n mask slate) s = .next s))
  ∧ (∀ (s : State) (n addr : Nat), n < s.lanes → s.rd R.OUT_STAT_LC_STATE n = lcRUNNING →
      ∃ t, exec (.lineStoreEccFault n addr) s = .next t ∧ t.rd R.OUT_STAT_LC_STATE n = lcSTOPPING ∧ bitAt (t.rd R.OUT_EVT_FLAGS n) 7 = true
        ∧ FaultLogged s t (0x180 + n) 0x10 .eccUncorr false (sramArg 2 n addr))
  ∧ (∀ (s : State) (n addr : Nat), s.rd R.OUT_STAT_LC_STATE n ≠ lcRUNNING → exec (.lineStoreEccFault n addr) s = .next s)

/-- Audio groups: packets, rate, loss, lip-sync, the grid, non-PCM pairs (R382, R387, R389, R390, R392, R404). AUDIO_PACKET_RECEIVED of a live group adds
its samples and takes a group that is OFF to ACQUIRE; of a group that is not live it changes nothing. GROUP_RATE_WINDOW within 1,000 ppm takes ACQUIRE
to LOCKED and FAULT to ACQUIRE; outside it takes LOCKED to FAULT; each shows the rate. GROUP_PACKET_TIMEOUT takes LOCKED to OFF and raises GRP_LOSS,
and leaves another state. ASRC_BLOCK, at a grid index that is a multiple of 48, moves the delay of a port whose target has not jumped towards it by at
most the slew. AUDIO_GRID_SAMPLE advances the grid by one where the grid runs (the epoch runs, the mode is neither BOOT nor LIMP, the unit is powered:
log entry 126), and elsewhere does nothing. The unit works only in RUN and MIRROR with its domain ON. NPCM_CHANGE, where the preambles of the pair ask
for it (two frames of LS_TLN in a row with one; 100 ms without one), decides the change, which takes effect at the next audio frame of LS_TLN: it then
sets or clears the bit of the pair and raises NPCM. In MIRROR these follow the primary instead (R411). COMPLETION: under the conditions on the state
and the operands that its clauses name and nothing else, exec answers a next state for AUDIO_PACKET_RECEIVED, GROUP_RATE_WINDOW, GROUP_PACKET_TIMEOUT,
ASRC_BLOCK, AUDIO_GRID_SAMPLE, NPCM_CHANGE. -/
def Obligations.AudioGroups : Prop :=
  (∀ (s : State) (n g time : Nat) (smp : List Int) (wide : Bool) (other : Bool), s.modeCode ≠ mMIRROR →
      (s.groupLive n g = true → ∃ t x, exec (.audioPacketReceived n g time smp wide other) s = .next t
        ∧ (t.grp n g).srcN = (s.grp n g).srcN + 1 ∧ (t.grp n g).src.head? = some x ∧ x.time = time ∧ x.smp.length = 4
        ∧ (s.grpState n g = gOFF → t.grpState n g = gACQUIRE)
        ∧ (other = true → s.grpState n g = gACQUIRE ∨ s.grpState n g = gLOCKED → t.grpState n g = gFAULT ∧ bitAt (t.rd R.AUD_IN_EVT_FLAGS n) 2 = true)
        ∧ (other = false → s.grpState n g = gLOCKED → t.grpState n g = gLOCKED))
      ∧ (s.groupLive n g = false → exec (.audioPacketReceived n g time smp wide other) s = .next s))
  ∧ (∀ (s : State) (n g : Nat) (ofs : Int), s.groupLive n g = true → s.modeCode ≠ mMIRROR → s.grpState n g ≠ gOFF →
      ∃ t, exec (.groupRateWindow n g ofs) s = .next t ∧ t.rdk R.AUD_GRP_STAT_RATE_OFS n g = twos 16 (clampInt (-32768) 32767 ofs) % 65536
        ∧ (ofs.natAbs ≤ 10000 → s.grpState n g = gACQUIRE → t.grpState n g = gLOCKED ∧ bitAt (t.rd R.AUD_IN_EVT_FLAGS n) 0 = true)
        ∧ (ofs.natAbs ≤ 10000 → s.grpState n g = gFAULT → t.grpState n g = gACQUIRE)
        ∧ (10000 < ofs.natAbs → s.grpState n g = gLOCKED → t.grpState n g = gFAULT ∧ bitAt (t.rd R.AUD_IN_EVT_FLAGS n) 2 = true))
  ∧ (∀ (s : State) (n g : Nat), s.modeCode ≠ mMIRROR →
      (s.grpState n g = gLOCKED → ∃ t, exec (.groupPacketTimeout n g) s = .next t ∧ t.grpState n g = gOFF ∧ (t.grp n g).decay = some 0
        ∧ bitAt (t.rd R.AUD_IN_EVT_FLAGS n) 1 = true)
      ∧ (s.grpState n g ≠ gLOCKED → exec (.groupPacketTimeout n g) s = .next s))
  ∧ (∀ (s : State) (n : Nat), n < s.lanes → s.audioRuns = true → s.grid % 48 = 0 → s.modeCode ≠ mMIRROR → (s.lip n).mode = s.rd R.AUD_IN_CFG_LS_MODE n →
    (s.lip n).fixed = s.rd R.AUD_IN_FIXED_LS_FIXED_US n → (s.lip n).target = clampDa (s.lipRaw n) → s.rd R.AUD_IN_DA_NS n < 2 ^ 32 →
      ∃ t, exec (.asrcBlock n) s = .next t
        ∧ t.rd R.AUD_IN_DA_NS n = (if s.rd R.AUD_IN_DA_NS n ≤ clampDa (s.lipRaw n)
            then min (clampDa (s.lipRaw n)) (s.rd R.AUD_IN_DA_NS n + s.rd R.AUD_IN_CFG_LS_SLEW_PPM n)
            else max (clampDa (s.lipRaw n)) (s.rd R.AUD_IN_DA_NS n - s.rd R.AUD_IN_CFG_LS_SLEW_PPM n)))
  ∧ (∀ (s : State) (n : Nat), s.lanes ≤ n ∨ s.audioRuns = false ∨ s.grid % 48 ≠ 0 → exec (.asrcBlock n) s = .next s)
  ∧ (∀ (s : State) (host : List (Nat × List Nat)),
      (s.gridRuns = true → ∃ t, exec (.audioGridSample host) s = .next t ∧ t.grid = s.grid + 1
        ∧ t.rd R.AUD_GRID_LO_G 0 = (s.grid + 1) % 2 ^ 32 ∧ t.rd R.AUD_GRID_HI_G 0 = (s.grid + 1) / 2 ^ 32 % 2 ^ 32)
      ∧ (s.gridRuns = false → exec (.audioGridSample host) s = .next s))
  ∧ (∀ (s : State) (n g pair : Nat) (on' : Bool), s.groupLive n g = true → pair < 2 → s.modeCode ≠ mMIRROR →
      (s.npcmDue n g pair on' = true → ∃ t, exec (.npcmChange n g pair on') s = .next t ∧ ((t.grp n g).pairDet pair).next = some on'
        ∧ (∀ j, j ≠ pair → (t.grp n g).pairDet j = (s.grp n g).pairDet j) ∧ t.regs = s.regs)
      ∧ (s.npcmDue n g pair on' = false → exec (.npcmChange n g pair on') s = .next s))
  ∧ (∀ (s : State) (n g v : Nat), v < 4 → v ≠ s.rdk R.AUD_GRP_STAT_NPCM n g →
      (s.setNpcm n g v).rdk R.AUD_GRP_STAT_NPCM n g = v
        ∧ ((∃ j, j < 2 ∧ bitAt v j ≠ bitAt (s.rdk R.AUD_GRP_STAT_NPCM n g) j) → bitAt ((s.setNpcm n g v).rd R.AUD_IN_EVT_FLAGS n) 4 = true))

/-- Routes, insert and tap rings, the shuffle buffer (R394, R407, R408, R409, R410). ROUTE_CREATE completes OK with the handle of the next generation of
the lowest free index; the route is live for the session, with no destination, and its FADE is the one asked. INS_RING_WRITE and TAP_RING_WRITE of a
ring that fits bind it; a tap remembers the grid index. A ring of another principal refuses the write. SHUFFLE_BUFFER_ECC raises the unit's event,
writes a fault record and forgets the samples of the word, and no other sample. COMPLETION: under the conditions on the state and the operands that
its clauses name and nothing else, exec answers a next state for ROUTE_CREATE, INS_RING_WRITE, TAP_RING_WRITE, SHUFFLE_BUFFER_ECC. -/
def Obligations.AudioObjects : Prop :=
  (∀ (s : State) (f r : Nat) (c : Taken) (pay : List Nat), s.taking f 0x50 c → c.plain → s.modeOk → s.sessOk f c → check (s.routeChecks c.inl) = .ok →
    s.freeIndex kRoute 0 = some r →
      ∃ t x, exec (.routeCreate f pay) s = .next t ∧ Completed t f c .ok (mkHandle kRoute (nextGen (s.obj kRoute r).gen) r) 0
        ∧ (t.obj kRoute r).live = true ∧ (t.obj kRoute r).owner = c.ss ∧ tfind t.routeX r = some x ∧ x.dst = 0xFFF
        ∧ t.rd R.AUD_RT_STAT_FADE r = c.inl.headD 0 ∧ (∀ j, j ≠ r → tfind t.routeX j = tfind s.routeX j))
  ∧ (∀ (s : State) (p slot ring : Nat), slot < 64 → s.reached p (0x706000 + 0x20 * slot) true →
    check (s.slotChecks p (s.rd R.AUD_INS_RING_RING slot) (ring % 2 ^ 32) true) = .ok →
      ∃ t, exec (.insRingWrite p slot ring) s = .next t ∧ t.rd R.AUD_INS_RING_RING slot = ring % 2 ^ 32 ∧ t.rd R.AUD_INS_STAT_STATE slot = 1
        ∧ t.resp = ⟨0, 0⟩ ∧ (∀ j, j ≠ slot → t.rd R.AUD_INS_RING_RING j = s.rd R.AUD_INS_RING_RING j))
  ∧ (∀ (s : State) (p slot ring : Nat), slot < 64 → s.reached p (0x706800 + 0x20 * slot) true →
    check (s.slotChecks p (s.rd R.AUD_TAP_RING_RING slot) (ring % 2 ^ 32) false) = .ok →
      ∃ t, exec (.tapRingWrite p slot ring) s = .next t ∧ t.rd R.AUD_TAP_RING_RING slot = ring % 2 ^ 32 ∧ t.resp = ⟨0, 0⟩
        ∧ t.rd R.AUD_TAP_G0_LO_G slot = s.grid % 2 ^ 32 ∧ t.rd R.AUD_TAP_G0_HI_G slot = s.grid / 2 ^ 32 % 2 ^ 32)
  ∧ (∀ (s : State) (p slot ring : Nat), slot < 64 → isPrincipal p = true → s.badHandle (ring % 2 ^ 32) = false → s.absentHandle (ring % 2 ^ 32) = false →
    s.prinOf (s.hobj (ring % 2 ^ 32)).owner ≠ p →
      (s.reached p (0x706000 + 0x20 * slot) true → ∃ t, exec (.insRingWrite p slot ring) s = .next t ∧ RefusedWith s t .protected' true)
      ∧ (s.reached p (0x706800 + 0x20 * slot) true → ∃ t, exec (.tapRingWrite p slot ring) s = .next t ∧ RefusedWith s t .protected' true))
  ∧ (∀ (s : State) (addr : Nat) (held : List (Nat × Nat)), s.audio = true →
      ∃ t, exec (.shuffleBufferEcc addr held) s = .next t ∧ bitAt (t.rd R.AUD_UNIT_EVT_FLAGS 0) 0 = true
        ∧ FaultLogged s t 7 0x10 .eccUncorr false (sramArg 4 0 addr)
        ∧ (∀ ch g, (ch, g) ∈ held → ∀ e ∈ t.aHist, e.1 = ch → ∀ x ∈ e.2, x.1 ≠ g)
        ∧ (held = [] → t.aHist = s.aHist))

/-- Cue threads: loading, binding, starting, stopping, parameters (R415, R416, R417, R418, R419, R420, R423). PROGRAM_LOAD of a program whose instructions
all pass, with an index and slots free, completes OK with its handle and its number of instructions, and the program is stored; one with a failing
instruction completes with SC_DECODE and the index of the first. THREAD_BIND that passes its checks completes OK with the thread, STOPPED, bound to
the program, timeline and session, its parameters 0. THREAD_START makes it RUNNING at its entry with its general registers 0; THREAD_STOP stops a
RUNNING or WAITING one with its stage buffer discarded. PARAM_WRITE by the binding session's principal sets the word and no other register; by another
it is refused. COMPLETION: under the conditions on the state and the operands that its clauses name and nothing else, exec answers a next state for
PROGRAM_LOAD, THREAD_BIND, THREAD_START, THREAD_STOP, PARAM_WRITE. -/
def Obligations.CueThreads : Prop :=
  (∀ (s : State) (f i : Nat) (c : Taken) (pay : List Nat), s.taking f 0x30 c → c.reserved = false → s.modeOk → s.sessOk f c → c.payLen % 8 = 0 →
    8 ≤ c.payLen → c.payLen ≤ 524288 → c.payLen ≤ pay.length →
      (firstBad (c.payLen / 8) 0 (words64 (c.payLen / 8) pay) = none → s.freeIndex kProgram 0 = some i →
        s.slotsUsed + (words64 (c.payLen / 8) pay).length ≤ 2097152 →
          ∃ t, exec (.programLoad f pay) s = .next t ∧ Completed t f c .ok (mkHandle kProgram (nextGen (s.obj kProgram i).gen) i) (c.payLen / 8)
            ∧ (t.obj kProgram i).live = true ∧ (t.obj kProgram i).owner = c.ss ∧ tfind t.progs i = some (words64 (c.payLen / 8) pay)
            ∧ (∀ j, j ≠ i → tfind t.progs j = tfind s.progs j))
      ∧ (∀ k, firstBad (c.payLen / 8) 0 (words64 (c.payLen / 8) pay) = some k →
          ∃ t, exec (.programLoad f pay) s = .next t ∧ Completed t f c .decode 0 k ∧ t.progs = s.progs ∧ t.objs = s.objs))
  ∧ (∀ (s : State) (f th : Nat) (c : Taken) (pay : List Nat), s.taking f 0x31 c → c.plain → s.modeOk → s.sessOk f c →
    check (s.bindChecks c.ss c.inl) = .ok → s.bindThread c.inl = some th →
      ∃ t, exec (.threadBind f pay) s = .next t ∧ Completed t f c .ok 0 th ∧ t.cueState th = cSTOPPED
        ∧ t.rd R.CUE_PROG_HANDLE th = leField c.inl 4 4 % 2 ^ 32 ∧ t.rd R.CUE_SESS_HANDLE th = c.session % 2 ^ 32
        ∧ t.cueTln th = leField c.inl 2 1 % 16 ∧ (∀ k, k < 32 → t.cueP th k = 0) ∧ (t.cue th).entry = leField c.inl 12 4
        ∧ (t.cue th).stage = [] ∧ (t.cue th).stack = [] ∧ t.rd R.CUE_CNT_COMMIT_COUNT th = 0)
  ∧ (∀ (s : State) (f : Nat) (c : Taken) (pay : List Nat), s.taking f 0x32 c → c.plain → s.sessOk f c →
    s.modePending = false → s.modeCode = mRUN → check (s.threadChecks c.ss c.inl) = .ok → (s.domain (0x20 + leField c.inl 0 2 / 16)).st ≠ 2 →
    s.cueState (leField c.inl 0 2) = cSTOPPED ∨ s.cueState (leField c.inl 0 2) = cFAULTED →
      ∃ t, exec (.threadStart f pay) s = .next t ∧ Completed t f c .ok 0 0 ∧ t.cueState (leField c.inl 0 2) = cRUNNING
        ∧ t.cuePc (leField c.inl 0 2) = (s.cue (leField c.inl 0 2)).entry % 2 ^ 16 ∧ (∀ k, k < 16 → t.cueG (leField c.inl 0 2) k = 0)
        ∧ t.rd R.CUE_S_S (leField c.inl 0 2) = 0)
  ∧ (∀ (s : State) (f : Nat) (c : Taken) (pay : List Nat), s.taking f 0x33 c → c.plain → s.modeOk → s.sessOk f c →
    check (s.threadChecks c.ss c.inl) = .ok →
      ∃ t, exec (.threadStop f pay) s = .next t ∧ Completed t f c .ok 0 0
        ∧ (s.cueState (leField c.inl 0 2) = cRUNNING ∨ s.cueState (leField c.inl 0 2) = cWAITING →
            t.cueState (leField c.inl 0 2) = cSTOPPED ∧ (t.cue (leField c.inl 0 2)).stage = [] ∧ (t.cue (leField c.inl 0 2)).wait = .none)
        ∧ (s.cueState (leField c.inl 0 2) = cSTOPPED → t.cueState (leField c.inl 0 2) = cSTOPPED))
  ∧ (∀ (s : State) (p th k data : Nat), k < 32 → s.reached p (0x800080 + 0x100 * th + 4 * k) true → s.cueSess th ≠ 0 →
      (s.prinOf (s.cueSess th) = p → ∃ t, exec (.paramWrite p th k data) s = .next t ∧ t.cueP th k = data % 2 ^ 32 ∧ t.resp = ⟨0, 0⟩
        ∧ (∀ (g : Fld) (i j : Nat), Fld.key g ≠ Fld.key R.CUE_PARAM_VALUE ∨ i ≠ th ∨ j ≠ k → t.rdk g i j = s.rdk g i j))
      ∧ (isPrincipal p = true → s.replay = false → s.prinOf (s.cueSess th) ≠ p →
          ∃ t, exec (.paramWrite p th k data) s = .next t ∧ RefusedWith s t .protected' true))

/-- The arithmetic and parameter instructions (R422, R424, R425, R426, R428). On a RUNNING thread whose instruction is one of LDI, ADD, SUB, AND, OR, XOR,
SHL, SHR or CMP, not the last of its program, that instruction sets g(d) to the value R428 gives, modulo 2^32, and moves the PC on by 1; no other
register and nothing else changes. LDP loads a parameter word, the thread number or the epoch's nanoseconds; STP stores g(d) into a parameter word. On
a thread whose instruction is another, or that does not run, they change nothing. COMPLETION: under the conditions on the state and the operands that
its clauses name and nothing else, exec answers a next state for LDI, ADD, SUB, AND, OR, XOR, SHL, SHR, CMP, LDP, STP. -/
def Obligations.CueArithmetic : Prop :=
  (∀ (s : State) (t w : Nat), s.issues t w → s.more t →
    ((insOf w).op = 0x10 → ∃ u, exec (.ldi t) s = .next u ∧ SetsG s u t (insOf w).gd (s.operand t (insOf w)))
    ∧ ((insOf w).op = 0x11 → ∃ u, exec (.add t) s = .next u ∧ SetsG s u t (insOf w).gd (s.cueG t (insOf w).gd + s.operand t (insOf w)))
    ∧ ((insOf w).op = 0x12 → ∃ u, exec (.sub t) s = .next u ∧ SetsG s u t (insOf w).gd (s.cueG t (insOf w).gd + 2 ^ 32 - s.operand t (insOf w)))
    ∧ ((insOf w).op = 0x13 → ∃ u, exec (.andOp t) s = .next u ∧ SetsG s u t (insOf w).gd (s.cueG t (insOf w).gd &&& s.operand t (insOf w)))
    ∧ ((insOf w).op = 0x14 → ∃ u, exec (.orOp t) s = .next u ∧ SetsG s u t (insOf w).gd (s.cueG t (insOf w).gd ||| s.operand t (insOf w)))
    ∧ ((insOf w).op = 0x15 → ∃ u, exec (.xorOp t) s = .next u ∧ SetsG s u t (insOf w).gd (s.cueG t (insOf w).gd ^^^ s.operand t (insOf w)))
    ∧ ((insOf w).op = 0x16 → ∃ u, exec (.shl t) s = .next u ∧ SetsG s u t (insOf w).gd (s.cueG t (insOf w).gd * 2 ^ (s.operand t (insOf w) % 32)))
    ∧ ((insOf w).op = 0x17 → ∃ u, exec (.shr t) s = .next u
        ∧ SetsG s u t (insOf w).gd (if bitAt (insOf w).x 0 then twos 32 (sext 32 (s.cueG t (insOf w).gd) / ((2 ^ (s.operand t (insOf w) % 32) : Nat) : Int))
            else s.cueG t (insOf w).gd / 2 ^ (s.operand t (insOf w) % 32)))
    ∧ ((insOf w).op = 0x18 → ∃ u v, exec (.cmp t) s = .next u ∧ SetsG s u t (insOf w).gd v
        ∧ ((insOf w).x = 0 → v = (if s.cueG t (insOf w).gd = s.operand t (insOf w) then 0
            else if s.operand t (insOf w) < s.cueG t (insOf w).gd then 1 else 2 ^ 32 - 1))
        ∧ ((insOf w).x = 1 → v = (if sext 32 (s.cueG t (insOf w).gd) = sext 32 (s.operand t (insOf w)) then 0
            else if sext 32 (s.operand t (insOf w)) < sext 32 (s.cueG t (insOf w).gd) then 1 else 2 ^ 32 - 1))
        ∧ ((insOf w).x = 2 → v = (if sext 32 (s.cueG t (insOf w).gd + 2 ^ 32 - s.operand t (insOf w)) = 0 then 0
            else if 0 < sext 32 (s.cueG t (insOf w).gd + 2 ^ 32 - s.operand t (insOf w)) then 1 else 2 ^ 32 - 1)))
    ∧ ((insOf w).op = 0x19 → ldpIndex (s.operand t (insOf w)) = true → ∃ u, exec (.ldp t) s = .next u ∧ u.wentOn t (s.cuePc t + 1)
        ∧ u.rd R.CUE_S_S t = 0
        ∧ (s.operand t (insOf w) < 32 → u.cueG t (insOf w).gd = s.cueP t (s.operand t (insOf w)) % 2 ^ 32)
        ∧ (s.operand t (insOf w) = 0x44 → u.cueG t (insOf w).gd = t % 2 ^ 32)
        ∧ (s.operand t (insOf w) = 0x45 → u.cueG t (insOf w).gd = s.epoch % 1000000000))
    ∧ ((insOf w).op = 0x1A → s.operand t (insOf w) < 32 → ∃ u, exec (.stp t) s = .next u ∧ u.wentOn t (s.cuePc t + 1)
        ∧ u.rd R.CUE_S_S t = 0 ∧ u.cueP t (s.operand t (insOf w)) = s.cueG t (insOf w).gd % 2 ^ 32))
  ∧ (∀ (s : State) (t w : Nat), s.issues t w ∨ s.cueState t ≠ cRUNNING →
    (s.cueState t = cRUNNING → (insOf w).op ≠ 0x11) → exec (.add t) s = .next s)

/-- Control flow, faults and HALT (R424, R426, R427, R434, R442, R443). NOP moves on; at the last instruction of a program it faults with SC_DECODE. BR,
and BRZ and BRNZ where their condition holds, go to the operand when it lies in the program; else they fault with SC_DECODE, or load S and go on under
M.T. CALL pushes the return and goes to the operand, and faults with SC_LEN_EXCEEDS on a full stack; RET pops it and faults on an empty one. LOOP
decrements g(d), wrapping, and branches unless it became 0. HALT stops the thread, discards its stage buffer and raises HALTED. FENCE goes on when
every value is delivered and waits otherwise. COMPLETION: under the conditions on the state and the operands that its clauses name and nothing else,
exec answers a next state for NOP, BR, BRZ, BRNZ, CALL, RET, LOOP, HALT, FENCE. -/
def Obligations.CueControl : Prop :=
  (∀ (s : State) (t w : Nat), s.issues t w → (insOf w).op = 0x00 →
      (s.more t → ∃ u, exec (.nop t) s = .next u ∧ u.wentOn t (s.cuePc t + 1) ∧ u = { s with regs := u.regs })
      ∧ (¬s.more t → ∃ u, exec (.nop t) s = .next u ∧ u.cueState t = cFAULTED ∧ u.rd R.CUE_FAULT_STATUS t = Status.decode.code))
  ∧ (∀ (s : State) (t w : Nat), s.issues t w → s.operand t (insOf w) < (s.cueWords t).length →
      ((insOf w).op = 0x01 → ∃ u, exec (.br t) s = .next u ∧ u.wentOn t (s.operand t (insOf w)) ∧ u.rd R.CUE_S_S t = 0)
      ∧ ((insOf w).op = 0x02 → s.more t → ∃ u, exec (.brz t) s = .next u ∧ u.rd R.CUE_S_S t = 0
          ∧ u.wentOn t (if s.cueG t (insOf w).gd = 0 then s.operand t (insOf w) else s.cuePc t + 1))
      ∧ ((insOf w).op = 0x03 → s.more t → ∃ u, exec (.brnz t) s = .next u ∧ u.rd R.CUE_S_S t = 0
          ∧ u.wentOn t (if s.cueG t (insOf w).gd ≠ 0 then s.operand t (insOf w) else s.cuePc t + 1))
      ∧ ((insOf w).op = 0x04 → (s.cue t).stack.length < 8 → ∃ u, exec (.call t) s = .next u ∧ u.wentOn t (s.operand t (insOf w))
          ∧ (u.cue t).stack = (s.cuePc t + 1) :: (s.cue t).stack)
      ∧ ((insOf w).op = 0x04 → 8 ≤ (s.cue t).stack.length → (insOf w).tr = false → ∃ u, exec (.call t) s = .next u ∧ Faulted s u t .lenExceeds)
      ∧ ((insOf w).op = 0x06 → s.more t → ∃ u, exec (.loopOp t) s = .next u ∧ u.cueG t (insOf w).gd = (s.cueG t (insOf w).gd + (2 ^ 32 - 1)) % 2 ^ 32
          ∧ u.wentOn t (if (s.cueG t (insOf w).gd + (2 ^ 32 - 1)) % 2 ^ 32 = 0 then s.cuePc t + 1 else s.operand t (insOf w))))
  ∧ (∀ (s : State) (t w : Nat), s.issues t w → (s.cueWords t).length ≤ s.operand t (insOf w) → (insOf w).op = 0x01 →
      ((insOf w).tr = false → ∃ u, exec (.br t) s = .next u ∧ Faulted s u t .decode)
      ∧ ((insOf w).tr = true → s.more t → ∃ u, exec (.br t) s = .next u ∧ u.wentOn t (s.cuePc t + 1) ∧ u.rd R.CUE_S_S t = Status.decode.code))
  ∧ (∀ (s : State) (t w : Nat), s.issues t w → (insOf w).op = 0x05 →
      (∀ r l, (s.cue t).stack = r :: l → r < (s.cueWords t).length → ∃ u, exec (.ret t) s = .next u ∧ u.wentOn t r ∧ (u.cue t).stack = l)
      ∧ ((s.cue t).stack = [] → (insOf w).tr = false → ∃ u, exec (.ret t) s = .next u ∧ Faulted s u t .decode))
  ∧ (∀ (s : State) (t w : Nat), s.issues t w → (insOf w).op = 0x07 →
      ∃ u, exec (.halt t) s = .next u ∧ u.cueState t = cSTOPPED ∧ (u.cue t).stage = [] ∧ u.rd R.CUE_STAT_STAGED t = 0
        ∧ bitAt (u.rd R.CUE_EVT_FLAGS t) 1 = true)
  ∧ (∀ (s : State) (t w : Nat), s.issues t w → (insOf w).op = 0x62 →
      (s.cueDelivered t = true → s.more t → ∃ u, exec (.fence t) s = .next u ∧ u.wentOn t (s.cuePc t + 1))
      ∧ (s.cueDelivered t = false → ∃ u, exec (.fence t) s = .next u ∧ WaitsFor s u t .fence))

/-- Waits, EMIT and POST (R107, R417, R426, R429, R442). WAITF of 0 goes on, of n waits n frame boundaries; WAITL waits for a line of the format and
faults with SC_DECODE for another; WAITE of an event that the named unit of its session can raise waits for it; WAITT waits for the device epoch n
microseconds on. WAIT_COMPLETE of a thread whose wait has ended makes it RUNNING, S loaded after WAITL, WAITE, UHALT and URUN; before that it changes
nothing; where the wait is the last instruction of a program of 65,536 it faults with SC_DECODE. EMIT writes an entry into the thread's ring. POST
writes the words of an entry into a ring of its session with room and loads S with SC_OK; into a full one it writes nothing and loads SC_BUSY.
COMPLETION: under the conditions on the state and the operands that its clauses name and nothing else, exec answers a next state for WAITF, WAITL,
WAITE, WAITT, WAIT_COMPLETE, EMIT, POST. -/
def Obligations.CueWaits : Prop :=
  (∀ (s : State) (t w : Nat), s.issues t w →
      ((insOf w).op = 0x20 → s.operand t (insOf w) = 0 → s.more t → ∃ u, exec (.waitf t) s = .next u ∧ u.wentOn t (s.cuePc t + 1))
      ∧ ((insOf w).op = 0x20 → s.operand t (insOf w) ≠ 0 → ∃ u, exec (.waitf t) s = .next u ∧ WaitsFor s u t (.frames (s.operand t (insOf w))))
      ∧ ((insOf w).op = 0x21 → bitAt (insOf w).x 0 = false → 1 ≤ s.operand t (insOf w) → s.operand t (insOf w) ≤ (s.tlnFmt (s.cueTln t)).lines →
          ∃ u, exec (.waitl t) s = .next u ∧ WaitsFor s u t (.line (s.operand t (insOf w))))
      ∧ ((insOf w).op = 0x21 → bitAt (insOf w).x 0 = false → (s.tlnFmt (s.cueTln t)).lines < s.operand t (insOf w) → (insOf w).tr = false →
          ∃ u, exec (.waitl t) s = .next u ∧ Faulted s u t .decode)
      ∧ ((insOf w).op = 0x22 → s.badHandle (s.cueG t (insOf w).gs) = false → s.absentHandle (s.cueG t (insOf w).gs) = false →
          hKind (s.cueG t (insOf w).gs) ∈ [kInput, kPipe, kJob, kRoute, kRing] → s.owns (s.cueSess t) (s.cueG t (insOf w).gs) = true →
          kindRaises (hKind (s.cueG t (insOf w).gs)) ((insOf w).imm % 65536) = true →
          ∃ u, exec (.waite t) s = .next u ∧ WaitsFor s u t (.event (s.cueG t (insOf w).gs) ((insOf w).imm % 65536)
            (if s.cueG t (insOf w).gd = 0 then none else some (s.cueG t (insOf w).gd))
            (s.now + s.cueG t (insOf w).gd * periodNs (s.tlnFmt (s.cueTln t)))))
      ∧ ((insOf w).op = 0x23 → ∃ u, exec (.waitt t) s = .next u ∧ WaitsFor s u t (.until' (s.epoch + 1000 * s.operand t (insOf w)))))
  ∧ (∀ (s : State) (t st : Nat), s.cueState t = cWAITING → (s.domain (0x20 + t / 16)).st = 0 → s.cuePc t < (s.cueWords t).length →
    s.waitDone t = some st → s.cuePc t ≠ 0 →
      ∃ u, exec (.waitComplete t) s = .next u ∧ u.wentOn t (s.cuePc t) ∧ (u.cue t).wait = .none ∧ (u.cue t).woken = none
        ∧ (waitSetsS (s.cue t).wait = true → u.rd R.CUE_S_S t = st % 65536) ∧ (waitSetsS (s.cue t).wait = false → u.rd R.CUE_S_S t = s.rd R.CUE_S_S t))
  ∧ (∀ (s : State) (t st : Nat), s.cueState t = cWAITING → (s.domain (0x20 + t / 16)).st = 0 → (s.cueWords t).length ≤ 65536 →
    s.waitDone t = some st → s.cuePc t = 0 → ∃ u, exec (.waitComplete t) s = .next u ∧ Faulted s u t .decode)
  ∧ (∀ (s : State) (t : Nat), s.waitDone t = none → exec (.waitComplete t) s = .next s)
  ∧ (∀ (s : State) (t w : Nat), s.issues t w → s.more t → (insOf w).op = 0x60 →
      ((s.cue t).ring = 0 → ∃ u, exec (.emit t) s = .next u ∧ u.wentOn t (s.cuePc t + 1) ∧ u = { s with regs := u.regs })
      ∧ (∀ r, (s.cue t).ring ≠ 0 → tfind s.rings (hIdx (s.cue t).ring) = some r → ringFull r = false →
          ∃ u m, exec (.emit t) s = .next u ∧ u.wentOn t (s.cuePc t + 1) ∧ tfind u.rings (hIdx (s.cue t).ring) = some m
            ∧ m.pi = (r.pi + 1) % 2 ^ 32 ∧ m.ci = r.ci))
  ∧ (∀ (s : State) (t w : Nat) (r : RingCtx), s.issues t w → s.more t → (insOf w).op = 0x61 → s.modeCode ≠ mMIRROR →
    check (s.postChecks t (s.cueG t (insOf w).gd) (s.operand t (insOf w))) = .ok → tfind s.rings (hIdx (s.cueG t (insOf w).gd)) = some r →
      (ringFull r = false → ∃ u m, exec (.post t) s = .next u ∧ u.wentOn t (s.cuePc t + 1) ∧ u.rd R.CUE_S_S t = 0
        ∧ tfind u.rings (hIdx (s.cueG t (insOf w).gd)) = some m ∧ m.pi = (r.pi + 1) % 2 ^ 32 ∧ m.drops = r.drops)
      ∧ (ringFull r = true → ∃ u, exec (.post t) s = .next u ∧ u.wentOn t (s.cuePc t + 1) ∧ u.rd R.CUE_S_S t = Status.busy.code
        ∧ u.rings = s.rings ∧ u.hbm = s.hbm))

/-- The staging instructions (R430, R432, R433, R434, R436, R426). TAKE, LAYER, LAYPOS, MATRIX, SKIMX, AMAP, AGAIN, ADELAY, AMUTE and USET of a staged
register put their words into the stage buffer, replacing those of an entry with the same key, when the unit they name is present, the parameter run
ends at or before p[31] and the buffer has room or holds the key; S is SC_OK and the thread goes on. Into a full buffer a new key faults with
SC_LEN_EXCEEDS. COMPLETION: under the conditions on the state and the operands that its clauses name and nothing else, exec answers a next state for
TAKE, LAYER, LAYPOS, MATRIX, SKIMX, AMAP, AGAIN, ADELAY, AMUTE, USET. -/
def Obligations.CueStaging : Prop :=
  ∀ (s : State) (t w : Nat), s.issues t w → s.more t →
    ((insOf w).op = 0x30 → s.destPresent ((insOf w).sel + 256 * ((insOf w).x / 16)) = true → (insOf w).x % 16 ≠ selARCADE → (insOf w).x % 16 ≠ selSURFACE →
      s.stageRoom t (.sel ((insOf w).sel + 256 * ((insOf w).x / 16))) →
        ∃ u, exec (.take t) s = .next u ∧ Stages s u t (.sel ((insOf w).sel + 256 * ((insOf w).x / 16))) [(0, (insOf w).x % 16 * 2 ^ 28 + s.operand t (insOf w) % 256), (1, 0)])
    ∧ ((insOf w).op = 0x30 → s.destPresent ((insOf w).sel + 256 * ((insOf w).x / 16)) = true → (insOf w).x % 16 = selARCADE ∨ (insOf w).x % 16 = selSURFACE →
      s.stageRoom t (.sel ((insOf w).sel + 256 * ((insOf w).x / 16))) →
        ∃ u, exec (.take t) s = .next u ∧ Stages s u t (.sel ((insOf w).sel + 256 * ((insOf w).x / 16))) [(0, (insOf w).x % 16 * 2 ^ 28), (1, s.operand t (insOf w))])
    ∧ ((insOf w).op = 0x31 → bitAt (insOf w).x 3 = false → (insOf w).sel < s.lanes → ((insOf w).x % 8 = 7 → s.stencil = true) → s.operand t (insOf w) + 3 ≤ 32 → s.stageRoom t (.layer (insOf w).sel ((insOf w).x % 8)) →
        ∃ u, exec (.layer t) s = .next u ∧ Stages s u t (.layer (insOf w).sel ((insOf w).x % 8)) (s.paramRun t (s.operand t (insOf w)) 3 0))
    ∧ ((insOf w).op = 0x31 → bitAt (insOf w).x 3 = true → (insOf w).sel < s.lanes → s.operand t (insOf w) + 2 ≤ 32 → s.stageRoom t (.uc (insOf w).sel) →
        ∃ u, exec (.layer t) s = .next u ∧ Stages s u t (.uc (insOf w).sel) (s.paramRun t (s.operand t (insOf w)) 2 0))
    ∧ ((insOf w).op = 0x32 → (insOf w).sel < s.lanes → ((insOf w).x % 8 = 7 → s.stencil = true) → s.operand t (insOf w) + 4 ≤ 32 → s.stageRoom t (.layer (insOf w).sel ((insOf w).x % 8)) →
        ∃ u, exec (.laypos t) s = .next u ∧ Stages s u t (.layer (insOf w).sel ((insOf w).x % 8)) (s.paramRun t (s.operand t (insOf w)) 4 3))
    ∧ ((insOf w).op = 0x33 → bitAt (insOf w).x 3 = false → (insOf w).sel < s.lanes → ((insOf w).x % 8 = 7 → s.stencil = true) → s.operand t (insOf w) + 12 ≤ 32 → s.stageRoom t (.layer (insOf w).sel ((insOf w).x % 8)) →
        ∃ u, exec (.matrix t) s = .next u ∧ Stages s u t (.layer (insOf w).sel ((insOf w).x % 8)) (s.paramRun t (s.operand t (insOf w)) 12 7))
    ∧ ((insOf w).op = 0x33 → bitAt (insOf w).x 3 = true → (insOf w).sel < s.lanes → s.operand t (insOf w) + 13 ≤ 32 → s.stageRoom t (.om (insOf w).sel) →
        ∃ u, exec (.matrix t) s = .next u ∧ Stages s u t (.om (insOf w).sel) (s.paramRun t (s.operand t (insOf w)) 13 0))
    ∧ ((insOf w).op = 0x34 → (insOf w).sel < s.lanes → s.stencil = true → s.operand t (insOf w) + 4 ≤ 32 → s.stageRoom t (.skim (insOf w).sel ((insOf w).x % 8)) →
        ∃ u, exec (.skimx t) s = .next u ∧ Stages s u t (.skim (insOf w).sel ((insOf w).x % 8)) (s.paramRun t (s.operand t (insOf w)) 4 0))
    ∧ ((insOf w).op = 0x40 → s.audio = true → s.badHandle (s.cueG t (insOf w).gd) = false → hKind (s.cueG t (insOf w).gd) = kRoute →
      (s.operand t (insOf w) &&& 0x0FFF0FFF) = s.operand t (insOf w) → s.stageRoom t (.route (s.cueG t (insOf w).gd) 0) →
        ∃ u, exec (.amap t) s = .next u ∧ Stages s u t (.route (s.cueG t (insOf w).gd) 0) [(0, s.operand t (insOf w))])
    ∧ ((insOf w).op = 0x41 → s.audio = true → s.badHandle (s.cueG t (insOf w).gd) = false → hKind (s.cueG t (insOf w).gd) = kRoute →
      (s.operand t (insOf w) &&& 0xFFFF) = s.operand t (insOf w) → s.stageRoom t (.route (s.cueG t (insOf w).gd) 1) →
        ∃ u, exec (.again t) s = .next u ∧ Stages s u t (.route (s.cueG t (insOf w).gd) 1) [(0, s.operand t (insOf w))])
    ∧ ((insOf w).op = 0x42 → s.audio = true → s.badHandle (s.cueG t (insOf w).gd) = false → hKind (s.cueG t (insOf w).gd) = kRoute →
      (s.operand t (insOf w) &&& 0x1FFFF) = s.operand t (insOf w) → s.stageRoom t (.route (s.cueG t (insOf w).gd) 2) →
        ∃ u, exec (.adelay t) s = .next u ∧ Stages s u t (.route (s.cueG t (insOf w).gd) 2) [(0, s.operand t (insOf w))])
    ∧ ((insOf w).op = 0x43 → s.audio = true → s.badHandle (s.cueG t (insOf w).gd) = false → hKind (s.cueG t (insOf w).gd) = kRoute →
      (s.operand t (insOf w) &&& 1) = s.operand t (insOf w) → s.stageRoom t (.route (s.cueG t (insOf w).gd) 3) →
        ∃ u, exec (.amute t) s = .next u ∧ Stages s u t (.route (s.cueG t (insOf w).gd) 3) [(0, s.operand t (insOf w))])
    ∧ ((insOf w).op = 0x51 → s.badHandle (s.cueG t (insOf w).gd) = false → s.absentHandle (s.cueG t (insOf w).gd) = false → hKind (s.cueG t (insOf w).gd) = kInput →
      s.owns (s.cueSess t) (s.cueG t (insOf w).gd) = true → 0x80 ≤ (insOf w).sel →
      (insOf w).sel < 0x90 → s.stageRoom t (.sync (s.cueG t (insOf w).gd) ((insOf w).sel - 0x80)) →
        ∃ u, exec (.uset t) s = .next u ∧ Stages s u t (.sync (s.cueG t (insOf w).gd) ((insOf w).sel - 0x80)) [(0, s.operand t (insOf w))])
    ∧ ((insOf w).op = 0x30 → (insOf w).tr = false → s.destPresent ((insOf w).sel + 256 * ((insOf w).x / 16)) = true →
      ¬s.stageRoom t (.sel ((insOf w).sel + 256 * ((insOf w).x / 16))) → ∃ u, exec (.take t) s = .next u ∧ Faulted s u t .lenExceeds)

/-- COMMIT, CLONE, UHALT and URUN (R258, R431, R433, R435, R436, R438, R439). COMMIT with DISCARD empties the stage buffer. COMMIT NEXT, or with the next
target in g(s), whose entries pass is accepted: each entry is on its way to the target, the buffer is empty, COMMIT_CNT counts it. One that fails
changes nothing staged and faults with the status. A target ahead makes it wait; COMMIT_TARGET_REACHED issues it again once N has reached the target,
and changes nothing before; nor does it while a secondary waits less than 1 ms for the record of the outcome. A target behind loads SC_LATE and keeps
the buffer. CLONE replaces the members of the session's group. UHALT and URUN of a unit of the binding session make the stop and start request and
load S with its status. COMPLETION: under the conditions on the state and the operands that its clauses name and nothing else, exec answers a next
state for CLONE, COMMIT, COMMIT_TARGET_REACHED, UHALT, URUN. -/
def Obligations.CueCommits : Prop :=
  (∀ (s : State) (t w : Nat), s.issues t w → s.more t → (insOf w).op = 0x36 → bitAt (insOf w).x 1 = true →
      ∃ u, exec (.commit t) s = .next u ∧ (u.cue t).stage = [] ∧ u.rd R.CUE_S_S t = 0 ∧ u.wentOn t (s.cuePc t + 1) ∧ u.staged = s.staged)
  ∧ (∀ (s : State) (t w n : Nat), s.issues t w → s.more t → (insOf w).op = 0x36 → bitAt (insOf w).x 1 = false → s.modeCode ≠ mMIRROR →
    s.nextTarget t = some n →
      (bitAt (insOf w).x 0 = true ∨ s.cueG t (insOf w).gs = n →
        ((s.commitTry (s.cueSess t) (s.cueTln t) (s.cue t).stage).2.1 = .ok → ∃ u l, exec (.commit t) s = .next u ∧ u.staged = s.staged ++ l
          ∧ l.map (fun x => x.ent) = (s.cue t).stage ∧ (∀ x ∈ l, x.tgt = n ∧ x.tln = s.cueTln t ∧ x.thread = t ∧ x.delivered = false)
          ∧ (u.cue t).stage = [] ∧ u.rd R.CUE_LAST_TGT_FSN t = n % 2 ^ 32 ∧ u.rd R.CUE_S_S t = 0 ∧ u.wentOn t (s.cuePc t + 1)
          ∧ u.rd R.CUE_CNT_COMMIT_COUNT t = satAdd 32 (s.rd R.CUE_CNT_COMMIT_COUNT t) 1)
        ∧ ((s.commitTry (s.cueSess t) (s.cueTln t) (s.cue t).stage).2.1 ≠ .ok → (insOf w).tr = false → ∃ u, exec (.commit t) s = .next u
          ∧ u.cueState t = cFAULTED ∧ u.staged = s.staged
          ∧ u.rd R.CUE_FAULT_STATUS t = (s.commitTry (s.cueSess t) (s.cueTln t) (s.cue t).stage).2.1.code))
      ∧ (bitAt (insOf w).x 0 = false → 0 < (s.cueG t (insOf w).gs + 2 ^ 32 - n) % 2 ^ 32 → (s.cueG t (insOf w).gs + 2 ^ 32 - n) % 2 ^ 32 < 2 ^ 31 →
        ∃ u, exec (.commit t) s = .next u ∧ u.cueState t = cWAITING ∧ (u.cue t).wait = .target (s.cueG t (insOf w).gs)
          ∧ u.on R.CUE_STAT_CPEND t = true ∧ u.cuePc t = s.cuePc t % 2 ^ 16 ∧ (u.cue t).stage = (s.cue t).stage)
      ∧ (bitAt (insOf w).x 0 = false → 2 ^ 31 ≤ (s.cueG t (insOf w).gs + 2 ^ 32 - n) % 2 ^ 32 →
        (s.commitTry (s.cueSess t) (s.cueTln t) (s.cue t).stage).2.1 = .ok → ∃ u, exec (.commit t) s = .next u ∧ u.rd R.CUE_S_S t = Status.late.code
          ∧ u.rd R.CUE_CNT_LATE_COUNT t = satAdd 32 (s.rd R.CUE_CNT_LATE_COUNT t) 1 ∧ u.wentOn t (s.cuePc t + 1)
          ∧ (u.cue t).stage = (s.cue t).stage ∧ u.staged = s.staged ∧ bitAt (u.rd R.CUE_EVT_FLAGS t) 2 = true))
  ∧ (∀ (s : State) (t tgt n : Nat), s.cueState t = cWAITING → (s.cue t).wait = .target tgt → s.nextTarget t = some n →
      (2 ^ 31 ≤ (n + 2 ^ 32 - tgt) % 2 ^ 32 → exec (.commitTargetReached t) s = .next s)
      ∧ (∀ w, n = tgt → s.threadPresent t = true → (s.domain (0x20 + t / 16)).st = 0 → (s.cueWords t)[s.cuePc t]? = some w → s.more t →
          (insOf w).op = 0x36 → (insOf w).x = 0 → s.cueG t (insOf w).gs = tgt → s.modeCode ≠ mMIRROR → (s.cue t).stage = [] →
          (s.commitTry (s.cueSess t) (s.cueTln t) []).2.1 = .ok →
          ∃ u, exec (.commitTargetReached t) s = .next u ∧ u.wentOn t (s.cuePc t + 1) ∧ u.rd R.CUE_LAST_TGT_FSN t = tgt % 2 ^ 32
            ∧ (u.cue t).wait = .none ∧ u.on R.CUE_STAT_CPEND t = false))
  ∧ (∀ (s : State) (t since : Nat), s.cueState t = cWAITING → (s.cue t).wait = .record since → s.recCame t = false → s.now < since + 1000000 →
      exec (.commitTargetReached t) s = .next s)
  ∧ (∀ (s : State) (t w : Nat), s.issues t w → s.more t → (insOf w).op = 0x35 → s.operand t (insOf w) + 2 ≤ 32 →
    s.cueP t (s.operand t (insOf w) + 1) < 2 ^ 24 → (insOf w).sel < s.lanes → (s.obj kClone (insOf w).sel).live = true →
    (s.obj kClone (insOf w).sel).owner = s.cueSess t → (s.obj kClone (insOf w).sel).draining = false →
    check (s.cloneChecks (insOf w).sel (leBytes 4 (s.cueP t (s.operand t (insOf w))) ++ leBytes 3 (s.cueP t (s.operand t (insOf w) + 1)))) = .ok →
      ∃ u, exec (.clone t) s = .next u ∧ u.rd R.CUE_S_S t = 0 ∧ u.wentOn t (s.cuePc t + 1)
        ∧ u.rd R.PLZ_CLONE_A_MEMBERS (insOf w).sel = s.cueP t (s.operand t (insOf w)) % 2 ^ 32)
  ∧ (∀ (s : State) (t w n : Nat), s.issues t w → s.more t → s.modeCode ≠ mMIRROR → s.badHandle (s.operand t (insOf w)) = false →
    hKind (s.operand t (insOf w)) = kPipe → hIdx (s.operand t (insOf w)) = n → n < 96 → bitAt (insOf w).x 0 = false →
    s.owns (s.cueSess t) (s.operand t (insOf w)) = true →
    s.reached (s.prinOf (s.cueSess t)) (outAddr n 0) true →
      ((insOf w).op = 0x50 → s.gangMember n = false → s.holds (s.prinOf (s.cueSess t)) kPipe n = true → s.rd R.OUT_STAT_LC_STATE n = lcRUNNING →
        ∃ u, exec (.uhalt t) s = .next u ∧ u.rd R.OUT_STAT_LC_STATE n = lcSTOPPING ∧ u.rd R.CUE_S_S t = 0 ∧ u.wentOn t (s.cuePc t + 1)
          ∧ u.resp = s.resp)
      ∧ ((insOf w).op = 0x52 → check (s.outStartChecks (s.prinOf (s.cueSess t)) n) = .ok → s.admits (s.liveCharges n) = true →
        ∃ u, exec (.urun t) s = .next u ∧ u.rd R.OUT_STAT_LC_STATE n = lcARMED ∧ u.rd R.CUE_S_S t = 0 ∧ u.wentOn t (s.cuePc t + 1))
      ∧ ((insOf w).op = 0x52 → (insOf w).tr = true → isPrincipal (s.prinOf (s.cueSess t)) = true →
        check (s.outStartChecks (s.prinOf (s.cueSess t)) n) ≠ .ok →
        ∃ u, exec (.urun t) s = .next u ∧ u.rd R.OUT_STAT_LC_STATE n = s.rd R.OUT_STAT_LC_STATE n ∧ u.wentOn t (s.cuePc t + 1)
          ∧ u.rd R.CUE_S_S t = (check (s.outStartChecks (s.prinOf (s.cueSess t)) n)).code))

/-- Candidates: configuration, signal, measurement, wait (R451, R453, R454, R456, R460, R461, R462, R468). CAND_CONFIG that passes its checks completes OK
and its arguments stand in the candidate's registers; ENABLE 0 on an enabled candidate disables it, and a change of neither ENABLE, SRC nor PPS_REQ
keeps its state. A signal that becomes valid takes LOST to WAIT with the WTR timer of class A at WTR_S; one that becomes invalid takes the states from
WAIT on to LOST, with no measurement shown. A measurement shows f and moves QUALIFIED by its limits; a good second is counted. The end of the WTR
timer shows 0 left; at its next measurement a candidate whose wait is over leaves WAIT by f, and one that still waits goes to DISQUALIFIED where |f|
is above the hard limit. A measurement of a candidate whose signal is not valid is not taken. After each, unless forced, the eligible candidate with
the best key is selected. Outside the states they act in, the commands change nothing. COMPLETION: under the conditions on the state and the operands
that its clauses name and nothing else, exec answers a next state for CAND_CONFIG, CAND_SIGNAL_CHANGE, FREQ_MEASUREMENT, WTR_EXPIRY. -/
def Obligations.CandidateStates : Prop :=
  (∀ (s : State) (f : Nat) (c : Taken) (pay : List Nat), s.taking f 0x70 c → c.plain → s.modeOk → s.sessOk f c → hIdx c.object < 9 →
    s.isDraining c.object = false → check (s.candChecks c.ss c.object c.inl) = .ok →
      ∃ t, exec (.candConfig f pay) s = .next t ∧ Completed t f c .ok 0 0
        ∧ t.on R.REF_CAND_CFG_ENABLE (hIdx c.object) = bitAt (leField c.inl 0 1) 0 ∧ t.rd R.REF_CAND_CFG_PRIO (hIdx c.object) = leField c.inl 1 1
        ∧ t.rd R.REF_CAND_CFG_QL (hIdx c.object) = leField c.inl 2 1 ∧ t.rd R.REF_CAND_CFG_BW (hIdx c.object) = leField c.inl 3 1
        ∧ t.rd R.REF_CAND_CFG_WTR_S (hIdx c.object) = leField c.inl 4 2 ∧ t.rd R.REF_CAND_CFG_SRC (hIdx c.object) = leField c.inl 6 1
        ∧ t.rd R.REF_CAND_OFS_PHASE_OFS (hIdx c.object) = leField c.inl 8 4 % 2 ^ 32
        ∧ (s.on R.REF_CAND_CFG_ENABLE (hIdx c.object) = true → bitAt (leField c.inl 0 1) 0 = false → t.candState (hIdx c.object) = caDISABLED)
        ∧ (s.rd R.REF_CAND_CFG_ENABLE (hIdx c.object) = leField c.inl 0 1 % 2 → s.rd R.REF_CAND_CFG_SRC (hIdx c.object) = leField c.inl 6 1 →
            s.rd R.REF_CAND_CFG_PPS_REQ (hIdx c.object) = leField c.inl 0 1 / 2 % 2 → t.candState (hIdx c.object) = s.candState (hIdx c.object)))
  ∧ (∀ (s : State) (c : Nat) (v : Bool) (mark : Nat),
      (s.refActive = true → s.candPresent c = true →
        ∃ t, exec (.candSignalChange c v mark) s = .next t ∧ (t.cand c).valid = s.candCond c v
          ∧ (s.candCond c v = true → s.candState c = caLOST → t.candState c = caWAIT
              ∧ t.rd R.REF_CAND_STAT_WTR_LEFT c = if candB c then 0 else s.rd R.REF_CAND_CFG_WTR_S c % 2 ^ 12)
          ∧ (s.candCond c v = false → caWAIT ≤ s.candState c → t.candState c = caLOST ∧ t.rd R.REF_CAND_FREQ_PPT c = 0x80000000
              ∧ t.rd R.REF_CAND_PHASE_NS c = 0x80000000 ∧ t.rd R.REF_CAND_STAT_WTR_LEFT c = 0)
          ∧ (s.candState c = caDISABLED → t.candState c = caDISABLED) ∧ (s.on R.REF_CFG_FORCE_EN 0 = false → t.bestSelected))
      ∧ (s.refActive = false ∨ s.candPresent c = false → exec (.candSignalChange c v mark) s = .next s))
  ∧ (∀ (s : State) (c mark : Nat) (f : Int),
      (s.refActive = true → s.candPresent c = true → s.candValid c = true → s.candState c = caQUALIFIED → f.natAbs < 2 ^ 31 →
        s.softPpt ≤ s.hardPpt →
        ∃ t, exec (.freqMeasurement [(c, f, mark)]) s = .next t ∧ t.rd R.REF_CAND_FREQ_PPT c = twos 32 f ∧ t.candState c = s.onLeaving f.natAbs
          ∧ (s.on R.REF_CFG_FORCE_EN 0 = false → t.bestSelected)
          ∧ (s.dpll = dpLOCKED → s.refSel = some c → 2 * f.natAbs ≤ s.softPpt →
              t.rd R.REF_GOOD_GOOD_S 0 = min 65535 (s.refX.good.length + 1) ∧ t.rd R.REF_GOOD_MARK_AGE 0 = 0
                ∧ t.refX.good.head? = some (clampInt (-s.pullPpt) s.pullPpt s.refX.steer)
                ∧ t.rd R.REF_STAT_HO_VALID 0 = b2n (decide (60 ≤ s.refX.good.length + 1)))
          ∧ (s.dpll ≠ dpLOCKED → t.refX.good = s.refX.good ∧ t.rd R.REF_GOOD_MARK_AGE 0 = min 65535 (s.rd R.REF_GOOD_MARK_AGE 0 + 1)))
      ∧ (s.refActive = true → s.candPresent c = true → s.candValid c = true → s.candState c = caWAIT → s.softPpt ≤ s.hardPpt →
        ∃ t, exec (.freqMeasurement [(c, f, mark)]) s = .next t
          ∧ t.candState c = (if s.hardPpt < f.natAbs then caDISQUALIFIED else if s.candWaited c = true then s.onLeaving f.natAbs else caWAIT)
          ∧ (s.on R.REF_CFG_FORCE_EN 0 = false → t.bestSelected)
          ∧ (t.refSel = some c → s.refSel = none → s.dpll = dpFREERUN → s.rd R.REF_CFG_DPLL_MODE 0 = 0 → t.dpll = dpACQUIRE ∧ t.epochRuns = true))
      ∧ (s.refActive = true → s.candValid c = false → ∃ t, exec (.freqMeasurement [(c, f, mark)]) s = .next t
          ∧ (s.candPresent c = true → caWAIT ≤ s.candState c → t.candState c = caLOST)
          ∧ (s.candState c < caWAIT → t.candState c = s.candState c ∧ t.rd R.REF_CAND_FREQ_PPT c = s.rd R.REF_CAND_FREQ_PPT c))
      ∧ (s.refActive = false → exec (.freqMeasurement [(c, f, mark)]) s = .next s))
  ∧ (∀ (s : State) (c : Nat),
      (s.refActive = true → c < 7 → s.candState c = caWAIT → s.candValid c = true →
        ∃ t, exec (.wtrExpiry c) s = .next t ∧ t.rd R.REF_CAND_STAT_WTR_LEFT c = 0 ∧ t = { s with regs := t.regs }
          ∧ (∀ (g : Fld) (i j : Nat), Fld.key g ≠ Fld.key R.REF_CAND_STAT_WTR_LEFT ∨ i ≠ c ∨ j ≠ 0 → t.rdk g i j = s.rdk g i j))
      ∧ (s.candState c ≠ caWAIT ∨ s.candValid c = false ∨ s.refActive = false ∨ 7 ≤ c → exec (.wtrExpiry c) s = .next s))

/-- The DPLL: lock, clamp, REF.CFG, REF.MAN, the free-running start (R459, R462, R463, R465, R467, R471). When the lock condition has held, ACQUIRE
becomes LOCKED with the bandwidth and QL of the selected candidate; in another state nothing changes. The clamp disqualifies the selected candidate,
which is then no longer selected. A REF.CFG write by one who may write it takes effect: FORCE_EN selects the forced candidate, or none when it is not
eligible; DPLL_MODE MANUAL takes the DPLL to MANUAL. REF.MAN takes a value within its range, at once in MANUAL, and refuses another with SC_DECODE.
The free-running start starts the epoch, which runs no earlier than at its moment. COMPLETION: under the conditions on the state and the operands that
its clauses name and nothing else, exec answers a next state for DPLL_LOCK_QUALIFY, PULL_IN_CLAMP, REF_CFG_WRITE, MAN_HI_WRITE, FR_START_EXPIRY. -/
def Obligations.ReferenceLoop : Prop :=
  (∀ (s : State) (c : Nat),
      (s.refActive = true → s.refSel = some c → s.dpll = dpACQUIRE → ∃ t, exec .dpllLockQualify s = .next t ∧ t.dpll = dpLOCKED ∧ t.refX.bw = s.rd R.REF_CAND_CFG_BW c
        ∧ t.rd R.REF_STAT_OUT_QL 0 = (if c = 8 then 7 else s.effQl c) ∧ t.refSel = some c ∧ t.candX = s.candX)
      ∧ (s.refActive = false ∨ s.refSel = none ∨ s.dpll ≠ dpACQUIRE → exec .dpllLockQualify s = .next s))
  ∧ (∀ (s : State) (c : Nat), c < 9 →
      (s.refActive = true → s.dpll = dpACQUIRE ∨ s.dpll = dpLOCKED → s.refSel = some c → s.candState c = caQUALIFIED ∨ s.candState c = caDEGRADED →
        ∃ t, exec .pullInClamp s = .next t ∧ t.candState c = caDISQUALIFIED
          ∧ (∀ e, e ≠ c → t.candState e = s.candState e) ∧ (s.on R.REF_CFG_FORCE_EN 0 = false → t.refSel ≠ some c ∧ t.bestSelected)
          ∧ (t.refSel = none → s.rd R.REF_CFG_DPLL_MODE 0 ≠ 1 → t.dpll = dpHOLDOVER))
      ∧ (s.refActive = false ∨ s.dpll ≠ dpACQUIRE ∧ s.dpll ≠ dpLOCKED → exec .pullInClamp s = .next s))
  ∧ (∀ (s : State) (p data : Nat), s.reached p 0x50000 true →
      (refWriter p = true → ∃ t, exec (.refCfgWrite p data) s = .next t ∧ t.resp = ⟨0, 0⟩ ∧ t.rd R.REF_CFG_QL_EN 0 = bitsOf data 31 1
        ∧ t.rd R.REF_CFG_FORCE_EN 0 = bitsOf data 30 1 ∧ t.rd R.REF_CFG_FORCE_CAND 0 = bitsOf data 26 4 ∧ t.rd R.REF_CFG_DPLL_MODE 0 = bitsOf data 24 2
        ∧ t.rd R.REF_CFG_FR_START 0 = bitsOf data 16 8 ∧ t.rd R.REF_CFG_ACQ_BW 0 = bitsOf data 12 4 ∧ t.rd R.REF_CFG_HO_QL 0 = bitsOf data 9 3
        ∧ (s.refActive = true → bitAt data 30 = true → t.refSel = if s.eligible (bitsOf data 26 4) = true then some (bitsOf data 26 4) else none)
        ∧ (s.refActive = true → bitAt data 30 = false → t.bestSelected)
        ∧ (s.refActive = true → bitsOf data 24 2 = 1 → t.dpll = dpMANUAL ∧ (s.dpll ≠ dpMANUAL → t.refX.steer = s.refX.man)))
      ∧ (refWriter p = false → isPrincipal p = true → ∃ t, exec (.refCfgWrite p data) s = .next t ∧ RefusedWith s t .protected' true))
  ∧ (∀ (s : State) (p data : Nat), s.reached p 0x50020 true → refWriter p = true →
      ((sext 40 (data % 2 ^ 8 * 2 ^ 32 + s.rd R.REF_MAN_LO_S 0)).natAbs ≤ 200000000 → ∃ t, exec (.manHiWrite p data) s = .next t ∧ t.resp = ⟨0, 0⟩
        ∧ t.refX.man = sext 40 (data % 2 ^ 8 * 2 ^ 32 + s.rd R.REF_MAN_LO_S 0)
        ∧ (s.dpll = dpMANUAL → t.refX.steer = t.refX.man ∧ t.rd R.REF_DCO_LO_S 0 = twos 64 t.refX.man % 2 ^ 32)
        ∧ (s.dpll ≠ dpMANUAL → t.refX.steer = s.refX.steer))
      ∧ (200000000 < (sext 40 (data % 2 ^ 8 * 2 ^ 32 + s.rd R.REF_MAN_LO_S 0)).natAbs → isPrincipal p = true →
        ∃ t, exec (.manHiWrite p data) s = .next t ∧ RefusedWith s t .decode true))
  ∧ (∀ (s : State) (x : Nat), s.refX.idleAt = some x →
      (s.refActive = true → s.epochRuns = false → s.refSel = none → s.rd R.REF_CFG_FR_START 0 ≠ 0 →
        ∃ t, exec .frStartExpiry s = .next t ∧ t.epochRuns = true ∧ t.epoch = 0 ∧ t.dpll = s.dpll ∧ x + s.rd R.REF_CFG_FR_START 0 * 1000000000 ≤ t.now
          ∧ (∀ j, j < 16 → s.rd R.REF_TLN_STAT_STATE j = 1 → t.rd R.REF_TLN_STAT_STATE j = 2))
      ∧ (s.epochRuns = true ∨ s.refSel ≠ none ∨ s.rd R.REF_CFG_FR_START 0 = 0 → exec .frStartExpiry s = .next s))

/-- Timelines: format, start, phase, slew, cut (R475, R477, R478, R479, R480, R481, R483, R484). A REF.TLN_CFG write by the holder with a legal K and
format, to a timeline that is stopped or keeps both, takes effect: a new format starts the timeline, with T reduced modulo its period, or lets it wait
for the epoch; FMT 0 turns it off. A write of another is refused with SC_PROTECTED, one with K out of range with SC_DECODE, one that changes a used
timeline with SC_UNIT_RUNNING. The first alignment point gives the first frame its FSN. REF.TLN_PHASE takes a T within the period, which moves A not
at once, and refuses one outside it. A slew step moves A of a busy timeline towards T by at most SLEW_PPM ns. A cut is pending on a running timeline
with e not 0, and not with e 0. COMPLETION: under the conditions on the state and the operands that its clauses name and nothing else, exec answers a
next state for TLN_CFG_WRITE, TIMELINE_ALIGN_START, TLN_PHASE_WRITE, SLEW_STEP, TLN_CUT. -/
def Obligations.TimelineControl : Prop :=
  (∀ (s : State) (p i data : Nat), i < 16 → s.reached p (tlnAddr i 0) true → s.holds p kTimeline i = true →
    4 ≤ bitsOf data 16 7 → bitsOf data 16 7 ≤ 64 → bitsOf data 0 8 = 0 ∨ (formatOf (bitsOf data 0 8)).isSome = true →
      (s.tlnStopped i = true ∨ (bitsOf data 16 7 = s.rd R.REF_TLN_CFG_KERB i ∧ bitsOf data 0 8 = s.rd R.REF_TLN_CFG_FMT i) →
        ∃ t, exec (.tlnCfgWrite p i data) s = .next t ∧ t.resp = ⟨0, 0⟩ ∧ t.rd R.REF_TLN_CFG_KERB i = bitsOf data 16 7
          ∧ t.rd R.REF_TLN_CFG_FMT i = bitsOf data 0 8 ∧ (∀ j, j ≠ i → t.tlnX j = s.tlnX j ∧ t.rd R.REF_TLN_STAT_STATE j = s.rd R.REF_TLN_STAT_STATE j)
          ∧ (bitsOf data 0 8 = s.rd R.REF_TLN_CFG_FMT i → t.rd R.REF_TLN_STAT_STATE i = s.rd R.REF_TLN_STAT_STATE i ∧ t.tlnX i = s.tlnX i)
          ∧ (bitsOf data 0 8 ≠ s.rd R.REF_TLN_CFG_FMT i → bitsOf data 0 8 = 0 → t.rd R.REF_TLN_STAT_STATE i = 0)
          ∧ (bitsOf data 0 8 ≠ s.rd R.REF_TLN_CFG_FMT i → bitsOf data 0 8 ≠ 0 → s.epochRuns = false → t.rd R.REF_TLN_STAT_STATE i = 1)
          ∧ (bitsOf data 0 8 ≠ s.rd R.REF_TLN_CFG_FMT i → bitsOf data 0 8 ≠ 0 → s.epochRuns = true → t.rd R.REF_TLN_STAT_STATE i = 2
              ∧ t.rd R.REF_TLN_PHASE_NS i * (t.tlnFmt i).num < periodM (t.tlnFmt i) ∧ (t.tlnX i).phase = t.rd R.REF_TLN_PHASE_NS i
              ∧ (t.tlnX i).starting = true))
      ∧ (s.tlnStopped i = false → bitsOf data 16 7 ≠ s.rd R.REF_TLN_CFG_KERB i ∨ bitsOf data 0 8 ≠ s.rd R.REF_TLN_CFG_FMT i → isPrincipal p = true →
        ∃ t, exec (.tlnCfgWrite p i data) s = .next t ∧ RefusedWith s t .unitRunning true))
  ∧ (∀ (s : State) (p i data : Nat), i < 16 → s.reached p (tlnAddr i 0) true → isPrincipal p = true → bitsOf data 16 7 < 4 ∨ 64 < bitsOf data 16 7 →
      ∃ t, exec (.tlnCfgWrite p i data) s = .next t ∧ RefusedWith s t .decode true)
  ∧ (∀ (s : State) (p i data : Nat), i < 16 → s.reached p (tlnAddr i 4) true → isPrincipal p = true → s.holds p kTimeline i = false →
    s.rd R.REF_TLN_CFG_FMT i = 0 → ∃ t, exec (.tlnPhaseWrite p i data) s = .next t ∧ RefusedWith s t .protected' true)
  ∧ (∀ (s : State) (i : Nat),
      (i < 16 → s.tlnRuns i = true → (s.tlnX i).starting = true → ∃ t, exec (.timelineAlignStart i) s = .next t
        ∧ t.fsn i = ((s.tlnX i).n + (s.tlnX i).ofs) % 2 ^ 32 ∧ (t.tlnX i).starting = false ∧ (t.tlnX i).line = 0 ∧ (t.tlnX i).n = (s.tlnX i).n
        ∧ t.epoch = max s.epoch (lineStart (s.tlnFmt i) (s.tlnX i).phase (s.tlnX i).n 1) ∧ (∀ j, j ≠ i → t.tlnX j = s.tlnX j ∧ t.fsn j = s.fsn j))
      ∧ ((s.tlnX i).starting = false ∨ s.tlnRuns i = false → exec (.timelineAlignStart i) s = .next s))
  ∧ (∀ (s : State) (p i data : Nat), i < 16 → s.reached p (tlnAddr i 4) true → s.holds p kTimeline i = true →
      (s.rd R.REF_TLN_CFG_FMT i = 0 ∨ (data + 1) * (s.tlnFmt i).num ≤ periodM (s.tlnFmt i) → ∃ t, exec (.tlnPhaseWrite p i data) s = .next t
        ∧ t.resp = ⟨0, 0⟩ ∧ t.rd R.REF_TLN_PHASE_NS i = data % 2 ^ 32 ∧ (t.tlnX i).phase = (s.tlnX i).phase ∧ (∀ j, j ≠ i → t.tlnX j = s.tlnX j)
        ∧ (s.tlnRuns i = true → t.rd R.REF_TLN_ERR_NS i = twos 32 (t.tlnErr i))
        ∧ (s.tlnRuns i = true → t.tlnErr i ≠ 0 → s.tlnBusy i = true → t.on R.REF_TLN_STAT_SLEWING i = true
            ∧ (s.on R.REF_TLN_STAT_SLEWING i = false → bitAt (t.rd R.REF_TLN_EVT_FLAGS i) 0 = true)))
      ∧ (s.rd R.REF_TLN_CFG_FMT i ≠ 0 → periodM (s.tlnFmt i) < (data + 1) * (s.tlnFmt i).num → isPrincipal p = true →
        ∃ t, exec (.tlnPhaseWrite p i data) s = .next t ∧ RefusedWith s t .decode true))
  ∧ (∀ (s : State) (i : Nat),
      (i < 16 → s.tlnRuns i = true → ∃ t, exec (.slewStep i) s = .next t ∧ (∀ j, j ≠ i → t.tlnX j = s.tlnX j)
        ∧ t.rd R.REF_TLN_PHASE_NS i = s.rd R.REF_TLN_PHASE_NS i
        ∧ (t.tlnX i).phase = (s.tlnX i).phase + (if s.tlnBusy i = true
            then clampInt (-(s.rd R.REF_TLN_SLEW_SLEW_PPM i : Int)) (s.rd R.REF_TLN_SLEW_SLEW_PPM i) (s.tlnErr i) else 0)
        ∧ (t.tlnErr i = 0 → t.on R.REF_TLN_STAT_SLEWING i = false)
        ∧ (t.tlnErr i = 0 → s.on R.REF_TLN_STAT_SLEWING i = true → bitAt (t.rd R.REF_TLN_EVT_FLAGS i) 1 = true))
      ∧ (s.tlnRuns i = false → exec (.slewStep i) s = .next s))
  ∧ (∀ (s : State) (p i data : Nat), i < 16 → s.reached p (tlnAddr i 8) true → s.holds p kTimeline i = true →
      (1 ≤ bitsOf data 0 8 → bitsOf data 0 8 ≤ 200 → ∃ t, exec (.tlnCut p i data) s = .next t ∧ t.resp = ⟨0, 0⟩
        ∧ t.rd R.REF_TLN_SLEW_SLEW_PPM i = bitsOf data 0 8 ∧ t.tln = s.tln
        ∧ (s.tlnRuns i = true → s.tlnErr i ≠ 0 → t.on R.REF_TLN_STAT_CUT_PEND i = true)
        ∧ (s.tlnRuns i = false ∨ s.tlnErr i = 0 → t.rd R.REF_TLN_STAT_CUT_PEND i = s.rd R.REF_TLN_STAT_CUT_PEND i))
      ∧ (bitsOf data 0 8 = 0 ∨ 200 < bitsOf data 0 8 → isPrincipal p = true → ∃ t, exec (.tlnCut p i data) s = .next t ∧ RefusedWith s t .decode true))

/-- The PTP port (R126, R454, R457, R487, R488). A message that the port does not hear (it is off, the receiver is not locked to the pins, or the frame's
tag is not its own) has no effect but that of a far-end loopback. A message of another domain, a wrong form or an interval not accepted is counted and
discarded. An Announce from the only master chooses it and shows its class and the QL of REFC7. A Sync pair of the chosen master, of one step, or of
two with one sequence number, gives the offset t2 − t1 − meanPathDelay − ASYM and takes the port to SLAVE; a Delay_Resp to the port's own Delay_Req
gives the mean path delay, and another changes nothing, as a message of another master does. The port sends a Delay_Req once a pair has been timed,
and answers ARP and both IGMP queries for its address, all where the lane's transmitter carries them. A timeout takes it to LISTENING with no master.
The formulas are assumption 40's. COMPLETION: under the conditions on the state and the operands that its clauses name and nothing else, exec answers
a next state for PTP_MESSAGE_RECEIVED, PTP_DELAY_REQ_SEND, PTP_TIMEOUT, ARP_OR_IGMP_RECEIVED. -/
def Obligations.PtpPort : Prop :=
  (∀ (s : State) (m : PtpMsg), s.ptpHears m.vlan = false → exec (.ptpMessageReceived m) s = .next (s.ptpLoop m))
  ∧ (∀ (s : State) (m : PtpMsg), s.txState 104 ≠ 2 → s.ptpLoop m = s)
  ∧ (∀ (s : State) (m : PtpMsg), s.ptpHears m.vlan = true → s.ptpBad m = true → ∃ t, exec (.ptpMessageReceived m) s = .next t
      ∧ t.rd R.REF_PTP_CNT_BAD_COUNT 0 = satAdd 32 (s.rd R.REF_PTP_CNT_BAD_COUNT 0) 1 ∧ t.ptpX = s.ptpX
      ∧ (∀ (f : Fld) (u k : Nat), Fld.key f ≠ Fld.key R.REF_PTP_CNT_BAD_COUNT ∨ u ≠ 0 ∨ k ≠ 0 → t.rdk f u k = s.rdk f u k))
  ∧ (∀ (s : State) (m : PtpMsg), s.ptpHears m.vlan = true → s.ptpBad m = false → m.tlv = none →
      (m.kind = 2 → s.ptpX.masters = [] → ∃ t, exec (.ptpMessageReceived m) s = .next t ∧ t.ptpX.chosen = some m.src
        ∧ t.rd R.REF_PTP_CNT_ANN_COUNT 0 = satAdd 32 (s.rd R.REF_PTP_CNT_ANN_COUNT 0) 1 ∧ t.rd R.REF_PTP_STAT_GM_CLASS 0 = m.data.getD 1 255 % 256
        ∧ t.rd R.REF_CAND_STAT_MSG_QL 7 = qlOfClass (m.data.getD 1 255) ∧ (s.ptpX.chosen ≠ some m.src → t.rd R.REF_PTP_STAT_PORT 0 = ptUNCALIBRATED))
      ∧ (m.kind = 0 → m.twoStep = false → s.ptpX.chosen = some m.src → s.rd R.REF_PTP_STAT_PORT 0 = ptUNCALIBRATED →
        ∃ t, exec (.ptpMessageReceived m) s = .next t ∧ t.rd R.REF_PTP_STAT_PORT 0 = ptSLAVE
          ∧ t.rd R.REF_PTP_CNT_SYNC_COUNT 0 = satAdd 32 (s.rd R.REF_PTP_CNT_SYNC_COUNT 0) 1
          ∧ t.rd R.REF_PTP_OFS_NS 0 = twos 32 (clampInt (-(2 ^ 31)) (2 ^ 31 - 1)
              ((m.rx : Int) - m.stamp - (s.rd R.REF_PTP_MPD_NS 0 : Nat) - sext 32 (s.rd R.REF_PTP_ASYM_NS 0)))
          ∧ t.ptpX.pair = some (m.stamp, m.rx) ∧ (s.candState 7 = caLOST → t.candState 7 = caWAIT))
      ∧ (m.kind = 0 → m.twoStep = true → s.ptpX.chosen = some m.src → ∃ t, exec (.ptpMessageReceived m) s = .next t ∧ t.ptpX.half = some (m.seq, m.rx)
          ∧ t.rd R.REF_PTP_OFS_NS 0 = s.rd R.REF_PTP_OFS_NS 0 ∧ t.rd R.REF_PTP_STAT_PORT 0 = s.rd R.REF_PTP_STAT_PORT 0)
      ∧ (∀ t2, m.kind = 1 → s.ptpX.chosen = some m.src → s.ptpX.half = some (m.seq, t2) → ∃ t, exec (.ptpMessageReceived m) s = .next t
          ∧ t.ptpX.pair = some (m.stamp, t2) ∧ t.ptpX.half = none ∧ t.rd R.REF_PTP_OFS_NS 0 = twos 32 (clampInt (-(2 ^ 31)) (2 ^ 31 - 1)
              ((t2 : Int) - m.stamp - (s.rd R.REF_PTP_MPD_NS 0 : Nat) - sext 32 (s.rd R.REF_PTP_ASYM_NS 0))))
      ∧ (m.kind = 1 → s.ptpX.chosen = some m.src → (∀ q t2, s.ptpX.half = some (q, t2) → q ≠ m.seq) →
          exec (.ptpMessageReceived m) s = .next (s.ptpLoop m))
      ∧ (∀ t1 t2 t3, m.kind = 3 → s.ptpX.chosen = some m.src → s.ptpX.reqT3 = some (m.seq, t3) → m.req = s.ptpId → s.ptpX.pair = some (t1, t2) →
          ∃ t, exec (.ptpMessageReceived m) s = .next t ∧ t.ptpX.reqT3 = none
            ∧ t.rd R.REF_PTP_MPD_NS 0 = (clampInt 0 (2 ^ 32 - 1) (((t2 : Int) - t1 + ((m.stamp : Int) - t3)) / 2)).toNat
            ∧ t.rd R.REF_PTP_CNT_DRESP_COUNT 0 = satAdd 32 (s.rd R.REF_PTP_CNT_DRESP_COUNT 0) 1)
      ∧ (m.kind = 3 → s.ptpX.chosen = some m.src → (∀ q t3, s.ptpX.reqT3 = some (q, t3) → q ≠ m.seq) ∨ m.req ≠ s.ptpId →
          exec (.ptpMessageReceived m) s = .next (s.ptpLoop m))
      ∧ (m.kind ≠ 2 → s.ptpX.chosen ≠ some m.src → exec (.ptpMessageReceived m) s = .next (s.ptpLoop m)))
  ∧ (∀ (s : State) (t3 : Nat),
      (s.ptpOn = true → s.txState 104 = 1 → s.ptpX.pair.isSome = true → ptUNCALIBRATED ≤ s.rd R.REF_PTP_STAT_PORT 0 →
        ∃ t, exec (.ptpDelayReqSend t3) s = .next t
        ∧ t.ptpX = { s.ptpX with reqT3 := some (s.ptpX.reqSeq, t3), reqSeq := (s.ptpX.reqSeq + 1) % 65536 }
        ∧ t.outs = .ptp 1 ([s.rd R.REF_PTP_CFG_UNICAST_DREQ 0, t3, s.ptpX.reqSeq] ++ s.ptpTag) :: s.outs ∧ t.regs = s.regs)
      ∧ (s.ptpOn = false ∨ s.txState 104 ≠ 1 ∨ s.ptpX.pair = none → exec (.ptpDelayReqSend t3) s = .next s))
  ∧ (∀ (s : State),
      (ptUNCALIBRATED ≤ s.rd R.REF_PTP_STAT_PORT 0 → ∃ t, exec .ptpTimeout s = .next t ∧ t.rd R.REF_PTP_STAT_PORT 0 = ptLISTENING
        ∧ t.ptpX.chosen = none ∧ t.ptpX.pair = none
        ∧ (s.rd R.REF_PTP_STAT_PORT 0 = ptSLAVE → s.refActive = true → caWAIT ≤ s.candState 7 → t.candState 7 = caLOST))
      ∧ (s.rd R.REF_PTP_STAT_PORT 0 < ptUNCALIBRATED → exec .ptpTimeout s = .next s))
  ∧ (∀ (s : State) (kind addr : Nat) (vlan : Option Nat),
      (s.ptpHears vlan = true → addr = s.rd R.REF_PTP_IP_ADDR 0 → kind ≤ 2 → s.txState 104 = 1 →
        ∃ t, exec (.arpOrIgmpReceived kind addr vlan) s = .next t
        ∧ t.outs = (if kind = 0 then .ptp 2 ([addr, s.rd R.REF_PTP_MAC_HI_MAC 0, s.rd R.REF_PTP_MAC_LO_MAC 0] ++ s.ptpTag)
            else if kind = 1 then .ptp 3 ([addr, 0xE0000181] ++ s.ptpTag) else .ptp 5 ([addr, 0xE0000181] ++ s.ptpTag)) :: s.outs
        ∧ t = { s with outs := t.outs })
      ∧ (s.ptpHears vlan = false ∨ addr ≠ s.rd R.REF_PTP_IP_ADDR 0 ∨ 2 < kind ∨ s.txState 104 ≠ 1 →
          exec (.arpOrIgmpReceived kind addr vlan) s = .next s))

/-- Mailboxes: posting, popping, arming; lock registers (R516, R517, R518, R520, R521, R522, R523, R532). A post that passes its checks appends the
sender's holding words as a notice, counts it and answers SC_OK in TX_RESULT with the next sequence number, and an armed host mailbox then signals and
disarms; one that fails answers its status there and in the response and queues nothing, a full mailbox counting it. MB_POP by the receiver removes
the oldest notices, each a delivery of its sender; more than there are is refused with SC_LEN_EXCEEDS, another principal with SC_PROTECTED. MB_CFG
with ARM arms an empty host mailbox and lets one with notices signal. A read of a free lock takes it for the reader and answers 0; of a held one it
answers the owner and changes nothing. The owner frees it by writing 0, another may not; a core frees it by force, and that is counted. COMPLETION:
under the conditions on the state and the operands that its clauses name and nothing else, exec answers a next state for TX_POST, MB_POP, MB_CFG_ARM,
LOCK_ACQUIRE_READ, LOCK_RELEASE, LOCK_FORCE. -/
def Obligations.MailboxesAndLocks : Prop :=
  (∀ (s : State) (p m : Nat), s.reached p 0x31010 true → m < 16 →
      (check (s.mbPostChecks (senderOf p) m) = .ok → ∃ t, exec (.txPost p m) s = .next t ∧ t.resp = ⟨0, 0⟩
        ∧ t.mb m = s.mb m ++ [⟨p, s.senderEpoch (senderOf p), s.rd R.MBX_TX_LEN_LEN_HINT (senderOf p), s.rd R.MBX_TX_TAG_TAG (senderOf p),
          s.rd R.MBX_TX_PTR_LO_PTR (senderOf p) + 2 ^ 32 * s.rd R.MBX_TX_PTR_HI_PTR (senderOf p)⟩]
        ∧ (∀ j, j ≠ m → t.mb j = s.mb j) ∧ t.rd R.MBX_MB_STAT_COUNT m = (s.mb m).length + 1
        ∧ t.rd R.MBX_MB_CNT_POST_COUNT m = satAdd 32 (s.rd R.MBX_MB_CNT_POST_COUNT m) 1 ∧ t.rd R.MBX_TX_RESULT_STATUS (senderOf p) = 0
        ∧ t.rd R.MBX_TX_RESULT_SEQ (senderOf p) = (s.rd R.MBX_TX_RESULT_SEQ (senderOf p) + 1) % 2 ^ 16
        ∧ (8 ≤ m → m < 12 → s.on R.MBX_MB_CFG_ARM m = true → t.outs = .msix 0 (s.rd R.MBX_MB_CFG_VECTOR m) :: s.outs ∧ t.on R.MBX_MB_CFG_ARM m = false))
      ∧ (check (s.mbPostChecks (senderOf p) m) ≠ .ok → ∃ t, exec (.txPost p m) s = .next t
        ∧ t.resp = ⟨(check (s.mbPostChecks (senderOf p) m)).code, 0⟩ ∧ t.mbq = s.mbq
        ∧ t.rd R.MBX_TX_RESULT_STATUS (senderOf p) = (check (s.mbPostChecks (senderOf p) m)).code
        ∧ (check (s.mbPostChecks (senderOf p) m) = .busy → t.rd R.MBX_MB_CNT_BUSY_COUNT m = satAdd 32 (s.rd R.MBX_MB_CNT_BUSY_COUNT m) 1
            ∧ bitAt (t.rd R.MBX_MB_EVT_FLAGS m) 1 = true)))
  ∧ (∀ (s : State) (p m data : Nat), m < 16 → s.reached p (mbAddr m 0x20) true →
      (receives p m = true → bitsOf data 0 6 ≤ (s.mb m).length → ∃ t, exec (.mbPop p m data) s = .next t ∧ t.resp = ⟨0, 0⟩
        ∧ t.mb m = (s.mb m).drop (bitsOf data 0 6) ∧ (∀ j, j ≠ m → t.mb j = s.mb j)
        ∧ t.rd R.MBX_MB_STAT_COUNT m = ((s.mb m).length - bitsOf data 0 6) % 64
        ∧ (∀ n l, bitsOf data 0 6 = 1 → s.mb m = n :: l → n.prin ≠ pTwin →
            t.rd R.MBX_TX_DELIV_COUNT (senderOf n.prin) = satAdd 32 (s.rd R.MBX_TX_DELIV_COUNT (senderOf n.prin)) 1)
        ∧ (bitAt data 31 = true → 8 ≤ m → m < 12 → t.on R.MBX_MB_CFG_ARM m = decide ((s.mb m).length = bitsOf data 0 6)))
      ∧ (receives p m = true → isPrincipal p = true → (s.mb m).length < bitsOf data 0 6 →
        ∃ t, exec (.mbPop p m data) s = .next t ∧ RefusedWith s t .lenExceeds true)
      ∧ (receives p m = false → isPrincipal p = true → ∃ t, exec (.mbPop p m data) s = .next t ∧ RefusedWith s t .protected' true))
  ∧ (∀ (s : State) (p m data : Nat), 8 ≤ m → m < 12 → s.reached p (mbAddr m 0) true → receives p m = true →
      ∃ t, exec (.mbCfgArm p m data) s = .next t ∧ t.resp = ⟨0, 0⟩ ∧ t.rd R.MBX_MB_CFG_VECTOR m = bitsOf data 16 7 ∧ t.mbq = s.mbq
        ∧ (s.mb m = [] → t.on R.MBX_MB_CFG_ARM m = true ∧ t.outs = s.outs)
        ∧ (s.mb m ≠ [] → t.on R.MBX_MB_CFG_ARM m = false ∧ t.outs = .msix 0 (bitsOf data 16 7) :: s.outs))
  ∧ (∀ (s : State) (p k : Nat), k < 16 → s.reached p (lockAddr k) false →
      (s.rd R.MBX_LK_OWNER k = 0 → ∃ t, exec (.lockAcquireRead p k) s = .next t ∧ t.resp = ⟨0, 0⟩ ∧ t.rd R.MBX_LK_OWNER k = p % 256
        ∧ t.rd R.MBX_LK_STAT_WINS k = satAdd 16 (s.rd R.MBX_LK_STAT_WINS k) 1 ∧ (∀ j, j ≠ k → t.rd R.MBX_LK_OWNER j = s.rd R.MBX_LK_OWNER j))
      ∧ (s.rd R.MBX_LK_OWNER k ≠ 0 → ∃ t, exec (.lockAcquireRead p k) s = .next t ∧ t.resp = ⟨0, s.rd R.MBX_LK_OWNER k⟩
        ∧ t.rd R.MBX_LK_OWNER k = s.rd R.MBX_LK_OWNER k ∧ t.rd R.MBX_LK_STAT_WINS k = s.rd R.MBX_LK_STAT_WINS k))
  ∧ (∀ (s : State) (p k data : Nat), k < 16 → s.reached p (lockAddr k) true → bitsOf data 0 8 = 0 →
      (s.rd R.MBX_LK_OWNER k = p → ∃ t, exec (.lockRelease p k data) s = .next t ∧ t.resp = ⟨0, 0⟩ ∧ t.rd R.MBX_LK_OWNER k = 0
        ∧ (∀ j, j ≠ k → t.rd R.MBX_LK_OWNER j = s.rd R.MBX_LK_OWNER j) ∧ t.rd R.MBX_LK_STAT_FREED k = s.rd R.MBX_LK_STAT_FREED k)
      ∧ (s.rd R.MBX_LK_OWNER k ≠ p → isPrincipal p = true → ∃ t, exec (.lockRelease p k data) s = .next t ∧ RefusedWith s t .protected' true)
      ∧ (isCore p = true → ∃ t, exec (.lockForce p k data) s = .next t ∧ t.resp = ⟨0, 0⟩ ∧ t.rd R.MBX_LK_OWNER k = 0
        ∧ (s.rd R.MBX_LK_OWNER k ≠ 0 → t.rd R.MBX_LK_STAT_FREED k = satAdd 16 (s.rd R.MBX_LK_STAT_FREED k) 1)
        ∧ (∀ j, j ≠ k → t.rd R.MBX_LK_OWNER j = s.rd R.MBX_LK_OWNER j))
      ∧ (isCore p = false → isPrincipal p = true → ∃ t, exec (.lockForce p k data) s = .next t ∧ RefusedWith s t .protected' true))

/-- Messages that firmware serves (R526, R528, R529, R530). Firmware takes the head notice of a mailbox of the pairs: one of a stale epoch is popped and
not acted on; a message of the physical function on MB0 with a known opcode is the one it serves. ECHO, FAULTLOG and TEMP of that message, its block
readable and well-formed and lying in a surface or in host memory, write STATUS SC_OK and the reply payload and queue the reply notice on MB8; with
another opcode or no message they change nothing. A reply that finds MB8 full is tried again, and dropped with a fault record after a second.
COMPLETION: under the conditions on the state and the operands that its clauses name and nothing else, exec answers a next state for MSG_ECHO,
MSG_FAULTLOG, MSG_TEMP, MB_REPLY_RETRY, FIRMWARE_NOTICE_TAKE. -/
def Obligations.FirmwareMessages : Prop :=
  (∀ (s : State) (m : Nat) (host : Option (List Nat)) (n : Notice) (l : List Notice), m < 8 → s.mb m = n :: l → s.fwMsg = none →
      (n.epoch ≠ s.senderEpoch (senderOf n.prin) → ∃ t, exec (.firmwareNoticeTake m host) s = .next t ∧ t.mb m = l ∧ t.fwMsg = none ∧ t.hbm = s.hbm
        ∧ (∀ j, j ≠ m → t.mb j = s.mb j))
      ∧ (∀ b, n.epoch = s.senderEpoch (senderOf n.prin) → m = 0 → n.prin = pPF → s.msgBlock n.ptr host = some b → 1 ≤ leField b 0 2 → leField b 0 2 ≤ 3 →
        ∃ t, exec (.firmwareNoticeTake m host) s = .next t ∧ t.mb 0 = l ∧ t.fwMsg = some n
          ∧ t.rd R.MBX_TX_DELIV_COUNT 3 = satAdd 32 (s.rd R.MBX_TX_DELIV_COUNT 3) 1))
  ∧ (∀ (s : State) (m : Nat) (host : Option (List Nat)), s.mb m = [] ∨ 8 ≤ m ∨ s.fwMsg.isSome = true → exec (.firmwareNoticeTake m host) s = .next s)
  ∧ (∀ (s : State) (host : Option (List Nat)) (n : Notice) (b : List Nat), s.fwMsg = some n → s.msgBlock n.ptr host = some b →
    check (s.mbPostChecks 1 8) = .ok →
      ((leField b 0 2 = 1 → check (s.msgChecks n b ([] : List Nat).length) = .ok → ∃ t u, exec (.msgEcho host) s = .next t ∧ t.fwMsg = none
          ∧ u = (s.msgWrite n.ptr 2 (leBytes 2 0)) ∧ t.hbm = u.hbm
          ∧ t.mb 8 = s.mb 8 ++ [{ n with prin := 2, epoch := s.senderEpoch 1 }] ∧ t.fwReplies = s.fwReplies ∧ (∀ j, j ≠ 8 → t.mb j = s.mb j))
        ∧ (leField b 0 2 ≠ 1 → exec (.msgEcho host) s = .next s))
      ∧ ((leField b 0 2 = 2 → check (s.msgChecks n b (s.flogAfter (leField b 8 8)).length) = .ok → ∃ t u, exec (.msgFaultlog host) s = .next t ∧ t.fwMsg = none
          ∧ u = (s.msgWrite n.ptr 2 (leBytes 2 0)).msgWrite n.ptr 32 (s.flogAfter (leField b 8 8)) ∧ t.hbm = u.hbm
          ∧ t.mb 8 = s.mb 8 ++ [{ n with prin := 2, epoch := s.senderEpoch 1 }] ∧ t.fwReplies = s.fwReplies ∧ (∀ j, j ≠ 8 → t.mb j = s.mb j))
        ∧ (leField b 0 2 ≠ 2 → exec (.msgFaultlog host) s = .next s))
      ∧ ((leField b 0 2 = 3 → check (s.msgChecks n b s.tempBytes.length) = .ok → ∃ t u, exec (.msgTemp host) s = .next t ∧ t.fwMsg = none
          ∧ u = (s.msgWrite n.ptr 2 (leBytes 2 0)).msgWrite n.ptr 32 s.tempBytes ∧ t.hbm = u.hbm
          ∧ t.mb 8 = s.mb 8 ++ [{ n with prin := 2, epoch := s.senderEpoch 1 }] ∧ t.fwReplies = s.fwReplies ∧ (∀ j, j ≠ 8 → t.mb j = s.mb j))
        ∧ (leField b 0 2 ≠ 3 → exec (.msgTemp host) s = .next s)))
  ∧ (∀ (s : State) (host : Option (List Nat)), s.fwMsg = none →
      exec (.msgEcho host) s = .next s ∧ exec (.msgFaultlog host) s = .next s ∧ exec (.msgTemp host) s = .next s)
  ∧ (∀ (s : State) (n : Notice) (c : Nat), s.fwReplies = [(n, c)] →
      (check (s.mbPostChecks 1 8) = .ok → ∃ t, exec .mbReplyRetry s = .next t ∧ t.mb 8 = s.mb 8 ++ [n] ∧ t.fwReplies = [])
      ∧ (check (s.mbPostChecks 1 8) = .busy → c + 1 < 9999 → ∃ t, exec .mbReplyRetry s = .next t ∧ t.mbq = s.mbq ∧ t.fwReplies = [(n, c + 1)])
      ∧ (check (s.mbPostChecks 1 8) = .busy → 9999 ≤ c + 1 → ∃ t, exec .mbReplyRetry s = .next t ∧ t.mbq = s.mbq ∧ t.fwReplies = []
        ∧ FaultLogged s t 0x10 0x0018 .busy false (leBytes 4 8 ++ leBytes 4 n.tag)))
  ∧ (∀ s : State, s.fwReplies = [] → exec .mbReplyRetry s = .next s)

/-- The persistent store: words, the data port, bursts, block protect (R535, R536, R537, R538, R540, R541, R542, R637). In READY a write through the data
window, the data port or the management port to an address outside the factory area and the block-protect range changes those bytes of the SRAM, no
other byte and neither bank; a protected address is refused with SC_PROTECTED, any write in another state with SC_NOT_READY, and nothing changes. The
data port reads a word in every state but RECALL, and moves its principal's address on under the page mode. NVS.CFG sets the range and the mode and
may set the lock; once locked it refuses a change of either. The management port reads bursts, counts the bytes it accepted, and writes all three
fields of NVS.CFG, the lock too; while it is busy it refuses. COMPLETION: under the conditions on the state and the operands that its clauses name and
nothing else, exec answers a next state for NVS_DATA_WRITE, NVS_PORT_DATA_ACCESS, NVS_CFG_WRITE, MGMT_NVS_CFG, NVS_READ, NVS_WRITE. -/
def Obligations.StoreAccess : Prop :=
  (∀ (s : State) (p a data : Nat), a + 4 ≤ storeBytes → s.reached p (0x1000000 + a) true →
      (s.nvsState = nsREADY → s.nvsLocked a = false → ∃ t, exec (.nvsDataWrite p a data) s = .next t ∧ t.resp = ⟨0, 0⟩
        ∧ StorePut s t a (leBytes 4 data) ∧ t.hbm = s.hbm)
      ∧ (s.nvsState = nsREADY → s.nvsLocked a = true → isPrincipal p = true → ∃ t, exec (.nvsDataWrite p a data) s = .next t ∧ RefusedWith s t .protected' true)
      ∧ (s.nvsState ≠ nsREADY → isPrincipal p = true → ∃ t, exec (.nvsDataWrite p a data) s = .next t ∧ RefusedWith s t .notReady true))
  ∧ (∀ (s : State) (p data w : Nat) (wr : Bool), s.rd R.NVS_PORT_ADDR_ADDR p = w → w < 2 ^ 17 → s.reached p 0x40014 wr →
    s.fwRefuses p 0 (0x1080000 + 4 * w) 4 wr = none →
      (wr = false → s.nvsState ≠ nsRECALL → ∃ t, exec (.nvsPortDataAccess p wr data) s = .next t ∧ t.resp = ⟨0, s.nvsWord (4 * w)⟩
        ∧ t.nvs = s.nvs ∧ t.rd R.NVS_PORT_ADDR_ADDR p = nvsNext (s.on R.NVS_CFG_PAGE_MODE 0) w
        ∧ (∀ q, q ≠ p → t.rd R.NVS_PORT_ADDR_ADDR q = s.rd R.NVS_PORT_ADDR_ADDR q))
      ∧ (wr = true → s.nvsState = nsREADY → s.nvsLocked (4 * w) = false → ∃ t, exec (.nvsPortDataAccess p wr data) s = .next t ∧ t.resp = ⟨0, 0⟩
        ∧ StorePut s t (4 * w) (leBytes 4 data) ∧ t.rd R.NVS_PORT_ADDR_ADDR p = nvsNext (s.on R.NVS_CFG_PAGE_MODE 0) w)
      ∧ (wr = true → s.nvsState ≠ nsREADY → ∃ t, exec (.nvsPortDataAccess p wr data) s = .next t ∧ t.resp = ⟨Status.notReady.code, 0⟩ ∧ t.nvs = s.nvs
        ∧ t.rd R.NVS_PORT_ADDR_ADDR p = w))
  ∧ (∀ (s : State) (p data : Nat), s.reached p 0x40000 true →
      (s.on R.NVS_CFG_BP_LOCK 0 = false ∨ (bitsOf data 4 2 = s.rd R.NVS_CFG_BP 0 ∧ bitsOf data 0 1 = s.rd R.NVS_CFG_PAGE_MODE 0) →
        ∃ t, exec (.nvsCfgWrite p data) s = .next t ∧ t.resp = ⟨0, 0⟩ ∧ t.rd R.NVS_CFG_BP 0 = bitsOf data 4 2
          ∧ t.rd R.NVS_CFG_PAGE_MODE 0 = bitsOf data 0 1 ∧ (bitAt data 31 = true → t.on R.NVS_CFG_BP_LOCK 0 = true)
          ∧ (bitAt data 31 = false → t.rd R.NVS_CFG_BP_LOCK 0 = s.rd R.NVS_CFG_BP_LOCK 0) ∧ t.nvs = s.nvs
          ∧ (∀ a, t.nvsLocked a = (decide (a < 0x8000) || decide (bpFirst (bitsOf data 4 2) ≤ a))))
      ∧ (s.on R.NVS_CFG_BP_LOCK 0 = true → isPrincipal p = true → bitsOf data 4 2 ≠ s.rd R.NVS_CFG_BP 0 ∨ bitsOf data 0 1 ≠ s.rd R.NVS_CFG_PAGE_MODE 0 →
        ∃ t, exec (.nvsCfgWrite p data) s = .next t ∧ RefusedWith s t .protected' true))
  ∧ (∀ (s : State) (p : MgmtPort) (a b : Nat), (s.portStat p).busy = false → a < storeBytes →
      (s.nvsState = nsREADY → s.nvsLocked a = false → ∃ t, exec (.nvsWrite p a [b]) s = .next t ∧ StorePut s t a [b]
        ∧ t.portShows p .ok 0x21 false ∧ (t.portStat p).value = 1 ∧ t.regs = s.regs)
      ∧ (s.nvsState = nsREADY → s.nvsLocked a = true → ∃ t, exec (.nvsWrite p a [b]) s = .next t ∧ t.nvs = s.nvs
        ∧ t.portShows p .protected' 0x21 false ∧ (t.portStat p).value = 0)
      ∧ (s.nvsState ≠ nsREADY → ∃ t, exec (.nvsWrite p a [b]) s = .next t ∧ t.nvs = s.nvs ∧ t.portShows p .notReady 0x21 false)
      ∧ (∀ n, p = .mspi → s.nvsState ≠ nsRECALL → ∃ t, exec (.nvsRead p a n) s = .next t ∧ t.outs = .port p (s.burstRead a n) :: s.outs
        ∧ t.portShows p .ok 0x20 false ∧ t.nvs = s.nvs))
  ∧ (∀ (s : State) (p : MgmtPort) (data : Nat),
      ((s.portStat p).busy = false → ∃ t, exec (.mgmtNvsCfg p data) s = .next t ∧ t.portShows p .ok 0x15 false ∧ t.rd R.NVS_CFG_BP 0 = bitsOf data 4 2
        ∧ t.rd R.NVS_CFG_BP_LOCK 0 = bitsOf data 7 1 ∧ t.rd R.NVS_CFG_PAGE_MODE 0 = bitsOf data 0 1 ∧ t.nvs = s.nvs)
      ∧ ((s.portStat p).busy = true → ∃ t, exec (.mgmtNvsCfg p data) s = .next t ∧ (t.portStat p).refused = true ∧ t = { s with ports := t.ports }))

/-- STORE, RECALL, power failure, the margin scan (R543, R544, R545, R546, R548, R551, R552, R554). A STORE or RECALL request is accepted in READY alone,
else refused with SC_NOT_READY; a STORE invalidates the mark of the bank it writes, which is not the newer one. When it ends, that bank holds the SRAM
and is the newer one, the counter and event say so, and the controller is READY, or in HOLD while power still fails after an autostore. A RECALL loads
the newer bank, or the other where the newer is bad, recording that, or zeros where none is complete. Power failing starts the autostore or turns a
STORE into it; its release takes HOLD to READY and the SRAM keeps its content. A scan counts what it rewrote; a bad word of the older bank invalidates
its mark, one of the newer starts a STORE. The newer bank is kept until the mark is written. COMPLETION: under the conditions on the state and the
operands that its clauses name and nothing else, exec answers a next state for NVS_STORE, NVS_RECALL, STORE_COMPLETE, RECALL_COMPLETE, POWER_FAIL,
POWER_FAIL_RELEASE, MARGIN_SCAN, STORE_NOW. -/
def Obligations.StoreCopies : Prop :=
  (∀ (s : State) (p data : Nat), s.reached p 0x40004 true →
      (s.nvsState = nsREADY → ∃ t, exec (.nvsStore p data) s = .next t ∧ t.resp = ⟨0, 0⟩ ∧ t.nvsState = nsSTORE ∧ t.nvs.sram = s.nvs.sram
        ∧ t.nvs.newer ≠ some t.nvs.target ∧ (t.nvs.bank t.nvs.target).mark = none ∧ t.nvs.newer = s.nvs.newer
        ∧ (∀ b, b < 2 → s.nvs.newer = some b → t.nvs.bank b = s.nvs.bank b))
      ∧ (s.nvsState = nsREADY → ∃ t, exec (.nvsRecall p data) s = .next t ∧ t.resp = ⟨0, 0⟩ ∧ t.nvsState = nsRECALL ∧ t.nvs = s.nvs)
      ∧ (s.nvsState ≠ nsREADY → isPrincipal p = true → (∃ t, exec (.nvsStore p data) s = .next t ∧ RefusedWith s t .notReady true)
        ∧ (∃ t, exec (.nvsRecall p data) s = .next t ∧ RefusedWith s t .notReady true)))
  ∧ (∀ (s : State) (p : MgmtPort), (s.portStat p).busy = false →
      (s.nvsState = nsREADY → ∃ t, exec (.storeNow p) s = .next t ∧ t.nvsState = nsSTORE ∧ t.portShows p .ok 0x14 true ∧ t.nvs.sram = s.nvs.sram)
      ∧ (s.nvsState ≠ nsREADY → ∃ t, exec (.storeNow p) s = .next t ∧ t.portShows p .notReady 0x14 false ∧ t.nvs = s.nvs ∧ t.regs = s.regs))
  ∧ (∀ (s : State),
      (s.nvsState = nsSTORE ∨ s.nvsState = nsAUTOSTORE → s.nvs.target < 2 → s.nvs.newer ≠ some s.nvs.target →
        ∃ t, exec .storeComplete s = .next t ∧ (t.nvs.bank s.nvs.target).mem = s.nvs.sram ∧ t.nvs.newer = some s.nvs.target ∧ t.nvs.sram = s.nvs.sram
          ∧ t.nvs.bank (1 - s.nvs.target) = s.nvs.bank (1 - s.nvs.target) ∧ (s.nvs.newer = none → (t.nvs.bank s.nvs.target).mark = some 1)
          ∧ (∀ e ∈ t.ports, e.2.busy = false)
          ∧ (s.nvsState = nsSTORE → t.nvsState = nsREADY ∧ t.rd R.NVS_CNT_STORE_COUNT 0 = satAdd 32 (s.rd R.NVS_CNT_STORE_COUNT 0) 1
              ∧ bitAt (t.rd R.NVS_EVT_FLAGS 0) 0 = true)
          ∧ (s.nvsState = nsAUTOSTORE → t.nvsState = (if s.on R.NVS_STAT_PF 0 = true then nsHOLD else nsREADY)
              ∧ t.rd R.NVS_CNT_AUTO_COUNT 0 = satAdd 32 (s.rd R.NVS_CNT_AUTO_COUNT 0) 1 ∧ bitAt (t.rd R.NVS_EVT_FLAGS 0) 1 = true))
      ∧ (s.nvsState ≠ nsSTORE → s.nvsState ≠ nsAUTOSTORE → exec .storeComplete s = .next s))
  ∧ (∀ (s : State) (bad old : Option Nat),
      (s.nvsState = nsRECALL → s.on R.NVS_STAT_PF 0 = false →
        (∀ b, s.nvs.newer = some b → bad = none → ∃ t, exec (.recallComplete bad old) s = .next t ∧ t.nvs = { s.nvs with sram := (s.nvs.bank b).mem }
          ∧ t.nvsState = nsREADY ∧ t.rd R.NVS_STAT_BLANK 0 = 0 ∧ t.rd R.NVS_STAT_RECALLED_OLD 0 = 0)
        ∧ (∀ b a m, s.nvs.newer = some b → b < 2 → bad = some a → old = none → (s.nvs.bank (1 - b)).mark = some m →
          ∃ t, exec (.recallComplete bad old) s = .next t ∧ t.nvs = { s.nvs with sram := (s.nvs.bank (1 - b)).mem } ∧ t.nvsState = nsREADY
            ∧ t.rd R.NVS_STAT_RECALLED_OLD 0 = 1 ∧ bitAt (t.rd R.NVS_EVT_FLAGS 0) 2 = true ∧ FaultLogged s t 0 0x0017 .eccUncorr false ([b] ++ leBytes 4 a))
        ∧ (s.nvs.newer = none → ∃ t, exec (.recallComplete bad old) s = .next t ∧ t.nvs = { s.nvs with sram := [] } ∧ t.nvsState = nsREADY
            ∧ t.rd R.NVS_STAT_BLANK 0 = 1))
      ∧ (s.nvsState ≠ nsRECALL → exec (.recallComplete bad old) s = .next s))
  ∧ (∀ (s : State), ∃ t u, exec .powerFail s = .next t ∧ exec .powerFailRelease s = .next u ∧ t.rd R.NVS_STAT_PF 0 = 1 ∧ u.rd R.NVS_STAT_PF 0 = 0
      ∧ t.nvs.sram = s.nvs.sram ∧ u.nvs = s.nvs ∧ (s.nvsState = nsREADY → t.nvsState = nsAUTOSTORE ∧ t.nvs.newer ≠ some t.nvs.target)
      ∧ (s.nvsState = nsSTORE → t.nvsState = nsAUTOSTORE ∧ t.nvs = s.nvs) ∧ (s.nvsState = nsRECALL → t.nvsState = nsRECALL ∧ t.nvs = s.nvs)
      ∧ (s.nvsState = nsHOLD → u.nvsState = nsREADY) ∧ (s.nvsState ≠ nsHOLD → u.nvsState = s.nvsState))
  ∧ (∀ (s : State) (n : Nat),
      (∃ t, exec (.marginScan n none none) s = .next t ∧ t.rd R.NVS_SCAN_REFRESHED 0 = min n 65535 ∧ t.nvs = { s.nvs with scanAt := some s.now }
        ∧ (0 < n → bitAt (t.rd R.NVS_EVT_FLAGS 0) 3 = true) ∧ t.nvsState = s.nvsState)
      ∧ (∀ a, s.nvs.newer = some 1 → ∃ t, exec (.marginScan n (some a) none) s = .next t ∧ t.nvs.bankX.mark = none ∧ t.nvs.bankY = s.nvs.bankY
          ∧ t.nvsState = s.nvsState ∧ t.nvs.sram = s.nvs.sram ∧ FaultLogged s t 0 0x0017 .eccUncorr false ([0] ++ leBytes 4 a))
      ∧ (∀ a, s.nvs.newer = some 0 → s.nvsState = nsREADY → ∃ t, exec (.marginScan n (some a) none) s = .next t ∧ t.nvsState = nsSTORE
          ∧ t.nvs.target = 1 ∧ t.nvs.bankX = s.nvs.bankX ∧ t.nvs.sram = s.nvs.sram ∧ FaultLogged s t 0 0x0017 .eccUncorr false ([0] ++ leBytes 4 a)))

/-- Pairing: PAIR, IDENT, HELLO, the state copy, crossfeed streams (R571, R572, R573, R575, R577, R580, R582). TWN.CTL with PAIR 1 on a card that is SOLO
takes KIND and goes to HELLO; with PAIR 0 it ends the pair; a writer other than the management port, the cores and the physical function is refused.
RESYNC takes DIVERGED to SYNC. IDENT and HELLO are sent and taken in the states the rules name, and nowhere else. A HELLO with a cause fails the
pairing with that cause; one without makes the card the primary in SYNC, the secondary in MIRROR and SYNC, or JOINED; while a mode transition is
pending, or where a card of a MIRROR pair is in neither IDLE nor RUN, it changes nothing. No HELLO in time fails it with cause 1, a failed copy with
cause 7. The primary sends the copy at the cut; a secondary applies its items and keeps the decisions that come before its end. A stream opens on a
JOINED pair while it fits, and is refused otherwise. COMPLETION: under the conditions on the state and the operands that its clauses name and nothing
else, exec answers a next state for TWN_PAIR_WRITE, TWN_RESYNC, IDENT_RECEIVED, HELLO_RECEIVED, HELLO_TIMEOUT, STATE_COPY_CUT, STATE_COPY_COMPLETE,
DECISION_RECORD_RECEIVED, XF_CFG_WRITE, IDENT_SEND, HELLO_SEND, MEMORY_STREAM_RECEIVED. -/
def Obligations.TwinPairing : Prop :=
  (∀ (s : State) (p data : Nat), s.reached p 0x60000 true →
      (twnMay p → bitAt data 31 = true → s.on R.TWN_CTL_PAIR 0 = false → s.pair = prSOLO → ∃ t, exec (.twnPairWrite p data) s = .next t
        ∧ t.resp = ⟨0, 0⟩ ∧ t.on R.TWN_CTL_PAIR 0 = true ∧ t.rd R.TWN_CTL_KIND 0 = bitsOf data 30 1 ∧ t.pair = prHELLO)
      ∧ (twnMay p → bitAt data 31 = false → s.on R.TWN_CTL_PAIR 0 = true → s.modeCode ≠ mMIRROR → ∃ t, exec (.twnPairWrite p data) s = .next t
        ∧ t.resp = ⟨0, 0⟩ ∧ t.rd R.TWN_CTL_PAIR 0 = 0 ∧ t.rd R.TWN_STAT_ROLE 0 = 0 ∧ t.pair = prSOLO ∧ t.xfeed = [] ∧ t.recs = [] ∧ t.modeCode = s.modeCode)
      ∧ (¬twnMay p → isPrincipal p = true → ∃ t, exec (.twnPairWrite p data) s = .next t ∧ RefusedWith s t .protected' true)
      ∧ (twnMay p → bitAt data 31 = true → s.pair = prDIVERGED → ∃ t, exec (.twnResync p data) s = .next t ∧ t.pair = prSYNC
        ∧ t.twnX.copyDone = false ∧ t.twnX.fresh = true ∧ t.recs = []))
  ∧ (∀ (s : State),
      (s.twin = true → s.bundleUp = true → ∃ t, exec .identSend s = .next t ∧ t = { s with outs := t.outs }
        ∧ t.outs = .twin 1 [s.twnX.nonce, s.fuses.variant, s.fuses.stepping] :: s.outs)
      ∧ (s.twin = false ∨ s.bundleUp = false → exec .identSend s = .next s)
      ∧ (s.twin = true → s.on R.TWN_CTL_PAIR 0 = true → s.on R.TWN_STAT_IDENT 0 = true → s.pair = prHELLO ∨ s.pair = prLOST ∨ s.pair = prLONE →
          ∃ t l, exec .helloSend s = .next t ∧ t = { s with outs := t.outs }
            ∧ t.outs = .twin 10 ([s.rd R.TWN_CTL_KIND 0, s.modeCode, b2n s.pins.side] ++ s.fwDigest32 ++ l) :: s.outs)
      ∧ (s.on R.TWN_CTL_PAIR 0 = false ∨ s.on R.TWN_STAT_IDENT 0 = false ∨ (s.pair ≠ prHELLO ∧ s.pair ≠ prLOST ∧ s.pair ≠ prLONE) →
          exec .helloSend s = .next s))
  ∧ (∀ (s : State) (nonce variant stepping : Nat),
      (s.twin = true → ∃ t, exec (.identReceived nonce variant stepping) s = .next t ∧ t.on R.TWN_STAT_IDENT 0 = true
        ∧ t.rd R.TWN_PEER_NONCE_NONCE 0 = nonce % 2 ^ 32 ∧ t.twnX.nonceSeen = true
        ∧ (s.twnX.nonceSeen = false ∨ s.rd R.TWN_PEER_NONCE_NONCE 0 = nonce % 2 ^ 32 → t.pair = s.pair)
        ∧ (s.twnX.nonceSeen = true → s.rd R.TWN_PEER_NONCE_NONCE 0 ≠ nonce % 2 ^ 32 →
            t.rd R.MBX_EPOCH_B_TWIN 0 = (s.rd R.MBX_EPOCH_B_TWIN 0 + 1) % 256 ∧ (s.paired = true → s.standby = false → t.pair = prLOST)))
      ∧ (s.twin = false → exec (.identReceived nonce variant stepping) s = .next s))
  ∧ (∀ (s : State) (h : Hello), s.twin = true → s.on R.TWN_CTL_PAIR 0 = true → s.on R.TWN_STAT_IDENT 0 = true → s.pair = prHELLO →
    s.modePending = false →
      (s.helloCause h ≠ 0 → s.modeCode ≠ mMIRROR → ∃ t, exec (.helloReceived h) s = .next t ∧ t.rd R.TWN_STAT_LAST_CAUSE 0 = s.helloCause h
        ∧ t.pair = prSOLO ∧ t.on R.TWN_CTL_PAIR 0 = true ∧ bitAt (t.rd R.TWN_EVT_FLAGS 0) 1 = true ∧ t.modeCode = s.modeCode)
      ∧ (s.helloCause h = 0 → h.kind = 0 → s.modeCode = mRUN → h.mode = mIDLE → ∃ t, exec (.helloReceived h) s = .next t ∧ t.pair = prSYNC
        ∧ t.rd R.TWN_STAT_ROLE 0 = 0 ∧ t.modeCode = mRUN ∧ t.twnX.copyDone = false)
      ∧ (s.helloCause h = 0 → h.kind = 0 → s.modeCode = mIDLE → h.mode = mIDLE → s.pins.side = false → ∃ t, exec (.helloReceived h) s = .next t
        ∧ t.pair = prSYNC ∧ t.rd R.TWN_STAT_ROLE 0 = 0 ∧ t.modeCode = mIDLE ∧ t.twnX.copyDone = false)
      ∧ (s.helloCause h = 0 → h.kind = 0 → (s.modeCode ≠ mIDLE ∧ s.modeCode ≠ mRUN) ∨ (h.mode ≠ mIDLE ∧ h.mode ≠ mRUN) →
        exec (.helloReceived h) s = .next s)
      ∧ (s.helloCause h = 0 → h.kind = 0 → s.modeCode = mIDLE → h.mode = mRUN ∨ (h.mode = mIDLE ∧ s.pins.side = true) → ∃ t, exec (.helloReceived h) s = .next t
        ∧ t.pair = prSYNC ∧ t.rd R.TWN_STAT_ROLE 0 = 1 ∧ t.modeCode = mMIRROR ∧ t.decOwn = false)
      ∧ (s.helloCause h = 0 → h.kind = 1 → ∃ t, exec (.helloReceived h) s = .next t ∧ t.pair = prJOINED ∧ t.modeCode = s.modeCode))
  ∧ (∀ (s : State) (h : Hello), s.modePending = true → exec (.helloReceived h) s = .next s)
  ∧ (∀ (s : State),
      (s.pair = prHELLO → s.modeCode ≠ mMIRROR → ∃ t, exec .helloTimeout s = .next t ∧ t.rd R.TWN_STAT_LAST_CAUSE 0 = 1 ∧ t.pair = prSOLO)
      ∧ (s.pair ≠ prHELLO → exec .helloTimeout s = .next s)
      ∧ (s.active = true → s.pair = prSYNC → s.on R.TWN_STAT_IDENT 0 = true → ∃ t, exec .stateCopyCut s = .next t
          ∧ t = { s with outs := .copy s.copyItems :: s.outs })
      ∧ (s.active = true → s.pair = prINSTEP → s.on R.TWN_STAT_IDENT 0 = true → ∃ t l, exec .stateCopyCut s = .next t ∧ t.pair = prSYNC
          ∧ t.outs.head? = some (.copy l))
      ∧ (s.active = false ∨ s.paired = false ∨ s.on R.TWN_STAT_IDENT 0 = false → exec .stateCopyCut s = .next s)
      ∧ (s.comparing → s.pair = prSYNC → s.twnX.copyDone = false → s.standby = false → s.modeCode ≠ mMIRROR →
          (∃ t, exec (.stateCopyComplete false) s = .next t ∧ t.pair = prSOLO ∧ t.rd R.TWN_STAT_LAST_CAUSE 0 = 7)
          ∧ (s.cmpTlns = [] → ∃ t, exec (.stateCopyComplete true) s = .next t ∧ t.pair = prINSTEP ∧ bitAt (t.rd R.TWN_EVT_FLAGS 0) 0 = true)
          ∧ (s.cmpTlns ≠ [] → s.twnX.good = [] → ∃ t, exec (.stateCopyComplete true) s = .next t ∧ t.pair = prSYNC ∧ t.twnX.copyDone = true))
      ∧ (s.pair ≠ prSYNC ∨ s.twnX.copyDone = true → ∀ ok, exec (.stateCopyComplete ok) s = .next s))
  ∧ (∀ (s : State) (key nth ofs b : Nat) (bytes : List Nat),
      (s.standby = true → s.paired = true → s.twnX.fresh = false → s.localBase key nth = some b →
        ∃ t, exec (.memoryStreamReceived [.mem key nth ofs bytes]) s = .next t ∧ t.hbm = memWriteBytes s.hbm (b + ofs) bytes ∧ t.objs = s.objs ∧ t.pair = s.pair)
      ∧ (s.standby = false ∨ s.paired = false → exec (.memoryStreamReceived [.mem key nth ofs bytes]) s = .next s))
  ∧ (∀ (s : State) (tln fsn th i v : Nat),
      (s.standby = true → s.pair = prSYNC → s.twnX.copyDone = false → s.twnX.buffer = [] → ∃ t,
        exec (.decisionRecordReceived ⟨tln, fsn, .param th i v⟩) s = .next t ∧ t.twnX.buffer = [⟨tln, fsn, .param th i v⟩] ∧ t.regs = s.regs)
      ∧ (s.standby = true → s.pair = prINSTEP → th < 160 → i < 32 → ∃ t, exec (.decisionRecordReceived ⟨tln, fsn, .param th i v⟩) s = .next t
        ∧ t.rdk R.CUE_PARAM_VALUE th i = v % 2 ^ 32 ∧ t = { s with regs := t.regs })
      ∧ (s.standby = false → exec (.decisionRecordReceived ⟨tln, fsn, .param th i v⟩) s = .next s))
  ∧ (∀ (s : State) (p k data f st : Nat) (g : Bool), k < 8 → s.reached p (0x60100 + 4 * k) true → twnMay p → s.rdk R.TWN_XF_CFG_STATE 0 k = 0 →
      (bitAt data 31 = true → s.pair = prJOINED → is4320 f = false → g = false → s.xfUsed + xfCost f st ≤ s.xfBudget * 1000000 →
        ∃ t, exec (.xfCfgWrite p k data f st g) s = .next t ∧ t.resp = ⟨0, 0⟩ ∧ t.rdk R.TWN_XF_CFG_STATE 0 k = 1 ∧ t.rdk R.TWN_XF_CFG_EN 0 k = 1
          ∧ t.rdk R.TWN_XF_CFG_PEER_PIPE 0 k = data % 128 ∧ (∀ j, j ≠ k → t.rdk R.TWN_XF_CFG_STATE 0 j = s.rdk R.TWN_XF_CFG_STATE 0 j))
      ∧ (bitAt data 31 = true → s.pair ≠ prJOINED → is4320 f = false → g = false → ∃ t, exec (.xfCfgWrite p k data f st g) s = .next t
          ∧ t.resp = ⟨0, 0⟩ ∧ t.rdk R.TWN_XF_CFG_STATE 0 k = 0 ∧ t.rdk R.TWN_XF_CFG_EN 0 k = 1)
      ∧ (bitAt data 31 = true → isPrincipal p = true → is4320 f = true ∨ g = true →
        ∃ t, exec (.xfCfgWrite p k data f st g) s = .next t ∧ RefusedWith s t .lenExceeds true)
      ∧ (bitAt data 31 = true → isPrincipal p = true → s.pair = prJOINED → is4320 f = false → g = false → s.xfBudget * 1000000 < s.xfUsed + xfCost f st →
        ∃ t, exec (.xfCfgWrite p k data f st g) s = .next t ∧ RefusedWith s t .bandwidth true))

/-- Line compare, evidence, verdict, time records (R573, R579, R584, R586, R587, R588). A peer's line record is kept until the own one comes; equal
records cancel and change nothing else; differing ones count a mismatch, and in IN_STEP the first of an episode fills TWN.VERDICT and raises MISMATCH,
in SYNC the frame does not match. A missing record counts a gap and begins an episode in the same way. The peer's evidence is stored; the own summary
is sent. Eight ms after an episode began the verdict is loaded and TWIN_FAULT raised: STANDBY and LINK make the pair DIVERGED, ACTIVE makes the
standby take at the next switch line, INPUT and BOTH change nothing. A time record gives REFC8 its time and SKEW its value. A card that does not
compare does nothing. DEC_WAIT_EXPIRY of a timeline whose frame still waits for its END record counts DEC_LATE, records the evidence LINK, and does
the work of the switch line by the card's own decisions; with no frame waiting it changes nothing. COMPLETION: under the conditions on the state and
the operands that its clauses name and nothing else, exec answers a next state for DEC_WAIT_EXPIRY, LINE_RECORD_RECEIVED, CMP_GAP_TIMEOUT,
EVIDENCE_RECEIVED, VERDICT_TIMER, TIME_RECORD, EVIDENCE_SUMMARY_SEND. -/
def Obligations.TwinCompare : Prop :=
  (∀ (s : State) (pipe line fsn a l : Nat),
      (s.comparing → s.twnX.own.find? (LineCrc.same ⟨pipe, line, fsn % 4096, a, l⟩) = none →
        ∃ t, exec (.lineRecordReceived pipe line fsn a l) s = .next t
          ∧ t = { s with twnX := { s.twnX with peer := s.twnX.peer ++ [⟨pipe, line, fsn % 4096, a, l⟩] } })
      ∧ (∀ r, s.comparing → s.twnX.own.find? (LineCrc.same ⟨pipe, line, fsn % 4096, a, l⟩) = some r →
        (r.lcrc = l → r.acrc = a → ∃ t, exec (.lineRecordReceived pipe line fsn a l) s = .next t
          ∧ t = { s with twnX := { s.twnX with own := s.twnX.own.erase r } })
        ∧ (r.lcrc ≠ l ∨ r.acrc ≠ a → s.pair = prINSTEP → s.twnX.episode = none → ∃ t e, exec (.lineRecordReceived pipe line fsn a l) s = .next t
          ∧ t.rd R.TWN_CNT_MISMATCH_COUNT 0 = satAdd R.TWN_CNT_MISMATCH_COUNT.width (s.rd R.TWN_CNT_MISMATCH_COUNT 0) 1
          ∧ t.twnX.episode = some e ∧ e.pipe = r.pipe ∧ e.line = r.line ∧ e.audio = decide (r.acrc ≠ a)
          ∧ t.rd R.TWN_VERDICT_PIPE 0 = r.pipe % 2 ^ R.TWN_VERDICT_PIPE.width ∧ t.rd R.TWN_VERDICT_LINE 0 = r.line % 2 ^ R.TWN_VERDICT_LINE.width
          ∧ bitAt (t.rd R.TWN_EVT_FLAGS 0) 2 = true ∧ t.pair = prINSTEP)
        ∧ (r.lcrc ≠ l ∨ r.acrc ≠ a → s.pair = prSYNC → ∃ t, exec (.lineRecordReceived pipe line fsn a l) s = .next t
          ∧ s.rd R.OUT_TMG_FMT_TLN r.pipe ∈ t.twnX.missed ∧ t.twnX.episode = s.twnX.episode))
      ∧ (¬s.comparing → exec (.lineRecordReceived pipe line fsn a l) s = .next s))
  ∧ (∀ (s : State),
      (s.twnX.own = [] → exec .cmpGapTimeout s = .next s)
      ∧ (∀ r l, s.twnX.own = r :: l → ∃ t, exec .cmpGapTimeout s = .next t ∧ t.twnX.own = l
          ∧ t.rd R.TWN_CNT_CMP_GAP_COUNT 0 = satAdd R.TWN_CNT_CMP_GAP_COUNT.width (s.rd R.TWN_CNT_CMP_GAP_COUNT 0) 1
          ∧ (s.pair = prINSTEP → t.twnX.episode.isSome = true)))
  ∧ (∀ (s : State) (bit arg : Nat),
      (s.twin = true → ∃ t, exec (.evidenceReceived bit arg) s = .next t ∧ t = { s with evid := (s.now, bit % 8, arg, true) :: s.evid })
      ∧ (s.twin = false → exec (.evidenceReceived bit arg) s = .next s)
      ∧ (s.twin = true → s.on R.TWN_STAT_IDENT 0 = true → ∃ t, exec .evidenceSummarySend s = .next t
          ∧ t = { s with outs := .twin 13 [s.evidBits (s.now - 1000000) false] :: s.outs })
      ∧ (s.twin = false ∨ s.on R.TWN_STAT_IDENT 0 = false → exec .evidenceSummarySend s = .next s))
  ∧ (∀ (s : State),
      (s.twnX.episode = none → exec .verdictTimer s = .next s)
      ∧ (∀ e, s.twnX.episode = some e → ∃ t, exec .verdictTimer s = .next t ∧ t.rd R.TWN_VERDICT_VERDICT 0 = s.verdictOf e
          ∧ t.rd R.TWN_EVIDENCE_OWN 0 = s.evidBits e.since false % 2 ^ R.TWN_EVIDENCE_OWN.width ∧ t.twnX.episode = none
          ∧ bitAt (t.rd R.TWN_EVT_FLAGS 0) 3 = true
          ∧ (s.verdictOf e = 2 ∨ s.verdictOf e = 4 → s.pair = prINSTEP → s.on R.TWN_CFG_AUTO_RESYNC 0 = false → t.pair = prDIVERGED)
          ∧ (s.verdictOf e = 3 ∨ s.verdictOf e = 5 → t.pair = s.pair ∧ t.twnX.takeAt = s.twnX.takeAt)
          ∧ (∀ k, s.verdictOf e = 1 → s.standby = true → s.pair = prINSTEP → s.coNext 100000 = some k →
              t.twnX.takeAt = some (k, false) ∧ t.outs.head? = some (.twin 14 [k, 0]) ∧ t.pair = prINSTEP)))
  ∧ (∀ (s : State) (peer rtt : Nat) (skew : Int),
      (s.twin = true → s.on R.TWN_STAT_IDENT 0 = true → ∃ t, exec (.timeRecord peer rtt skew) s = .next t ∧ t.rd R.TWN_SKEW_NS 0 = sat32 skew
        ∧ (t.cand 8).mark = some (peer + rtt / 2, s.now) ∧ t.refX.rtt = some rtt ∧ t.twnX.skewHigh = decide (100 < skew ∨ skew < -100)
        ∧ (100 < skew ∨ skew < -100 → s.twnX.skewHigh = false → bitAt (t.rd R.TWN_EVT_FLAGS 0) 9 = true)
        ∧ (-100 ≤ skew → skew ≤ 100 → t.rd R.TWN_EVT_FLAGS 0 = s.rd R.TWN_EVT_FLAGS 0 ∧ t.outs = .twin 3 [s.epoch] :: s.outs))
      ∧ (s.twin = false ∨ s.on R.TWN_STAT_IDENT 0 = false → exec (.timeRecord peer rtt skew) s = .next s))
  ∧ (∀ (s : State) (t : Nat),
      (∀ k, s.swPend.find? (fun e => e.1 == t) = some (t, k) → ∃ m u : State, exec (.decWaitExpiry t) s = .next u
        ∧ m = { s with swPend := s.swPend.filter (fun e => e != (t, k)), regs := m.regs, evid := m.evid, outs := m.outs, decOwn := true }
        ∧ m.rd R.TWN_CNT_DEC_LATE_COUNT 0 = satAdd R.TWN_CNT_DEC_LATE_COUNT.width (s.rd R.TWN_CNT_DEC_LATE_COUNT 0) 1
        ∧ (∀ (g : Fld) (i j : Nat), Fld.key g ≠ Fld.key R.TWN_CNT_DEC_LATE_COUNT ∨ i ≠ 0 ∨ j ≠ 0 → m.rdk g i j = s.rdk g i j)
        ∧ (s.twin = true → m.evid = (s.now, 6, 0, false) :: s.evid)
        ∧ u = { m.switchWork t with decOwn := decide ((m.switchWork t).modeCode ≠ mMIRROR) })
      ∧ (s.swPend.find? (fun e => e.1 == t) = none → exec (.decWaitExpiry t) s = .next s))

/-- Yield, takeover, loss of the peer, notices over the link (R568, R571, R578, R588, R589, R591). YIELD on the primary of an IN_STEP pair sends it to the
standby; on a SOLO card it sets TAKE_INH. The standby that receives it takes the outputs at the next switch line it can, telling the primary, or at
once where the changeover timeline does not run: RUN, PRIMARY, FAILOVER. The primary that receives TAKE hands over there, or at once. PEER_ALIVE and
the net are shown; a standby that comes on air otherwise takes at the next switch line. A loss of the peer clears IDENT, drops the notices to it and
takes the pair to LOST. A notice leaves for the peer once it has queued it; one that comes in is queued and answered; a completion is counted for the
sender. COMPLETION: under the conditions on the state and the operands that its clauses name and nothing else, exec answers a next state for
TWN_YIELD, TWIN_TAKE_RECEIVED, PEER_LOSS_TIMEOUT, PEER_ALIVE_CHANGE, ACTIVE_NET_CHANGE, TWIN_MB_FORWARD, YIELD_RECEIVED, TWIN_NOTICE_RECEIVED,
TWIN_COMPLETION_RECEIVED. -/
def Obligations.TwinTakeover : Prop :=
  (∀ (s : State) (p data : Nat), s.reached p 0x60000 true → twnMay p → bitsOf data 29 1 = s.rd R.TWN_CTL_TAKE_INH 0 → bitAt data 27 = false →
      (s.active = true → s.pair = prINSTEP → s.modeCode = mRUN → s.on R.TWN_CTL_PAIR 0 = true → bitAt data 31 = true → ∃ t, exec (.twnYield p data) s = .next t
        ∧ t.outs.head? = some (.twin 15 []) ∧ t.pair = prINSTEP ∧ t.rd R.TWN_STAT_ROLE 0 = 0 ∧ t.resp = ⟨0, 0⟩)
      ∧ (s.twin = true → s.pair = prSOLO → s.on R.TWN_CTL_PAIR 0 = false → bitAt data 31 = false → ∃ t, exec (.twnYield p data) s = .next t
        ∧ t.on R.TWN_CTL_TAKE_INH 0 = true ∧ (s.pins.side = false → t.pins.netLow = false) ∧ t.pair = prSOLO ∧ t.resp = ⟨0, 0⟩))
  ∧ (∀ (s : State),
      (∀ k, s.standby = true → s.twnX.takeAt = none → s.coNext 100000 = some k → ∃ t, exec .yieldReceived s = .next t
        ∧ t.twnX.takeAt = some (k, s.pair == prINSTEP) ∧ t.outs = .twin 14 [k, b2n (s.pair == prINSTEP)] :: s.outs ∧ t.regs = s.regs)
      ∧ (s.standby = true → s.twnX.takeAt = none → s.coNext 100000 = none → s.modePending = false → ∃ t, exec .yieldReceived s = .next t ∧ t.modeCode = mRUN
        ∧ t.rd R.TWN_STAT_ROLE 0 = 0 ∧ t.pair = (if s.pair = prINSTEP then prINSTEP else prLONE) ∧ bitAt (t.rd R.TWN_EVT_FLAGS 0) 4 = true)
      ∧ (s.standby = false ∨ s.twnX.takeAt.isSome = true → exec .yieldReceived s = .next s))
  ∧ (∀ (s : State) (fsn : Nat) (y : Bool),
      (s.active = true → s.modeCode = mRUN → s.tlnRuns s.coTln = true → ∃ t, exec (.twinTakeReceived fsn y) s = .next t
        ∧ t = { s with twnX := { s.twnX with handAt := some (fsn % 2 ^ 32, y) } })
      ∧ (s.active = true → s.modeCode = mRUN → s.tlnRuns s.coTln = false → s.modePending = false → ∃ t, exec (.twinTakeReceived fsn y) s = .next t ∧ t.modeCode = mMIRROR
        ∧ t.rd R.TWN_STAT_ROLE 0 = 1 ∧ t.pair = (if y = true then prINSTEP else prFAULTY) ∧ bitAt (t.rd R.TWN_EVT_FLAGS 0) 4 = true)
      ∧ (s.active = false ∨ s.modeCode ≠ mRUN → exec (.twinTakeReceived fsn y) s = .next s))
  ∧ (∀ (s : State) (b : Bool), ∃ t u, exec (.peerAliveChange b) s = .next t ∧ exec (.activeNetChange b) s = .next u ∧ t.pins.aliveHigh = b
      ∧ (s.twin = true → t.rd R.TWN_STAT_PEER_ALIVE 0 = b2n b ∧ (s.pins.side = false → t.pins.netLow = t.activeWanted) ∧ t.pair = s.pair)
      ∧ (s.twin = true → s.standby = false → u.pins.netLow = b ∧ u.rd R.TWN_STAT_NET_LOW 0 = b2n b ∧ u.rd R.TWN_STAT_ON_AIR 0 = b2n (b != s.pins.side))
      ∧ (∀ k, s.twin = true → s.standby = true → s.on R.TWN_STAT_ON_AIR 0 = false → b ≠ s.pins.side → s.twnX.takeAt = none → s.coNext 0 = some k →
          u.twnX.takeAt = some (k, false)) ∧ (s.twin = false → u = s))
  ∧ (∀ (s : State),
      (s.twin = true → ∃ t, exec .peerLossTimeout s = .next t ∧ t.rd R.TWN_STAT_IDENT 0 = 0 ∧ t.mbAir = [] ∧ (∀ j, j < 4 → t.mb (12 + j) = [])
        ∧ (∀ j, j < 12 → t.mb j = s.mb j) ∧ (s.paired = true → s.standby = false → t.pair = prLOST ∧ bitAt (t.rd R.TWN_EVT_FLAGS 0) 6 = true)
        ∧ (s.pair = prSOLO → t.pair = prSOLO))
      ∧ (s.twin = false → exec .peerLossTimeout s = .next s))
  ∧ (∀ (s : State) (j : Nat) (full : Bool) (n : Notice) (l : List Notice), s.mb (12 + j) = n :: l →
      (j < 4 → s.twin = true → s.on R.TWN_STAT_IDENT 0 = true → full = false → ∃ t, exec (.twinMbForward j full) s = .next t ∧ t.mb (12 + j) = l
        ∧ t.mbAir = s.mbAir ++ [(j, n)] ∧ t.outs = .twin 11 [j, n.len, n.tag, n.ptr] :: s.outs ∧ t.rd R.MBX_MB_STAT_COUNT (12 + j) = l.length % 64)
      ∧ (s.on R.TWN_STAT_IDENT 0 = false ∨ full = true → exec (.twinMbForward j full) s = .next s))
  ∧ (∀ (s : State) (j len tag ptr : Nat), s.twin = true → s.on R.TWN_STAT_IDENT 0 = true → j < 4 →
      (check (s.mbPostChecks 4 (twinMb j)) = .ok → ∃ t, exec (.twinNoticeReceived j len tag ptr) s = .next t
        ∧ t.mb (twinMb j) = s.mb (twinMb j) ++ [⟨pTwin, s.senderEpoch 4, len % 65536, tag % 2 ^ 32, ptr % 2 ^ 64⟩]
        ∧ t.outs.head? = some (.twin 12 [j, 0]))
      ∧ (check (s.mbPostChecks 4 (twinMb j)) ≠ .ok → ∃ t, exec (.twinNoticeReceived j len tag ptr) s = .next t ∧ t.mbq = s.mbq
        ∧ t.outs.head? = some (.twin 12 [j, (check (s.mbPostChecks 4 (twinMb j))).code])))
  ∧ (∀ (s : State) (j tag : Nat) (ok : Bool) (n : Notice), n.prin ≠ pTwin →
      (s.mbAir = [(j, n)] → n.tag = tag → ∃ t, exec (.twinCompletionReceived j ok tag) s = .next t ∧ t.mbAir = []
        ∧ (ok = true → t.rd R.MBX_TX_DELIV_COUNT (senderOf n.prin) = satAdd 32 (s.rd R.MBX_TX_DELIV_COUNT (senderOf n.prin)) 1)
        ∧ (ok = false → t.rd R.MBX_TX_DROP_COUNT (senderOf n.prin) = satAdd 32 (s.rd R.MBX_TX_DROP_COUNT (senderOf n.prin)) 1
            ∧ t.rd R.MBX_TX_DROP_TAG_TAG (senderOf n.prin) = tag % 2 ^ 32))
      ∧ (s.mbAir = [] → exec (.twinCompletionReceived j ok tag) s = .next s))

/-- Anti-rollback and attestation (R607, R608, R613, R614, R615). SVN_COMMIT of a value up to the running SVN, with no burn in progress, starts a burn to
it when it lies above the counter and does nothing when it does not; a value above the running SVN is refused with SC_PROTECTED, one above 64 with
SC_DECODE, any while a burn runs with SC_BUSY. Each bit burnt raises the fuses' counter by one; the one that reaches the target ends the burn and
raises COMMITTED; without a burn nothing changes. ATTEST that passes its checks waits for the security unit, another completes with its status; when
the oldest report is done it is written over its block and its command completes OK with RESULT 384. COMPLETION: under the conditions on the state and
the operands that its clauses name and nothing else, exec answers a next state for ATTEST, SVN_COMMIT, ROLLBACK_BIT_BURN, ATTEST_REPORT_DONE. -/
def Obligations.SecurityCommands : Prop :=
  (∀ (s : State) (p data : Nat), s.reached p 0x70010 true → isCore p = true ∨ p = pPF →
      (bitsOf data 0 7 ≤ s.rd R.SEC_FW_SVN_SVN 0 → bitsOf data 0 7 ≤ 64 → s.on R.SEC_ROLLBACK_BURN 0 = false →
        ∃ t, exec (.svnCommit p data) s = .next t ∧ t.resp = ⟨0, 0⟩ ∧ t.fuses = s.fuses
          ∧ (s.rd R.SEC_ROLLBACK_COUNT 0 < bitsOf data 0 7 → t.on R.SEC_ROLLBACK_BURN 0 = true ∧ t.burnTo = bitsOf data 0 7)
          ∧ (bitsOf data 0 7 ≤ s.rd R.SEC_ROLLBACK_COUNT 0 → t.rd R.SEC_ROLLBACK_BURN 0 = s.rd R.SEC_ROLLBACK_BURN 0 ∧ t.burnTo = s.burnTo))
      ∧ (s.rd R.SEC_FW_SVN_SVN 0 < bitsOf data 0 7 → bitsOf data 0 7 ≤ 64 → ∃ t, exec (.svnCommit p data) s = .next t ∧ RefusedWith s t .protected' true)
      ∧ (64 < bitsOf data 0 7 → ∃ t, exec (.svnCommit p data) s = .next t ∧ RefusedWith s t .decode true)
      ∧ (bitsOf data 0 7 ≤ s.rd R.SEC_FW_SVN_SVN 0 → bitsOf data 0 7 ≤ 64 → s.on R.SEC_ROLLBACK_BURN 0 = true →
        ∃ t, exec (.svnCommit p data) s = .next t ∧ RefusedWith s t .busy true))
  ∧ (∀ (s : State),
      (s.on R.SEC_ROLLBACK_BURN 0 = true → s.fuses.rollback < 64 → s.fuses.lost = [] → ∃ t, exec .rollbackBitBurn s = .next t
        ∧ t.fuses = { s.fuses with rollback := s.fuses.rollback + 1 } ∧ t.rd R.SEC_ROLLBACK_COUNT 0 = s.fuses.rollback + 1
        ∧ (s.fuses.rollback + 1 < s.burnTo → t.on R.SEC_ROLLBACK_BURN 0 = true ∧ t.burnTo = s.burnTo)
        ∧ (s.burnTo ≤ s.fuses.rollback + 1 → t.rd R.SEC_ROLLBACK_BURN 0 = 0 ∧ t.burnTo = 0 ∧ bitAt (t.rd R.SEC_EVT_FLAGS 0) 0 = true))
      ∧ (s.on R.SEC_ROLLBACK_BURN 0 = false → exec .rollbackBitBurn s = .next s))
  ∧ (∀ (s : State) (f : Nat) (c : Taken) (pay : List Nat), s.taking f 0x90 c → s.attQ.any (fun e => e.1 == f) = false →
      (check (s.admChecks f c 384 384 pay true true) = .ok → ∃ t, exec (.attest f pay) s = .next t
        ∧ t = { s with attQ := s.attQ ++ [(f, pay.take 32)] })
      ∧ (check (s.admChecks f c 384 384 pay true true) ≠ .ok → ∃ t, exec (.attest f pay) s = .next t
        ∧ Completed t f c (check (s.admChecks f c 384 384 pay true true)) 0 0 ∧ t.attQ = s.attQ))
  ∧ (∀ (s : State) (f : Nat) (c : Taken) (nonce : List Nat) (l : List (Nat × List Nat)),
      (s.attQ = (f, nonce) :: l → s.taking f 0x90 c → ∃ t, exec .attestReportDone s = .next t ∧ t.attQ = l ∧ Completed t f c .ok 0 384
        ∧ .hostWrite f c.payAddr (s.report nonce) ∈ t.outs)
      ∧ (s.attQ = [] → exec .attestReportDone s = .next s))

/-- Domain requests and the management port (R146, R493, R590, R600, R617, R618, R619, R635, R636, R637). A request for the selected domain that passes
its checks: a reset puts it in RESET and counts it, and does nothing where it is in RESET or OFF; ON wakes one that sleeps and resets one that is OFF;
SLEEP stops one that is ON and OFF switches one off; one that fails is refused with its status. DOMAIN_RESET_END turns it ON. Over the management port
a reset does the same, and 0x1FF resets the device. ID_READ, FLOG_READ, STATUS and TEMP return their bytes; the forwarded register accesses are those
of principal 0x01; BYPASS sets a bypass that passes its checks; TWIN_YIELD releases the net; a void transaction loads SC_DECODE. The status and opcode
stand in STATUS; while an operation is under way another is refused. COMPLETION: under the conditions on the state and the operands that its clauses
name and nothing else, exec answers a next state for REGISTER_WRITE, COUNTER_LOW_READ, MGMT_BYPASS, DOMAIN_RESET, DOMAIN_RESET_END, DOMAIN_ON,
DOMAIN_SLEEP, DOMAIN_OFF, MGMT_ID_READ, FLOG_READ, MGMT_STATUS, MGMT_TEMP, MGMT_DOMAIN_RESET, TWIN_YIELD, MGMT_REG_READ, MGMT_REG_WRITE,
VOID_TRANSACTION. -/
def Obligations.DomainsAndPort : Prop :=
  (∀ (s : State) (p d : Nat), s.rd R.MGT_DOM_SEL_DOMAIN 0 = d → s.reached p 0x10014 true →
      (check (s.domChecks d 0) = .ok → ∃ t, exec (.domainReset p) s = .next t ∧ t.resp = ⟨0, 0⟩
        ∧ ((s.domain d).st = 2 ∨ (s.domain d).st = 3 → t.domain d = s.domain d)
        ∧ ((s.domain d).st = 0 → (t.domain d).st = 3 ∧ (t.domain d).resets = satAdd 8 (s.domain d).resets 1 ∧ bitAt (t.rd R.MGT_EVT_FLAGS 0) 0 = true))
      ∧ (check (s.domChecks d 1) = .ok → ∃ t, exec (.domainOn p) s = .next t ∧ t.resp = ⟨0, 0⟩
        ∧ ((s.domain d).st = 1 → t.domain d = { s.domain d with st := 0 } ∧ t.objs = s.objs)
        ∧ ((s.domain d).st = 2 → (t.domain d).st = 0 ∧ (t.domain d).resets = satAdd 8 (s.domain d).resets 1)
        ∧ ((s.domain d).st = 3 → t.domain d = s.domain d))
      ∧ (check (s.domChecks d 2) = .ok → ∃ t, exec (.domainSleep p) s = .next t ∧ t.resp = ⟨0, 0⟩ ∧ t.objs = s.objs ∧ t.hbm = s.hbm ∧ t.jobs = s.jobs
        ∧ ((s.domain d).st = 0 → t.domain d = { s.domain d with st := 1 }) ∧ ((s.domain d).st ≠ 0 → t.domain d = s.domain d))
      ∧ (check (s.domChecks d 3) = .ok → ∃ t, exec (.domainOff p) s = .next t ∧ t.resp = ⟨0, 0⟩
        ∧ ((s.domain d).st = 0 → (t.domain d).st = 2 ∧ (t.domain d).forced = false) ∧ ((s.domain d).st ≠ 0 → t.domain d = s.domain d))
      ∧ (isPrincipal p = true → check (s.domChecks d 0) ≠ .ok → ∃ t, exec (.domainReset p) s = .next t ∧ RefusedWith s t (check (s.domChecks d 0)) true)
      ∧ (isPrincipal p = true → check (s.domChecks d 3) ≠ .ok → ∃ t, exec (.domainOff p) s = .next t ∧ RefusedWith s t (check (s.domChecks d 3)) true))
  ∧ (∀ (s : State) (d : Nat),
      ((s.domain d).st = 3 → s.pins.railsOk = true → d ≠ 5 → ∃ t, exec (.domainResetEnd d) s = .next t ∧ t.domain d = { s.domain d with st := 0 }
        ∧ (∀ e, e ≠ d → t.domain e = s.domain e))
      ∧ ((s.domain d).st ≠ 3 ∨ s.pins.railsOk = false → exec (.domainResetEnd d) s = .next s))
  ∧ (∀ (s : State) (p : MgmtPort) (d : Nat), (s.portStat p).busy = false →
      (d ≠ 0x1FF → check (s.domChecks d 0) = .ok → (s.domain d).st = 0 → ∃ t, exec (.mgmtDomainReset p d) s = .next t ∧ (t.domain d).st = 3
        ∧ t.portShows p .ok 0x12 false)
      ∧ (d ≠ 0x1FF → check (s.domChecks d 0) ≠ .ok → ∃ t, exec (.mgmtDomainReset p d) s = .next t ∧ t = { s with ports := t.ports }
        ∧ t.portShows p (check (s.domChecks d 0)) 0x12 false)
      ∧ (d = 0x1FF → s.isHot = false → ∃ t, exec (.mgmtDomainReset p d) s = .next t ∧ t.modeCode = mBOOT ∧ t.rd R.MGT_RST_CAUSE_CAUSE 0 = 2
        ∧ t.portShows p .ok 0x12 false ∧ t.nvs = s.nvs))
  ∧ (∀ (s : State) (p : MgmtPort) (i : Nat), ∃ t u v w, exec (.mgmtIdRead p) s = .next t ∧ exec (.flogRead p i) s = .next u
      ∧ exec (.mgmtStatus p) s = .next v ∧ exec (.mgmtTemp p) s = .next w
      ∧ t = { s with outs := .port p s.idBlock :: s.outs } ∧ s.idBlock.take 4 = [0xA0, 0xE7, 0x96, 0] ∧ s.idBlock.length = 32
      ∧ u = { s with outs := u.outs } ∧ v = { s with outs := .port p (s.statusBytes p) :: s.outs } ∧ (s.statusBytes p).length = 8
      ∧ w = { s with outs := .port p (leBytes 2 (s.rd R.MGT_TEMP_TJ 0)) :: s.outs }
      ∧ (i < s.rd R.MGT_FLOG_WR_INDEX 0 → s.rd R.MGT_FLOG_WR_INDEX 0 ≤ i + 1024 → u.outs = .port p (s.flogBytes i) :: s.outs)
      ∧ (s.rd R.MGT_FLOG_WR_INDEX 0 ≤ i → u.outs = .port p ([255, 255, 255, 255] ++ List.replicate 28 0) :: s.outs))
  ∧ (∀ (s : State) (p : MgmtPort) (a data : Nat), (s.portStat p).busy = false → s.lockedOut pMgmt a = false →
      (∃ t u, exec (.mgmtRegRead p a) s = .next t ∧ exec (.counterLowRead pMgmt a 4 0) s = .next u ∧ (t.portStat p).value = u.resp.data
        ∧ t = { u with ports := t.ports } ∧ t.portShows p (statusOf u.resp.status) 0x30 false)
      ∧ (∃ t u, exec (.mgmtRegWrite p a data) s = .next t ∧ exec (.registerWrite pMgmt a 4 data 0) s = .next u
        ∧ t = { u with ports := t.ports } ∧ t.portShows p (statusOf u.resp.status) 0x31 false))
  ∧ (∀ (s : State) (p : MgmtPort) (g src : Nat), (s.portStat p).busy = false → g < 256 → src < 128 →
      (s.limpLatch = false → s.bypassChecks g src true = .ok → ∃ t, exec (.mgmtBypass p g (src + 128)) s = .next t ∧ t.on R.LNE_BYPASS_STAT_ACTIVE g = true
        ∧ t.rd R.LNE_BYPASS_STAT_SRC g = src ∧ t.portShows p .ok 0x11 false)
      ∧ (s.limpLatch = false → s.bypassChecks g src true ≠ .ok → ∃ t, exec (.mgmtBypass p g (src + 128)) s = .next t ∧ t = { s with ports := t.ports }
        ∧ t.portShows p (s.bypassChecks g src true) 0x11 false)
      ∧ (s.limpLatch = true → ∃ t, exec (.mgmtBypass p g src) s = .next t ∧ t = { s with ports := t.ports } ∧ t.portShows p .domainOff 0x11 false))
  ∧ (∀ (s : State) (p : MgmtPort) (op : Nat),
      ((s.portStat p).busy = false → s.twin = true → s.pins.side = false → ∃ t, exec (.twinYield p) s = .next t ∧ t.pins.netLow = false
        ∧ t.portShows p .ok 0x13 false ∧ (s.pair = prSOLO → t.on R.TWN_CTL_TAKE_INH 0 = true))
      ∧ ((s.portStat p).busy = false → s.twin = false → ∃ t, exec (.twinYield p) s = .next t ∧ t = { s with ports := t.ports }
        ∧ t.portShows p .unitAbsent 0x13 false)
      ∧ ((s.portStat p).busy = true → ∃ t, exec (.twinYield p) s = .next t ∧ t = { s with ports := t.ports } ∧ (t.portStat p).refused = true)
      ∧ (∃ t, exec (.voidTransaction p op) s = .next t ∧ t = { s with ports := t.ports } ∧ (t.portStat p).status = Status.decode.code
        ∧ (t.portStat p).opcode = op % 256 ∧ (t.portStat p).busy = (s.portStat p).busy))

/-- Power-up and PERST_N (R599, R602, R603, R604, R605, R622, R626, R627, R628, R644). POWER_UP and POWER_LOST leave the state of reset but the fuses, the
banks of the store and the pins. Rails release the domains or hold them in reset at step 0. A good fuse load is step 1; a bad one ends BOOT in LIMP
with cause 1. A valid slot runs; a slot that fails is recorded and the other tried; when both have failed BOOT ends in LIMP with cause 2. HBM training
and the lockstep check are the next steps; failed channels and a mismatch on both pairs end BOOT in LIMP with causes 3 and 4, on one pair it stops
that pair. With every step done and the store recalled, firmware ready enters IDLE. Out of their place in BOOT these change nothing. PERST_N low holds
the host interface in reset, high releases it after the fuse load. COMPLETION: under the conditions on the state and the operands that its clauses
name and nothing else, exec answers a next state for POWER_UP, FUSE_LOAD_DONE, IMAGE_CHECK_DONE, HBM_TRAIN_DONE, LOCKSTEP_CHECK_DONE, FIRMWARE_READY,
PERST_RISE, PERST_FALL, POWER_LOST, RAILS_IN_RANGE. -/
def Obligations.PowerUpSequence : Prop :=
  (∀ (s : State) (b : Nat) (side : Bool), s.on R.SEC_ROLLBACK_BURN 0 = false → ∃ t u, exec (.powerUp b side) s = .next t ∧ exec .powerLost s = .next u
      ∧ t = { State.reset with
          fuses := s.fuses, pins := t.pins, nvs := { s.nvs with sram := [], scanAt := none }, outs := s.outs,
          free := t.free, pending := s.pending }
      ∧ u = { t with pins := u.pins } ∧ t.pins.boardId = b % 16 ∧ t.pins.side = side ∧ t.pins.railsOk = true ∧ u.pins.railsOk = false
      ∧ t.modeCode = mBOOT ∧ (side = false → t.pins.netLow = false))
  ∧ (∀ (s : State) (ok vcap : Bool), ∃ t, exec (.railsInRange ok vcap) s = .next t ∧ t.rd R.NVS_STAT_VCAP_OK 0 = b2n vcap
      ∧ (s.modeCode = mBOOT → s.bootStep = 0 → t.pins.railsOk = ok ∧ ∀ d, d ∈ allDomains → (t.domain d).st = if ok = true then 0 else 3)
      ∧ (s.modeCode ≠ mBOOT ∨ s.bootStep ≠ 0 → t = { s with regs := t.regs }))
  ∧ (∀ (s : State) (row : Nat) (lost : List Nat),
      (s.modeCode = mBOOT → bitAt s.bootStep 0 = false → s.pins.railsOk = true →
        (∃ t, exec (.fuseLoadDone true row lost) s = .next t ∧ t.on R.SEC_BOOT_STAT_FUSE_OK 0 = true ∧ bitAt t.bootStep 0 = true ∧ t.fuses.lost = []
          ∧ t.rd R.SEC_ROLLBACK_COUNT 0 = s.fuses.rollback % 128 ∧ t.modeCode = mBOOT)
        ∧ (∃ t, exec (.fuseLoadDone false row lost) s = .next t ∧ t.modeCode = mLIMP ∧ t.rd R.MGT_MODE_LIMP_CAUSE 0 = 1 ∧ t.fuses.badRow = some row))
      ∧ (s.modeCode ≠ mBOOT ∨ bitAt s.bootStep 0 = true ∨ s.pins.railsOk = false → ∀ ok, exec (.fuseLoadDone ok row lost) s = .next s))
  ∧ (∀ (s : State) (a b : Option (List Nat)) (r d g : Bool) (ms n c : Nat), s.modeCode = mBOOT → bitAt s.bootStep 0 = true → bitAt s.bootStep 1 = false →
    s.pins.railsOk = true → s.slotNext a b = n → n < 2 → s.slotCode (if n = 0 then a else b) r d g = c →
      (c = 1 → ∃ t h, exec (.imageCheckDone a b r d g ms) s = .next t ∧ (if n = 0 then a else b) = some h ∧ t.rd R.SEC_BOOT_STAT_SLOT 0 = n
        ∧ t.rd R.SEC_FW_SVN_SVN 0 = leField h 12 4 ∧ t.rd R.SEC_FW_VERSION_VERSION 0 = leField h 16 4 ∧ t.imgDigest = (h.drop 96).take 64
        ∧ bitAt t.bootStep 1 = true ∧ t.modeCode = mBOOT)
      ∧ (c ≠ 1 → s.slotTried (1 - n) = false → ∃ t, exec (.imageCheckDone a b r d g ms) s = .next t ∧ t.modeCode = mBOOT ∧ t.bootStep = s.bootStep
        ∧ t.slotTried n = true ∧ t.slotTried (1 - n) = false ∧ t.slotNext a b = 1 - n)
      ∧ (c ≠ 1 → s.slotTried (1 - n) = true → ∃ t, exec (.imageCheckDone a b r d g ms) s = .next t ∧ t.modeCode = mLIMP
        ∧ t.rd R.MGT_MODE_LIMP_CAUSE 0 = 2))
  ∧ (∀ (s : State) (ch : List (Nat × Nat)) (ms : Nat) (a b : Bool),
      (s.modeCode = mBOOT → bitAt s.bootStep 0 = true → bitAt s.bootStep 2 = false → s.pins.railsOk = true →
        (ch = [] → ∃ t, exec (.hbmTrainDone ch ms) s = .next t ∧ bitAt t.bootStep 2 = true ∧ t.rd R.MGT_BOOT_TIME_TRAIN_MS 0 = min ms 63 ∧ t.modeCode = mBOOT)
        ∧ (ch ≠ [] → ∃ t, exec (.hbmTrainDone ch ms) s = .next t ∧ t.modeCode = mLIMP ∧ t.rd R.MGT_MODE_LIMP_CAUSE 0 = 3))
      ∧ (s.modeCode = mBOOT → bitsOf s.bootStep 0 4 = 7 → s.pairStop = 0 →
        (a = true ∨ b = true → ∃ t, exec (.lockstepCheckDone a b) s = .next t ∧ t.modeCode = mBOOT ∧ bitAt t.bootStep 3 = true
          ∧ bitAt t.pairStop 0 = !a ∧ bitAt t.pairStop 1 = !b)
        ∧ (a = false → b = false → ∃ t, exec (.lockstepCheckDone a b) s = .next t ∧ t.modeCode = mLIMP ∧ t.rd R.MGT_MODE_LIMP_CAUSE 0 = 4))
      ∧ (s.modeCode = mBOOT → bitsOf s.bootStep 0 4 = 15 → s.nvsState ≠ nsRECALL → ∃ t, exec (.firmwareReady ms) s = .next t ∧ t.modeCode = mIDLE
          ∧ t.rd R.MGT_BOOT_TIME_TOTAL_MS 0 = min ms 1023 ∧ t.refX.idleAt.isSome = true
          ∧ (∀ k, k < 16 → t.rdk R.SEC_FW_DIGEST_WORD 0 k = leVal (((sha512 s.imgDigest).drop (4 * k)).take 4)))
      ∧ (s.modeCode ≠ mBOOT → exec (.hbmTrainDone ch ms) s = .next s ∧ exec (.lockstepCheckDone a b) s = .next s ∧ exec (.firmwareReady ms) s = .next s))
  ∧ (∀ (s : State), ∃ t u, exec .perstRise s = .next t ∧ exec .perstFall s = .next u ∧ t.pins.perstHigh = true ∧ u.pins.perstHigh = false
      ∧ (s.on R.SEC_BOOT_STAT_FUSE_OK 0 = true → (s.domain 5).st = 3 → (t.domain 5).st = 0)
      ∧ (s.on R.SEC_BOOT_STAT_FUSE_OK 0 = false → t = { s with pins := t.pins })
      ∧ ((s.domain 5).st = 0 → (u.domain 5).st = 3 ∧ (u.domain 5).resets = satAdd 8 (s.domain 5).resets 1))

/-- Modes, device reset, lockstep, SERVICE tests, temperature (R62, R67, R68, R526, R621, R629, R630, R631, R632, R633, R634). MODE_SET of the physical
function to RUN or SERVICE from IDLE, or to IDLE from RUN or SERVICE, begins the transition and does not complete yet; one the modes do not allow
completes with SC_MODE. When the transition is done the mode is the target and the command completes OK with it; while outputs still run it is not.
DEVICE_RESET with its key enters BOOT with cause 3, keeping fuses and banks, or waits while the die is hot; another key is refused. A pair that splits
stops; when both have, LIMP. A reset pair rejoins. SERVICE tests start in SERVICE alone and report. A sample shows the hottest sensor and warns once.
A trip and FORCE_LIMP enter LIMP with causes 8 and 7. A reset of the test logic frees what debug holds. COMPLETION: under the conditions on the state
and the operands that its clauses name and nothing else, exec answers a next state for MODE_SET, MODE_TRANSITION_DONE, DEVICE_RESET, LOCKSTEP_SPLIT,
SVC_TEST_START, SVC_TEST_DONE, TEMP_SAMPLE, THERMAL_TRIP, FORCE_LIMP, JTAG_TEST_LOGIC_RESET, PAIR_REJOIN. -/
def Obligations.ModeChanges : Prop :=
  (∀ (s : State) (c : Taken) (pay : List Nat), s.taking 0 0x80 c → s.modePending = false → allZero (c.inl.drop 1) = true →
    check (s.admChecks 0 c 0 0 pay true true) = .ok →
      ((s.modeCode = mIDLE → leField c.inl 0 1 = mRUN ∨ leField c.inl 0 1 = mSERVICE → ∃ t, exec (.modeSet 0 pay) s = .next t
          ∧ t.modeCode = mIDLE ∧ t.modePending = true ∧ t.rd R.MGT_MODE_TARGET 0 = leField c.inl 0 1 ∧ t.modeFrom = 1 ∧ t.taken = s.taken)
      ∧ (s.modeCode = mRUN ∨ s.modeCode = mSERVICE → leField c.inl 0 1 = mIDLE → ∃ t, exec (.modeSet 0 pay) s = .next t
          ∧ t.modeCode = s.modeCode ∧ t.modePending = true ∧ t.rd R.MGT_MODE_TARGET 0 = mIDLE ∧ t.modeFrom = 1)
      ∧ (s.modeCode = mRUN ∨ s.modeCode = mSERVICE → leField c.inl 0 1 = mRUN ∨ leField c.inl 0 1 = mSERVICE →
          ∃ t, exec (.modeSet 0 pay) s = .next t ∧ Completed t 0 c .mode 0 0 ∧ t.modeCode = s.modeCode ∧ t.modePending = false)
      ∧ (s.modeCode ≠ mLIMP → leField c.inl 0 1 = mLIMP → ∃ t, exec (.modeSet 0 pay) s = .next t ∧ Completed t 0 c .ok 0 mLIMP
          ∧ t.modeCode = mLIMP ∧ t.rd R.MGT_MODE_LIMP_CAUSE 0 = 7)))
  ∧ (∀ (s : State) (f : Nat) (c : Taken), s.modePending = true →
      (s.modeFrom = f + 1 → s.taking f 0x80 c → s.rd R.MGT_MODE_TARGET 0 = mRUN ∨ s.rd R.MGT_MODE_TARGET 0 = mSERVICE → s.modeCode = mIDLE →
        ∃ t, exec .modeTransitionDone s = .next t ∧ t.modeCode = s.rd R.MGT_MODE_TARGET 0 ∧ t.modePending = false
          ∧ Completed t f c .ok 0 (s.rd R.MGT_MODE_TARGET 0) ∧ bitAt (t.rd R.MGT_EVT_FLAGS 0) 2 = true)
      ∧ (s.rd R.MGT_MODE_TARGET 0 = mIDLE → s.outputsRun = true → exec .modeTransitionDone s = .next s))
  ∧ (∀ (s : State) (p data : Nat), s.reached p 0x10014 true →
      (bitsOf data 16 8 = 0x5A → s.isHot = false → s.on R.SEC_ROLLBACK_BURN 0 = false → ∃ t, exec (.deviceReset p data) s = .next t ∧ t.modeCode = mBOOT
        ∧ t.rd R.MGT_RST_CAUSE_CAUSE 0 = 3 ∧ t.fuses = s.fuses ∧ t.nvs = s.nvs ∧ t.objs = State.reset.objs ∧ t.hbm = [] ∧ t.epoch = State.reset.epoch)
      ∧ (bitsOf data 16 8 = 0x5A → s.isHot = true → ∃ t, exec (.deviceReset p data) s = .next t ∧ t.pins.coolWait = 3 ∧ t.modeCode = s.modeCode)
      ∧ (bitsOf data 16 8 ≠ 0x5A → isPrincipal p = true → ∃ t, exec (.deviceReset p data) s = .next t ∧ RefusedWith s t .decode true))
  ∧ (∀ (s : State) (k : Nat) (ecc : Option Nat),
      (k < 2 → bitAt s.pairStop k = false → bitAt s.pairStop (1 - k) = false → ∃ t, exec (.lockstepSplit k ecc) s = .next t ∧ bitAt t.pairStop k = true
        ∧ t.modeCode = s.modeCode)
      ∧ (k < 2 → bitAt s.pairStop k = false → bitAt s.pairStop (1 - k) = true → s.modeCode ≠ mLIMP → ∃ t, exec (.lockstepSplit k ecc) s = .next t
        ∧ t.modeCode = mLIMP ∧ t.rd R.MGT_MODE_LIMP_CAUSE 0 = 5)
      ∧ (2 ≤ k ∨ bitAt s.pairStop k = true → exec (.lockstepSplit k ecc) s = .next s)
      ∧ (s.pairStop = 1 → (s.domain 0x10).resets ≠ 0 → (s.domain 0x10).st = 0 → ∃ t, exec .pairRejoin s = .next t ∧ t = { s with pairStop := 0 })
      ∧ (s.pairStop = 0 → exec .pairRejoin s = .next s))
  ∧ (∀ (s : State) (p data d : Nat) (ok : Bool) (ch : List (Nat × Nat)), s.rd R.MGT_DOM_SEL_DOMAIN 0 = d → isDomain d = true → s.domPresent d = true →
      (s.reached p 0x10030 true → svcFits (bitsOf data 24 4) d = true → s.domIdle d = true → s.svcRun = none →
        (s.modeCode = mSERVICE → ∃ t, exec (.svcTestStart p data) s = .next t ∧ t.resp = ⟨0, 0⟩ ∧ t.rd R.MGT_SVC_STATE 0 = 1
          ∧ t.svcRun = some (bitsOf data 24 4, d))
        ∧ (s.modeCode ≠ mSERVICE → isPrincipal p = true → ∃ t, exec (.svcTestStart p data) s = .next t ∧ RefusedWith s t .mode true))
      ∧ (s.svcRun = some (2, d) → ∃ t, exec (.svcTestDone ok ch) s = .next t ∧ t.rd R.MGT_SVC_STATE 0 = (if ok = true then 2 else 3) ∧ t.svcRun = none
          ∧ t.dom = s.dom)
      ∧ (s.svcRun = none → exec (.svcTestDone ok ch) s = .next s))
  ∧ (∀ (s : State) (i tj : Nat),
      (i < 16 → s.pins.coolWait = 0 → ∃ t, exec (.tempSample i tj) s = .next t ∧ tget 0 t.temps i = tj % 65536 ∧ t.modeCode = s.modeCode
        ∧ t.rd R.MGT_TEMP_TJ 0 = twos 16 t.hottest.2 ∧ t.rd R.MGT_TEMP_SENSOR 0 = t.hottest.1 % 2 ^ R.MGT_TEMP_SENSOR.width
        ∧ (t.isHot = true → s.warned = false → t.warned = true ∧ bitAt (t.rd R.MGT_EVT_FLAGS 0) 3 = true
            ∧ FaultLogged s t 0 0x0015 .ok false (leBytes 2 (twos 16 t.hottest.2) ++ [t.hottest.1])))
      ∧ (16 ≤ i → exec (.tempSample i tj) s = .next s)
      ∧ (s.modeCode ≠ mLIMP → ∃ t, exec (.thermalTrip i tj) s = .next t ∧ t.modeCode = mLIMP ∧ t.rd R.MGT_MODE_LIMP_CAUSE 0 = 8
          ∧ t.pins.thermTrip = true ∧ t.limpLatch = true))
  ∧ (∀ (s : State) (p : MgmtPort) (arg : Nat), (s.portStat p).busy = false →
      (arg = 0x4C494D50 → s.modeCode ≠ mLIMP → ∃ t, exec (.forceLimp p arg) s = .next t ∧ t.modeCode = mLIMP ∧ t.rd R.MGT_MODE_LIMP_CAUSE 0 = 7
        ∧ t.portShows p .ok 0x10 false)
      ∧ (arg ≠ 0x4C494D50 → ∃ t, exec (.forceLimp p arg) s = .next t ∧ t = { s with ports := t.ports } ∧ t.portShows p .decode 0x10 false)
      ∧ (arg = 0x4C494D50 → s.modeCode = mLIMP → ∃ t, exec (.forceLimp p arg) s = .next t ∧ t = { s with ports := t.ports }
        ∧ t.portShows p .mode 0x10 false))
  ∧ (∀ (s : State), ∃ t, exec .jtagTestLogicReset s = .next t ∧ t.rd R.MBX_EPOCH_B_DEBUG 0 = (s.rd R.MBX_EPOCH_B_DEBUG 0 + 1) % 256
      ∧ t.rd R.MBX_TX_TAG_TAG 5 = 0 ∧ t.rd R.MBX_TX_PTR_LO_PTR 5 = 0 ∧ (∀ k, k < 16 → t.rd R.MBX_LK_OWNER k = if s.rd R.MBX_LK_OWNER k ≠ 0 ∧
          senderOf (s.rd R.MBX_LK_OWNER k) = 5 then 0 else s.rd R.MBX_LK_OWNER k))
end

