-- ==== Sys2Proof/Laws/Tab.lean ====
section
/-! SUPPORT. What a sparse table lists after an entry is set or removed, and that each change keeps the keys rising. None of the reading laws
needs the table to be sorted. -/

namespace Sys2Proof.Machine

variable {α : Type}

@[simp] theorem tfind_nil (k : Nat) : tfind ([] : Tab α) k = none := rfl

/-- A key that was set is listed with the value set. -/
@[simp] theorem tfind_tput_same (t : Tab α) (k : Nat) (v : α) : tfind (tput t k v) k = some v := by
  induction t with
  | nil => simp [tput, tfind]
  | cons e t ih =>
    obtain ⟨a, x⟩ := e
    by_cases h1 : k < a
    · simp [tput, tfind, h1]
    · by_cases h2 : a = k
      · simp [tput, tfind, h2]
      · simp [tput, tfind, h1, h2, ih]

/-- Setting one key leaves what every other key lists. -/
theorem tfind_tput_ne (t : Tab α) {k k' : Nat} (v : α) (h : k' ≠ k) : tfind (tput t k v) k' = tfind t k' := by
  induction t with
  | nil => simp [tput, tfind, Ne.symm h]
  | cons e t ih =>
    obtain ⟨a, x⟩ := e
    by_cases h1 : k < a
    · simp [tput, tfind, h1, Ne.symm h]
    · by_cases h2 : a = k
      · subst h2; simp [tput, tfind, Ne.symm h]
      · simp [tput, tfind, h1, h2, ih]

/-- A key that was removed is not listed. -/
@[simp] theorem tfind_tdel_same (t : Tab α) (k : Nat) : tfind (tdel t k) k = none := by
  induction t with
  | nil => rfl
  | cons e t ih =>
    obtain ⟨a, x⟩ := e
    by_cases h : a = k
    · simpa [tdel, h] using ih
    · simpa [tdel, h, tfind] using ih

/-- Removing one key leaves what every other key lists. -/
theorem tfind_tdel_ne (t : Tab α) {k k' : Nat} (h : k' ≠ k) : tfind (tdel t k) k' = tfind t k' := by
  induction t with
  | nil => rfl
  | cons e t ih =>
    obtain ⟨a, x⟩ := e
    by_cases h1 : a = k
    · subst h1; simpa [tdel, tfind, Ne.symm h] using ih
    · by_cases h2 : a = k'
      · subst h2; simp [tdel, tfind, h]
      · simpa [tdel, h1, tfind, h2] using ih

@[simp] theorem tget_tput_same (d : α) (t : Tab α) (k : Nat) (v : α) : tget d (tput t k v) k = v := by simp [tget]

theorem tget_tput_ne (d : α) (t : Tab α) {k k' : Nat} (v : α) (h : k' ≠ k) : tget d (tput t k v) k' = tget d t k' := by
  simp [tget, tfind_tput_ne t v h]

@[simp] theorem tget_tdel_same (d : α) (t : Tab α) (k : Nat) : tget d (tdel t k) k = d := by simp [tget]

theorem tget_tdel_ne (d : α) (t : Tab α) {k k' : Nat} (h : k' ≠ k) : tget d (tdel t k) k' = tget d t k' := by
  simp [tget, tfind_tdel_ne t h]

/-- A key reads as the value it was set to, listed or not. -/
@[simp] theorem tget_tset_same [DecidableEq α] (d : α) (t : Tab α) (k : Nat) (v : α) : tget d (tset d t k v) k = v := by
  by_cases h : v = d <;> simp [tset, h]

/-- Setting one key leaves what every other key reads as. -/
theorem tget_tset_ne [DecidableEq α] (d : α) (t : Tab α) {k k' : Nat} (v : α) (h : k' ≠ k) :
    tget d (tset d t k v) k' = tget d t k' := by
  by_cases h1 : v = d <;> simp [tset, h1, tget_tdel_ne, tget_tput_ne, h]

/-! ### The canonical form -/

/-- The keys above `lo`, rising: the form `tsorted` checks, said by recursion on one entry. -/
def risesFrom (lo : Nat) : Tab α → Bool
  | [] => true
  | (a, _) :: t => decide (lo ≤ a) && risesFrom (a + 1) t

theorem risesFrom_mono {lo lo' : Nat} (t : Tab α) (h : lo' ≤ lo) (hr : risesFrom lo t = true) : risesFrom lo' t = true := by
  cases t with
  | nil => rfl
  | cons e t => simp [risesFrom] at hr ⊢; exact ⟨by omega, hr.2⟩

theorem tsorted_cons (a : Nat) (x : α) (t : Tab α) : tsorted ((a, x) :: t) = risesFrom (a + 1) t := by
  induction t generalizing a x with
  | nil => rfl
  | cons e t ih => obtain ⟨b, y⟩ := e; simp only [tsorted, risesFrom, ih, Nat.add_one_le_iff]

theorem tsorted_iff (t : Tab α) : tsorted t = risesFrom 0 t := by
  cases t with
  | nil => rfl
  | cons e t => obtain ⟨a, x⟩ := e; simp [tsorted_cons, risesFrom]

theorem risesFrom_tput {lo : Nat} (t : Tab α) (k : Nat) (v : α) (hk : lo ≤ k) (h : risesFrom lo t = true) :
    risesFrom lo (tput t k v) = true := by
  induction t generalizing lo with
  | nil => simp [tput, risesFrom, hk]
  | cons e t ih =>
    obtain ⟨a, x⟩ := e
    simp only [risesFrom, Bool.and_eq_true, decide_eq_true_eq] at h
    by_cases h1 : k < a
    · simp only [tput, h1, if_true, risesFrom, Bool.and_eq_true, decide_eq_true_eq]
      exact ⟨hk, h1, h.2⟩
    · by_cases h2 : a = k
      · subst h2; simp [tput, risesFrom, h]
      · simp only [tput, h1, h2, if_false, risesFrom, Bool.and_eq_true, decide_eq_true_eq]
        exact ⟨h.1, ih (by omega) h.2⟩

theorem risesFrom_filter {lo : Nat} (t : Tab α) (p : Nat × α → Bool) (h : risesFrom lo t = true) :
    risesFrom lo (t.filter p) = true := by
  induction t generalizing lo with
  | nil => rfl
  | cons e t ih =>
    obtain ⟨a, x⟩ := e
    simp only [risesFrom, Bool.and_eq_true, decide_eq_true_eq] at h
    by_cases hp : p (a, x) = true
    · simp [List.filter, hp, risesFrom, h.1, ih h.2]
    · simp [List.filter, hp]; exact risesFrom_mono _ (by omega) (ih h.2)

/-- Setting a key keeps the keys rising. -/
theorem tsorted_tput (t : Tab α) (k : Nat) (v : α) (h : tsorted t = true) : tsorted (tput t k v) = true := by
  rw [tsorted_iff] at h ⊢; exact risesFrom_tput t k v (Nat.zero_le k) h

/-- Leaving entries out keeps the keys rising. -/
theorem tsorted_filter (t : Tab α) (p : Nat × α → Bool) (h : tsorted t = true) : tsorted (t.filter p) = true := by
  rw [tsorted_iff] at h ⊢; exact risesFrom_filter t p h

theorem tsorted_tset [DecidableEq α] (d : α) (t : Tab α) (k : Nat) (v : α) (h : tsorted t = true) :
    tsorted (tset d t k v) = true := by
  by_cases hv : v = d
  · simpa [tset, hv, tdel] using tsorted_filter t _ h
  · simpa [tset, hv] using tsorted_tput t k v h

/-- What a property of every entry becomes when one is set. -/
theorem all_tput (t : Tab α) (k : Nat) (v : α) (p : Nat × α → Bool) (h : t.all p = true) (hv : p (k, v) = true) :
    (tput t k v).all p = true := by
  induction t with
  | nil => simp [tput, hv]
  | cons e t ih =>
    obtain ⟨a, x⟩ := e
    rw [List.all_cons, Bool.and_eq_true] at h
    by_cases h1 : k < a
    · simp only [tput, h1, if_true, List.all_cons, hv, h.1, h.2, Bool.and_self]
    · by_cases h2 : a = k
      · subst h2; simp [tput, h.2, hv]
      · simp only [tput, h1, h2, if_false, List.all_cons, h.1, ih h.2, Bool.and_self]

end Sys2Proof.Machine
end

