-- ==== Sys2Proof/Laws/State.lean ====
section
/-! SUPPORT. The small lemmas of the state's primitive updates: for each update and each field it does not write, that the field stays (all by
rfl), what the written field becomes, and reading registers after writing them. -/

namespace Sys2Proof.Machine

open Sys2Proof

variable (s : State)

/-! ### State.wrk writes `regs` only -/

@[simp] theorem State.wrk_fuses (f : Fld) (u k v : Nat) : (s.wrk f u k v).fuses = s.fuses := rfl
@[simp] theorem State.wrk_pins (f : Fld) (u k v : Nat) : (s.wrk f u k v).pins = s.pins := rfl
@[simp] theorem State.wrk_now (f : Fld) (u k v : Nat) : (s.wrk f u k v).now = s.now := rfl
@[simp] theorem State.wrk_epoch (f : Fld) (u k v : Nat) : (s.wrk f u k v).epoch = s.epoch := rfl
@[simp] theorem State.wrk_hbm (f : Fld) (u k v : Nat) : (s.wrk f u k v).hbm = s.hbm := rfl
@[simp] theorem State.wrk_unfenced (f : Fld) (u k v : Nat) : (s.wrk f u k v).unfenced = s.unfenced := rfl
@[simp] theorem State.wrk_eccFixed (f : Fld) (u k v : Nat) : (s.wrk f u k v).eccFixed = s.eccFixed := rfl
@[simp] theorem State.wrk_evts (f : Fld) (u k v : Nat) : (s.wrk f u k v).evts = s.evts := rfl
@[simp] theorem State.wrk_allocs (f : Fld) (u k v : Nat) : (s.wrk f u k v).allocs = s.allocs := rfl
@[simp] theorem State.wrk_objs (f : Fld) (u k v : Nat) : (s.wrk f u k v).objs = s.objs := rfl
@[simp] theorem State.wrk_sessPrin (f : Fld) (u k v : Nat) : (s.wrk f u k v).sessPrin = s.sessPrin := rfl
@[simp] theorem State.wrk_rings (f : Fld) (u k v : Nat) : (s.wrk f u k v).rings = s.rings := rfl
@[simp] theorem State.wrk_binds (f : Fld) (u k v : Nat) : (s.wrk f u k v).binds = s.binds := rfl
@[simp] theorem State.wrk_taken (f : Fld) (u k v : Nat) : (s.wrk f u k v).taken = s.taken := rfl
@[simp] theorem State.wrk_hold (f : Fld) (u k v : Nat) : (s.wrk f u k v).hold = s.hold := rfl
@[simp] theorem State.wrk_resp (f : Fld) (u k v : Nat) : (s.wrk f u k v).resp = s.resp := rfl
@[simp] theorem State.wrk_cpl (f : Fld) (u k v : Nat) : (s.wrk f u k v).cpl = s.cpl := rfl
@[simp] theorem State.wrk_outs (f : Fld) (u k v : Nat) : (s.wrk f u k v).outs = s.outs := rfl
@[simp] theorem State.wrk_revoked (f : Fld) (u k v : Nat) : (s.wrk f u k v).revoked = s.revoked := rfl
@[simp] theorem State.wrk_imageDue (f : Fld) (u k v : Nat) : (s.wrk f u k v).imageDue = s.imageDue := rfl
@[simp] theorem State.wrk_laneX (f : Fld) (u k v : Nat) : (s.wrk f u k v).laneX = s.laneX := rfl
@[simp] theorem State.wrk_eqTable (f : Fld) (u k v : Nat) : (s.wrk f u k v).eqTable = s.eqTable := rfl
@[simp] theorem State.wrk_limpMap (f : Fld) (u k v : Nat) : (s.wrk f u k v).limpMap = s.limpMap := rfl
@[simp] theorem State.wrk_portX (f : Fld) (u k v : Nat) : (s.wrk f u k v).portX = s.portX := rfl
@[simp] theorem State.wrk_sync (f : Fld) (u k v : Nat) : (s.wrk f u k v).sync = s.sync := rfl
@[simp] theorem State.wrk_charges (f : Fld) (u k v : Nat) : (s.wrk f u k v).charges = s.charges := rfl
@[simp] theorem State.wrk_xfeed (f : Fld) (u k v : Nat) : (s.wrk f u k v).xfeed = s.xfeed := rfl
@[simp] theorem State.wrk_lineTr (f : Fld) (u k v : Nat) : (s.wrk f u k v).lineTr = s.lineTr := rfl
@[simp] theorem State.wrk_inUse (f : Fld) (u k v : Nat) : (s.wrk f u k v).inUse = s.inUse := rfl
@[simp] theorem State.wrk_qual (f : Fld) (u k v : Nat) : (s.wrk f u k v).qual = s.qual := rfl
@[simp] theorem State.wrk_jobs (f : Fld) (u k v : Nat) : (s.wrk f u k v).jobs = s.jobs := rfl
@[simp] theorem State.wrk_surfs (f : Fld) (u k v : Nat) : (s.wrk f u k v).surfs = s.surfs := rfl
@[simp] theorem State.wrk_pipeX (f : Fld) (u k v : Nat) : (s.wrk f u k v).pipeX = s.pipeX := rfl
@[simp] theorem State.wrk_lentFetch (f : Fld) (u k v : Nat) : (s.wrk f u k v).lentFetch = s.lentFetch := rfl
@[simp] theorem State.wrk_lentJxs (f : Fld) (u k v : Nat) : (s.wrk f u k v).lentJxs = s.lentJxs := rfl
@[simp] theorem State.wrk_grid (f : Fld) (u k v : Nat) : (s.wrk f u k v).grid = s.grid := rfl
@[simp] theorem State.wrk_gridOfs (f : Fld) (u k v : Nat) : (s.wrk f u k v).gridOfs = s.gridOfs := rfl
@[simp] theorem State.wrk_grpX (f : Fld) (u k v : Nat) : (s.wrk f u k v).grpX = s.grpX := rfl
@[simp] theorem State.wrk_lipX (f : Fld) (u k v : Nat) : (s.wrk f u k v).lipX = s.lipX := rfl
@[simp] theorem State.wrk_aHist (f : Fld) (u k v : Nat) : (s.wrk f u k v).aHist = s.aHist := rfl
@[simp] theorem State.wrk_npHist (f : Fld) (u k v : Nat) : (s.wrk f u k v).npHist = s.npHist := rfl
@[simp] theorem State.wrk_routeX (f : Fld) (u k v : Nat) : (s.wrk f u k v).routeX = s.routeX := rfl
@[simp] theorem State.wrk_aFrames (f : Fld) (u k v : Nat) : (s.wrk f u k v).aFrames = s.aFrames := rfl
@[simp] theorem State.wrk_insX (f : Fld) (u k v : Nat) : (s.wrk f u k v).insX = s.insX := rfl
@[simp] theorem State.wrk_tapX (f : Fld) (u k v : Nat) : (s.wrk f u k v).tapX = s.tapX := rfl
@[simp] theorem State.wrk_cueX (f : Fld) (u k v : Nat) : (s.wrk f u k v).cueX = s.cueX := rfl
@[simp] theorem State.wrk_progs (f : Fld) (u k v : Nat) : (s.wrk f u k v).progs = s.progs := rfl
@[simp] theorem State.wrk_staged (f : Fld) (u k v : Nat) : (s.wrk f u k v).staged = s.staged := rfl
@[simp] theorem State.wrk_stagedN (f : Fld) (u k v : Nat) : (s.wrk f u k v).stagedN = s.stagedN := rfl
@[simp] theorem State.wrk_lateDue (f : Fld) (u k v : Nat) : (s.wrk f u k v).lateDue = s.lateDue := rfl
@[simp] theorem State.wrk_powerOn (f : Fld) (u k v : Nat) : (s.wrk f u k v).powerOn = s.powerOn := rfl
@[simp] theorem State.wrk_recs (f : Fld) (u k v : Nat) : (s.wrk f u k v).recs = s.recs := rfl
@[simp] theorem State.wrk_detN (f : Fld) (u k v : Nat) : (s.wrk f u k v).detN = s.detN := rfl
@[simp] theorem State.wrk_replay (f : Fld) (u k v : Nat) : (s.wrk f u k v).replay = s.replay := rfl
@[simp] theorem State.wrk_engEvt (f : Fld) (u k v : Nat) : (s.wrk f u k v).engEvt = s.engEvt := rfl
@[simp] theorem State.wrk_tln (f : Fld) (u k v : Nat) : (s.wrk f u k v).tln = s.tln := rfl
@[simp] theorem State.wrk_candX (f : Fld) (u k v : Nat) : (s.wrk f u k v).candX = s.candX := rfl
@[simp] theorem State.wrk_refX (f : Fld) (u k v : Nat) : (s.wrk f u k v).refX = s.refX := rfl
@[simp] theorem State.wrk_ptpX (f : Fld) (u k v : Nat) : (s.wrk f u k v).ptpX = s.ptpX := rfl
@[simp] theorem State.wrk_fwX (f : Fld) (u k v : Nat) : (s.wrk f u k v).fwX = s.fwX := rfl
@[simp] theorem State.wrk_eccPix (f : Fld) (u k v : Nat) : (s.wrk f u k v).eccPix = s.eccPix := rfl
@[simp] theorem State.wrk_locks (f : Fld) (u k v : Nat) : (s.wrk f u k v).locks = s.locks := rfl
@[simp] theorem State.wrk_mbq (f : Fld) (u k v : Nat) : (s.wrk f u k v).mbq = s.mbq := rfl
@[simp] theorem State.wrk_mbAir (f : Fld) (u k v : Nat) : (s.wrk f u k v).mbAir = s.mbAir := rfl
@[simp] theorem State.wrk_fwMsg (f : Fld) (u k v : Nat) : (s.wrk f u k v).fwMsg = s.fwMsg := rfl
@[simp] theorem State.wrk_fwReplies (f : Fld) (u k v : Nat) : (s.wrk f u k v).fwReplies = s.fwReplies := rfl
@[simp] theorem State.wrk_temps (f : Fld) (u k v : Nat) : (s.wrk f u k v).temps = s.temps := rfl
@[simp] theorem State.wrk_nvs (f : Fld) (u k v : Nat) : (s.wrk f u k v).nvs = s.nvs := rfl
@[simp] theorem State.wrk_evid (f : Fld) (u k v : Nat) : (s.wrk f u k v).evid = s.evid := rfl
@[simp] theorem State.wrk_ifcMap (f : Fld) (u k v : Nat) : (s.wrk f u k v).ifcMap = s.ifcMap := rfl
@[simp] theorem State.wrk_twnX (f : Fld) (u k v : Nat) : (s.wrk f u k v).twnX = s.twnX := rfl
@[simp] theorem State.wrk_decOwn (f : Fld) (u k v : Nat) : (s.wrk f u k v).decOwn = s.decOwn := rfl
@[simp] theorem State.wrk_swPend (f : Fld) (u k v : Nat) : (s.wrk f u k v).swPend = s.swPend := rfl
@[simp] theorem State.wrk_imgDigest (f : Fld) (u k v : Nat) : (s.wrk f u k v).imgDigest = s.imgDigest := rfl
@[simp] theorem State.wrk_burnTo (f : Fld) (u k v : Nat) : (s.wrk f u k v).burnTo = s.burnTo := rfl
@[simp] theorem State.wrk_attQ (f : Fld) (u k v : Nat) : (s.wrk f u k v).attQ = s.attQ := rfl
@[simp] theorem State.wrk_dom (f : Fld) (u k v : Nat) : (s.wrk f u k v).dom = s.dom := rfl
@[simp] theorem State.wrk_ports (f : Fld) (u k v : Nat) : (s.wrk f u k v).ports = s.ports := rfl
@[simp] theorem State.wrk_limpLatch (f : Fld) (u k v : Nat) : (s.wrk f u k v).limpLatch = s.limpLatch := rfl
@[simp] theorem State.wrk_modeFrom (f : Fld) (u k v : Nat) : (s.wrk f u k v).modeFrom = s.modeFrom := rfl
@[simp] theorem State.wrk_segRun (f : Fld) (u k v : Nat) : (s.wrk f u k v).segRun = s.segRun := rfl
@[simp] theorem State.wrk_bootStep (f : Fld) (u k v : Nat) : (s.wrk f u k v).bootStep = s.bootStep := rfl
@[simp] theorem State.wrk_pairStop (f : Fld) (u k v : Nat) : (s.wrk f u k v).pairStop = s.pairStop := rfl
@[simp] theorem State.wrk_image (f : Fld) (u k v : Nat) : (s.wrk f u k v).image = s.image := rfl
@[simp] theorem State.wrk_svcRun (f : Fld) (u k v : Nat) : (s.wrk f u k v).svcRun = s.svcRun := rfl
@[simp] theorem State.wrk_warned (f : Fld) (u k v : Nat) : (s.wrk f u k v).warned = s.warned := rfl
@[simp] theorem State.wrk_scanCells (f : Fld) (u k v : Nat) : (s.wrk f u k v).scanCells = s.scanCells := rfl
@[simp] theorem State.wrk_scanTest (f : Fld) (u k v : Nat) : (s.wrk f u k v).scanTest = s.scanTest := rfl
@[simp] theorem State.wrk_free (f : Fld) (u k v : Nat) : (s.wrk f u k v).free = s.free := rfl
@[simp] theorem State.wrk_pending (f : Fld) (u k v : Nat) : (s.wrk f u k v).pending = s.pending := rfl

/-! ### State.send writes `outs` only -/

@[simp] theorem State.send_fuses (o : Out) : (s.send o).fuses = s.fuses := rfl
@[simp] theorem State.send_pins (o : Out) : (s.send o).pins = s.pins := rfl
@[simp] theorem State.send_now (o : Out) : (s.send o).now = s.now := rfl
@[simp] theorem State.send_epoch (o : Out) : (s.send o).epoch = s.epoch := rfl
@[simp] theorem State.send_regs (o : Out) : (s.send o).regs = s.regs := rfl
@[simp] theorem State.send_hbm (o : Out) : (s.send o).hbm = s.hbm := rfl
@[simp] theorem State.send_unfenced (o : Out) : (s.send o).unfenced = s.unfenced := rfl
@[simp] theorem State.send_eccFixed (o : Out) : (s.send o).eccFixed = s.eccFixed := rfl
@[simp] theorem State.send_evts (o : Out) : (s.send o).evts = s.evts := rfl
@[simp] theorem State.send_allocs (o : Out) : (s.send o).allocs = s.allocs := rfl
@[simp] theorem State.send_objs (o : Out) : (s.send o).objs = s.objs := rfl
@[simp] theorem State.send_sessPrin (o : Out) : (s.send o).sessPrin = s.sessPrin := rfl
@[simp] theorem State.send_rings (o : Out) : (s.send o).rings = s.rings := rfl
@[simp] theorem State.send_binds (o : Out) : (s.send o).binds = s.binds := rfl
@[simp] theorem State.send_taken (o : Out) : (s.send o).taken = s.taken := rfl
@[simp] theorem State.send_hold (o : Out) : (s.send o).hold = s.hold := rfl
@[simp] theorem State.send_resp (o : Out) : (s.send o).resp = s.resp := rfl
@[simp] theorem State.send_cpl (o : Out) : (s.send o).cpl = s.cpl := rfl
@[simp] theorem State.send_revoked (o : Out) : (s.send o).revoked = s.revoked := rfl
@[simp] theorem State.send_imageDue (o : Out) : (s.send o).imageDue = s.imageDue := rfl
@[simp] theorem State.send_laneX (o : Out) : (s.send o).laneX = s.laneX := rfl
@[simp] theorem State.send_eqTable (o : Out) : (s.send o).eqTable = s.eqTable := rfl
@[simp] theorem State.send_limpMap (o : Out) : (s.send o).limpMap = s.limpMap := rfl
@[simp] theorem State.send_portX (o : Out) : (s.send o).portX = s.portX := rfl
@[simp] theorem State.send_sync (o : Out) : (s.send o).sync = s.sync := rfl
@[simp] theorem State.send_charges (o : Out) : (s.send o).charges = s.charges := rfl
@[simp] theorem State.send_xfeed (o : Out) : (s.send o).xfeed = s.xfeed := rfl
@[simp] theorem State.send_lineTr (o : Out) : (s.send o).lineTr = s.lineTr := rfl
@[simp] theorem State.send_inUse (o : Out) : (s.send o).inUse = s.inUse := rfl
@[simp] theorem State.send_qual (o : Out) : (s.send o).qual = s.qual := rfl
@[simp] theorem State.send_jobs (o : Out) : (s.send o).jobs = s.jobs := rfl
@[simp] theorem State.send_surfs (o : Out) : (s.send o).surfs = s.surfs := rfl
@[simp] theorem State.send_pipeX (o : Out) : (s.send o).pipeX = s.pipeX := rfl
@[simp] theorem State.send_lentFetch (o : Out) : (s.send o).lentFetch = s.lentFetch := rfl
@[simp] theorem State.send_lentJxs (o : Out) : (s.send o).lentJxs = s.lentJxs := rfl
@[simp] theorem State.send_grid (o : Out) : (s.send o).grid = s.grid := rfl
@[simp] theorem State.send_gridOfs (o : Out) : (s.send o).gridOfs = s.gridOfs := rfl
@[simp] theorem State.send_grpX (o : Out) : (s.send o).grpX = s.grpX := rfl
@[simp] theorem State.send_lipX (o : Out) : (s.send o).lipX = s.lipX := rfl
@[simp] theorem State.send_aHist (o : Out) : (s.send o).aHist = s.aHist := rfl
@[simp] theorem State.send_npHist (o : Out) : (s.send o).npHist = s.npHist := rfl
@[simp] theorem State.send_routeX (o : Out) : (s.send o).routeX = s.routeX := rfl
@[simp] theorem State.send_aFrames (o : Out) : (s.send o).aFrames = s.aFrames := rfl
@[simp] theorem State.send_insX (o : Out) : (s.send o).insX = s.insX := rfl
@[simp] theorem State.send_tapX (o : Out) : (s.send o).tapX = s.tapX := rfl
@[simp] theorem State.send_cueX (o : Out) : (s.send o).cueX = s.cueX := rfl
@[simp] theorem State.send_progs (o : Out) : (s.send o).progs = s.progs := rfl
@[simp] theorem State.send_staged (o : Out) : (s.send o).staged = s.staged := rfl
@[simp] theorem State.send_stagedN (o : Out) : (s.send o).stagedN = s.stagedN := rfl
@[simp] theorem State.send_lateDue (o : Out) : (s.send o).lateDue = s.lateDue := rfl
@[simp] theorem State.send_powerOn (o : Out) : (s.send o).powerOn = s.powerOn := rfl
@[simp] theorem State.send_recs (o : Out) : (s.send o).recs = s.recs := rfl
@[simp] theorem State.send_detN (o : Out) : (s.send o).detN = s.detN := rfl
@[simp] theorem State.send_replay (o : Out) : (s.send o).replay = s.replay := rfl
@[simp] theorem State.send_engEvt (o : Out) : (s.send o).engEvt = s.engEvt := rfl
@[simp] theorem State.send_tln (o : Out) : (s.send o).tln = s.tln := rfl
@[simp] theorem State.send_candX (o : Out) : (s.send o).candX = s.candX := rfl
@[simp] theorem State.send_refX (o : Out) : (s.send o).refX = s.refX := rfl
@[simp] theorem State.send_ptpX (o : Out) : (s.send o).ptpX = s.ptpX := rfl
@[simp] theorem State.send_fwX (o : Out) : (s.send o).fwX = s.fwX := rfl
@[simp] theorem State.send_eccPix (o : Out) : (s.send o).eccPix = s.eccPix := rfl
@[simp] theorem State.send_locks (o : Out) : (s.send o).locks = s.locks := rfl
@[simp] theorem State.send_mbq (o : Out) : (s.send o).mbq = s.mbq := rfl
@[simp] theorem State.send_mbAir (o : Out) : (s.send o).mbAir = s.mbAir := rfl
@[simp] theorem State.send_fwMsg (o : Out) : (s.send o).fwMsg = s.fwMsg := rfl
@[simp] theorem State.send_fwReplies (o : Out) : (s.send o).fwReplies = s.fwReplies := rfl
@[simp] theorem State.send_temps (o : Out) : (s.send o).temps = s.temps := rfl
@[simp] theorem State.send_nvs (o : Out) : (s.send o).nvs = s.nvs := rfl
@[simp] theorem State.send_evid (o : Out) : (s.send o).evid = s.evid := rfl
@[simp] theorem State.send_ifcMap (o : Out) : (s.send o).ifcMap = s.ifcMap := rfl
@[simp] theorem State.send_twnX (o : Out) : (s.send o).twnX = s.twnX := rfl
@[simp] theorem State.send_decOwn (o : Out) : (s.send o).decOwn = s.decOwn := rfl
@[simp] theorem State.send_swPend (o : Out) : (s.send o).swPend = s.swPend := rfl
@[simp] theorem State.send_imgDigest (o : Out) : (s.send o).imgDigest = s.imgDigest := rfl
@[simp] theorem State.send_burnTo (o : Out) : (s.send o).burnTo = s.burnTo := rfl
@[simp] theorem State.send_attQ (o : Out) : (s.send o).attQ = s.attQ := rfl
@[simp] theorem State.send_dom (o : Out) : (s.send o).dom = s.dom := rfl
@[simp] theorem State.send_ports (o : Out) : (s.send o).ports = s.ports := rfl
@[simp] theorem State.send_limpLatch (o : Out) : (s.send o).limpLatch = s.limpLatch := rfl
@[simp] theorem State.send_modeFrom (o : Out) : (s.send o).modeFrom = s.modeFrom := rfl
@[simp] theorem State.send_segRun (o : Out) : (s.send o).segRun = s.segRun := rfl
@[simp] theorem State.send_bootStep (o : Out) : (s.send o).bootStep = s.bootStep := rfl
@[simp] theorem State.send_pairStop (o : Out) : (s.send o).pairStop = s.pairStop := rfl
@[simp] theorem State.send_image (o : Out) : (s.send o).image = s.image := rfl
@[simp] theorem State.send_svcRun (o : Out) : (s.send o).svcRun = s.svcRun := rfl
@[simp] theorem State.send_warned (o : Out) : (s.send o).warned = s.warned := rfl
@[simp] theorem State.send_scanCells (o : Out) : (s.send o).scanCells = s.scanCells := rfl
@[simp] theorem State.send_scanTest (o : Out) : (s.send o).scanTest = s.scanTest := rfl
@[simp] theorem State.send_free (o : Out) : (s.send o).free = s.free := rfl
@[simp] theorem State.send_pending (o : Out) : (s.send o).pending = s.pending := rfl
@[simp] theorem State.send_rdk (o : Out) (g : Fld) (i j : Nat) : (s.send o).rdk g i j = s.rdk g i j := rfl

/-! ### State.drawn writes `free` only -/

@[simp] theorem State.drawn_fuses : (s.drawn).fuses = s.fuses := rfl
@[simp] theorem State.drawn_pins : (s.drawn).pins = s.pins := rfl
@[simp] theorem State.drawn_now : (s.drawn).now = s.now := rfl
@[simp] theorem State.drawn_epoch : (s.drawn).epoch = s.epoch := rfl
@[simp] theorem State.drawn_regs : (s.drawn).regs = s.regs := rfl
@[simp] theorem State.drawn_hbm : (s.drawn).hbm = s.hbm := rfl
@[simp] theorem State.drawn_unfenced : (s.drawn).unfenced = s.unfenced := rfl
@[simp] theorem State.drawn_eccFixed : (s.drawn).eccFixed = s.eccFixed := rfl
@[simp] theorem State.drawn_evts : (s.drawn).evts = s.evts := rfl
@[simp] theorem State.drawn_allocs : (s.drawn).allocs = s.allocs := rfl
@[simp] theorem State.drawn_objs : (s.drawn).objs = s.objs := rfl
@[simp] theorem State.drawn_sessPrin : (s.drawn).sessPrin = s.sessPrin := rfl
@[simp] theorem State.drawn_rings : (s.drawn).rings = s.rings := rfl
@[simp] theorem State.drawn_binds : (s.drawn).binds = s.binds := rfl
@[simp] theorem State.drawn_taken : (s.drawn).taken = s.taken := rfl
@[simp] theorem State.drawn_hold : (s.drawn).hold = s.hold := rfl
@[simp] theorem State.drawn_resp : (s.drawn).resp = s.resp := rfl
@[simp] theorem State.drawn_cpl : (s.drawn).cpl = s.cpl := rfl
@[simp] theorem State.drawn_outs : (s.drawn).outs = s.outs := rfl
@[simp] theorem State.drawn_revoked : (s.drawn).revoked = s.revoked := rfl
@[simp] theorem State.drawn_imageDue : (s.drawn).imageDue = s.imageDue := rfl
@[simp] theorem State.drawn_laneX : (s.drawn).laneX = s.laneX := rfl
@[simp] theorem State.drawn_eqTable : (s.drawn).eqTable = s.eqTable := rfl
@[simp] theorem State.drawn_limpMap : (s.drawn).limpMap = s.limpMap := rfl
@[simp] theorem State.drawn_portX : (s.drawn).portX = s.portX := rfl
@[simp] theorem State.drawn_sync : (s.drawn).sync = s.sync := rfl
@[simp] theorem State.drawn_charges : (s.drawn).charges = s.charges := rfl
@[simp] theorem State.drawn_xfeed : (s.drawn).xfeed = s.xfeed := rfl
@[simp] theorem State.drawn_lineTr : (s.drawn).lineTr = s.lineTr := rfl
@[simp] theorem State.drawn_inUse : (s.drawn).inUse = s.inUse := rfl
@[simp] theorem State.drawn_qual : (s.drawn).qual = s.qual := rfl
@[simp] theorem State.drawn_jobs : (s.drawn).jobs = s.jobs := rfl
@[simp] theorem State.drawn_surfs : (s.drawn).surfs = s.surfs := rfl
@[simp] theorem State.drawn_pipeX : (s.drawn).pipeX = s.pipeX := rfl
@[simp] theorem State.drawn_lentFetch : (s.drawn).lentFetch = s.lentFetch := rfl
@[simp] theorem State.drawn_lentJxs : (s.drawn).lentJxs = s.lentJxs := rfl
@[simp] theorem State.drawn_grid : (s.drawn).grid = s.grid := rfl
@[simp] theorem State.drawn_gridOfs : (s.drawn).gridOfs = s.gridOfs := rfl
@[simp] theorem State.drawn_grpX : (s.drawn).grpX = s.grpX := rfl
@[simp] theorem State.drawn_lipX : (s.drawn).lipX = s.lipX := rfl
@[simp] theorem State.drawn_aHist : (s.drawn).aHist = s.aHist := rfl
@[simp] theorem State.drawn_npHist : (s.drawn).npHist = s.npHist := rfl
@[simp] theorem State.drawn_routeX : (s.drawn).routeX = s.routeX := rfl
@[simp] theorem State.drawn_aFrames : (s.drawn).aFrames = s.aFrames := rfl
@[simp] theorem State.drawn_insX : (s.drawn).insX = s.insX := rfl
@[simp] theorem State.drawn_tapX : (s.drawn).tapX = s.tapX := rfl
@[simp] theorem State.drawn_cueX : (s.drawn).cueX = s.cueX := rfl
@[simp] theorem State.drawn_progs : (s.drawn).progs = s.progs := rfl
@[simp] theorem State.drawn_staged : (s.drawn).staged = s.staged := rfl
@[simp] theorem State.drawn_stagedN : (s.drawn).stagedN = s.stagedN := rfl
@[simp] theorem State.drawn_lateDue : (s.drawn).lateDue = s.lateDue := rfl
@[simp] theorem State.drawn_powerOn : (s.drawn).powerOn = s.powerOn := rfl
@[simp] theorem State.drawn_recs : (s.drawn).recs = s.recs := rfl
@[simp] theorem State.drawn_detN : (s.drawn).detN = s.detN := rfl
@[simp] theorem State.drawn_replay : (s.drawn).replay = s.replay := rfl
@[simp] theorem State.drawn_engEvt : (s.drawn).engEvt = s.engEvt := rfl
@[simp] theorem State.drawn_tln : (s.drawn).tln = s.tln := rfl
@[simp] theorem State.drawn_candX : (s.drawn).candX = s.candX := rfl
@[simp] theorem State.drawn_refX : (s.drawn).refX = s.refX := rfl
@[simp] theorem State.drawn_ptpX : (s.drawn).ptpX = s.ptpX := rfl
@[simp] theorem State.drawn_fwX : (s.drawn).fwX = s.fwX := rfl
@[simp] theorem State.drawn_eccPix : (s.drawn).eccPix = s.eccPix := rfl
@[simp] theorem State.drawn_locks : (s.drawn).locks = s.locks := rfl
@[simp] theorem State.drawn_mbq : (s.drawn).mbq = s.mbq := rfl
@[simp] theorem State.drawn_mbAir : (s.drawn).mbAir = s.mbAir := rfl
@[simp] theorem State.drawn_fwMsg : (s.drawn).fwMsg = s.fwMsg := rfl
@[simp] theorem State.drawn_fwReplies : (s.drawn).fwReplies = s.fwReplies := rfl
@[simp] theorem State.drawn_temps : (s.drawn).temps = s.temps := rfl
@[simp] theorem State.drawn_nvs : (s.drawn).nvs = s.nvs := rfl
@[simp] theorem State.drawn_evid : (s.drawn).evid = s.evid := rfl
@[simp] theorem State.drawn_ifcMap : (s.drawn).ifcMap = s.ifcMap := rfl
@[simp] theorem State.drawn_twnX : (s.drawn).twnX = s.twnX := rfl
@[simp] theorem State.drawn_decOwn : (s.drawn).decOwn = s.decOwn := rfl
@[simp] theorem State.drawn_swPend : (s.drawn).swPend = s.swPend := rfl
@[simp] theorem State.drawn_imgDigest : (s.drawn).imgDigest = s.imgDigest := rfl
@[simp] theorem State.drawn_burnTo : (s.drawn).burnTo = s.burnTo := rfl
@[simp] theorem State.drawn_attQ : (s.drawn).attQ = s.attQ := rfl
@[simp] theorem State.drawn_dom : (s.drawn).dom = s.dom := rfl
@[simp] theorem State.drawn_ports : (s.drawn).ports = s.ports := rfl
@[simp] theorem State.drawn_limpLatch : (s.drawn).limpLatch = s.limpLatch := rfl
@[simp] theorem State.drawn_modeFrom : (s.drawn).modeFrom = s.modeFrom := rfl
@[simp] theorem State.drawn_segRun : (s.drawn).segRun = s.segRun := rfl
@[simp] theorem State.drawn_bootStep : (s.drawn).bootStep = s.bootStep := rfl
@[simp] theorem State.drawn_pairStop : (s.drawn).pairStop = s.pairStop := rfl
@[simp] theorem State.drawn_image : (s.drawn).image = s.image := rfl
@[simp] theorem State.drawn_svcRun : (s.drawn).svcRun = s.svcRun := rfl
@[simp] theorem State.drawn_warned : (s.drawn).warned = s.warned := rfl
@[simp] theorem State.drawn_scanCells : (s.drawn).scanCells = s.scanCells := rfl
@[simp] theorem State.drawn_scanTest : (s.drawn).scanTest = s.scanTest := rfl
@[simp] theorem State.drawn_pending : (s.drawn).pending = s.pending := rfl
@[simp] theorem State.drawn_rdk (g : Fld) (i j : Nat) : (s.drawn).rdk g i j = s.rdk g i j := rfl

/-! ### State.respond writes `resp` only -/

@[simp] theorem State.respond_fuses (d : Nat) : (s.respond d).fuses = s.fuses := rfl
@[simp] theorem State.respond_pins (d : Nat) : (s.respond d).pins = s.pins := rfl
@[simp] theorem State.respond_now (d : Nat) : (s.respond d).now = s.now := rfl
@[simp] theorem State.respond_epoch (d : Nat) : (s.respond d).epoch = s.epoch := rfl
@[simp] theorem State.respond_regs (d : Nat) : (s.respond d).regs = s.regs := rfl
@[simp] theorem State.respond_hbm (d : Nat) : (s.respond d).hbm = s.hbm := rfl
@[simp] theorem State.respond_unfenced (d : Nat) : (s.respond d).unfenced = s.unfenced := rfl
@[simp] theorem State.respond_eccFixed (d : Nat) : (s.respond d).eccFixed = s.eccFixed := rfl
@[simp] theorem State.respond_evts (d : Nat) : (s.respond d).evts = s.evts := rfl
@[simp] theorem State.respond_allocs (d : Nat) : (s.respond d).allocs = s.allocs := rfl
@[simp] theorem State.respond_objs (d : Nat) : (s.respond d).objs = s.objs := rfl
@[simp] theorem State.respond_sessPrin (d : Nat) : (s.respond d).sessPrin = s.sessPrin := rfl
@[simp] theorem State.respond_rings (d : Nat) : (s.respond d).rings = s.rings := rfl
@[simp] theorem State.respond_binds (d : Nat) : (s.respond d).binds = s.binds := rfl
@[simp] theorem State.respond_taken (d : Nat) : (s.respond d).taken = s.taken := rfl
@[simp] theorem State.respond_hold (d : Nat) : (s.respond d).hold = s.hold := rfl
@[simp] theorem State.respond_cpl (d : Nat) : (s.respond d).cpl = s.cpl := rfl
@[simp] theorem State.respond_outs (d : Nat) : (s.respond d).outs = s.outs := rfl
@[simp] theorem State.respond_revoked (d : Nat) : (s.respond d).revoked = s.revoked := rfl
@[simp] theorem State.respond_imageDue (d : Nat) : (s.respond d).imageDue = s.imageDue := rfl
@[simp] theorem State.respond_laneX (d : Nat) : (s.respond d).laneX = s.laneX := rfl
@[simp] theorem State.respond_eqTable (d : Nat) : (s.respond d).eqTable = s.eqTable := rfl
@[simp] theorem State.respond_limpMap (d : Nat) : (s.respond d).limpMap = s.limpMap := rfl
@[simp] theorem State.respond_portX (d : Nat) : (s.respond d).portX = s.portX := rfl
@[simp] theorem State.respond_sync (d : Nat) : (s.respond d).sync = s.sync := rfl
@[simp] theorem State.respond_charges (d : Nat) : (s.respond d).charges = s.charges := rfl
@[simp] theorem State.respond_xfeed (d : Nat) : (s.respond d).xfeed = s.xfeed := rfl
@[simp] theorem State.respond_lineTr (d : Nat) : (s.respond d).lineTr = s.lineTr := rfl
@[simp] theorem State.respond_inUse (d : Nat) : (s.respond d).inUse = s.inUse := rfl
@[simp] theorem State.respond_qual (d : Nat) : (s.respond d).qual = s.qual := rfl
@[simp] theorem State.respond_jobs (d : Nat) : (s.respond d).jobs = s.jobs := rfl
@[simp] theorem State.respond_surfs (d : Nat) : (s.respond d).surfs = s.surfs := rfl
@[simp] theorem State.respond_pipeX (d : Nat) : (s.respond d).pipeX = s.pipeX := rfl
@[simp] theorem State.respond_lentFetch (d : Nat) : (s.respond d).lentFetch = s.lentFetch := rfl
@[simp] theorem State.respond_lentJxs (d : Nat) : (s.respond d).lentJxs = s.lentJxs := rfl
@[simp] theorem State.respond_grid (d : Nat) : (s.respond d).grid = s.grid := rfl
@[simp] theorem State.respond_gridOfs (d : Nat) : (s.respond d).gridOfs = s.gridOfs := rfl
@[simp] theorem State.respond_grpX (d : Nat) : (s.respond d).grpX = s.grpX := rfl
@[simp] theorem State.respond_lipX (d : Nat) : (s.respond d).lipX = s.lipX := rfl
@[simp] theorem State.respond_aHist (d : Nat) : (s.respond d).aHist = s.aHist := rfl
@[simp] theorem State.respond_npHist (d : Nat) : (s.respond d).npHist = s.npHist := rfl
@[simp] theorem State.respond_routeX (d : Nat) : (s.respond d).routeX = s.routeX := rfl
@[simp] theorem State.respond_aFrames (d : Nat) : (s.respond d).aFrames = s.aFrames := rfl
@[simp] theorem State.respond_insX (d : Nat) : (s.respond d).insX = s.insX := rfl
@[simp] theorem State.respond_tapX (d : Nat) : (s.respond d).tapX = s.tapX := rfl
@[simp] theorem State.respond_cueX (d : Nat) : (s.respond d).cueX = s.cueX := rfl
@[simp] theorem State.respond_progs (d : Nat) : (s.respond d).progs = s.progs := rfl
@[simp] theorem State.respond_staged (d : Nat) : (s.respond d).staged = s.staged := rfl
@[simp] theorem State.respond_stagedN (d : Nat) : (s.respond d).stagedN = s.stagedN := rfl
@[simp] theorem State.respond_lateDue (d : Nat) : (s.respond d).lateDue = s.lateDue := rfl
@[simp] theorem State.respond_powerOn (d : Nat) : (s.respond d).powerOn = s.powerOn := rfl
@[simp] theorem State.respond_recs (d : Nat) : (s.respond d).recs = s.recs := rfl
@[simp] theorem State.respond_detN (d : Nat) : (s.respond d).detN = s.detN := rfl
@[simp] theorem State.respond_replay (d : Nat) : (s.respond d).replay = s.replay := rfl
@[simp] theorem State.respond_engEvt (d : Nat) : (s.respond d).engEvt = s.engEvt := rfl
@[simp] theorem State.respond_tln (d : Nat) : (s.respond d).tln = s.tln := rfl
@[simp] theorem State.respond_candX (d : Nat) : (s.respond d).candX = s.candX := rfl
@[simp] theorem State.respond_refX (d : Nat) : (s.respond d).refX = s.refX := rfl
@[simp] theorem State.respond_ptpX (d : Nat) : (s.respond d).ptpX = s.ptpX := rfl
@[simp] theorem State.respond_fwX (d : Nat) : (s.respond d).fwX = s.fwX := rfl
@[simp] theorem State.respond_eccPix (d : Nat) : (s.respond d).eccPix = s.eccPix := rfl
@[simp] theorem State.respond_locks (d : Nat) : (s.respond d).locks = s.locks := rfl
@[simp] theorem State.respond_mbq (d : Nat) : (s.respond d).mbq = s.mbq := rfl
@[simp] theorem State.respond_mbAir (d : Nat) : (s.respond d).mbAir = s.mbAir := rfl
@[simp] theorem State.respond_fwMsg (d : Nat) : (s.respond d).fwMsg = s.fwMsg := rfl
@[simp] theorem State.respond_fwReplies (d : Nat) : (s.respond d).fwReplies = s.fwReplies := rfl
@[simp] theorem State.respond_temps (d : Nat) : (s.respond d).temps = s.temps := rfl
@[simp] theorem State.respond_nvs (d : Nat) : (s.respond d).nvs = s.nvs := rfl
@[simp] theorem State.respond_evid (d : Nat) : (s.respond d).evid = s.evid := rfl
@[simp] theorem State.respond_ifcMap (d : Nat) : (s.respond d).ifcMap = s.ifcMap := rfl
@[simp] theorem State.respond_twnX (d : Nat) : (s.respond d).twnX = s.twnX := rfl
@[simp] theorem State.respond_decOwn (d : Nat) : (s.respond d).decOwn = s.decOwn := rfl
@[simp] theorem State.respond_swPend (d : Nat) : (s.respond d).swPend = s.swPend := rfl
@[simp] theorem State.respond_imgDigest (d : Nat) : (s.respond d).imgDigest = s.imgDigest := rfl
@[simp] theorem State.respond_burnTo (d : Nat) : (s.respond d).burnTo = s.burnTo := rfl
@[simp] theorem State.respond_attQ (d : Nat) : (s.respond d).attQ = s.attQ := rfl
@[simp] theorem State.respond_dom (d : Nat) : (s.respond d).dom = s.dom := rfl
@[simp] theorem State.respond_ports (d : Nat) : (s.respond d).ports = s.ports := rfl
@[simp] theorem State.respond_limpLatch (d : Nat) : (s.respond d).limpLatch = s.limpLatch := rfl
@[simp] theorem State.respond_modeFrom (d : Nat) : (s.respond d).modeFrom = s.modeFrom := rfl
@[simp] theorem State.respond_segRun (d : Nat) : (s.respond d).segRun = s.segRun := rfl
@[simp] theorem State.respond_bootStep (d : Nat) : (s.respond d).bootStep = s.bootStep := rfl
@[simp] theorem State.respond_pairStop (d : Nat) : (s.respond d).pairStop = s.pairStop := rfl
@[simp] theorem State.respond_image (d : Nat) : (s.respond d).image = s.image := rfl
@[simp] theorem State.respond_svcRun (d : Nat) : (s.respond d).svcRun = s.svcRun := rfl
@[simp] theorem State.respond_warned (d : Nat) : (s.respond d).warned = s.warned := rfl
@[simp] theorem State.respond_scanCells (d : Nat) : (s.respond d).scanCells = s.scanCells := rfl
@[simp] theorem State.respond_scanTest (d : Nat) : (s.respond d).scanTest = s.scanTest := rfl
@[simp] theorem State.respond_free (d : Nat) : (s.respond d).free = s.free := rfl
@[simp] theorem State.respond_pending (d : Nat) : (s.respond d).pending = s.pending := rfl
@[simp] theorem State.respond_rdk (d : Nat) (g : Fld) (i j : Nat) : (s.respond d).rdk g i j = s.rdk g i j := rfl

/-! ### State.setObj writes `objs` only -/

@[simp] theorem State.setObj_fuses (kind idx : Nat) (x : Obj) : (s.setObj kind idx x).fuses = s.fuses := rfl
@[simp] theorem State.setObj_pins (kind idx : Nat) (x : Obj) : (s.setObj kind idx x).pins = s.pins := rfl
@[simp] theorem State.setObj_now (kind idx : Nat) (x : Obj) : (s.setObj kind idx x).now = s.now := rfl
@[simp] theorem State.setObj_epoch (kind idx : Nat) (x : Obj) : (s.setObj kind idx x).epoch = s.epoch := rfl
@[simp] theorem State.setObj_regs (kind idx : Nat) (x : Obj) : (s.setObj kind idx x).regs = s.regs := rfl
@[simp] theorem State.setObj_hbm (kind idx : Nat) (x : Obj) : (s.setObj kind idx x).hbm = s.hbm := rfl
@[simp] theorem State.setObj_unfenced (kind idx : Nat) (x : Obj) : (s.setObj kind idx x).unfenced = s.unfenced := rfl
@[simp] theorem State.setObj_eccFixed (kind idx : Nat) (x : Obj) : (s.setObj kind idx x).eccFixed = s.eccFixed := rfl
@[simp] theorem State.setObj_evts (kind idx : Nat) (x : Obj) : (s.setObj kind idx x).evts = s.evts := rfl
@[simp] theorem State.setObj_allocs (kind idx : Nat) (x : Obj) : (s.setObj kind idx x).allocs = s.allocs := rfl
@[simp] theorem State.setObj_sessPrin (kind idx : Nat) (x : Obj) : (s.setObj kind idx x).sessPrin = s.sessPrin := rfl
@[simp] theorem State.setObj_rings (kind idx : Nat) (x : Obj) : (s.setObj kind idx x).rings = s.rings := rfl
@[simp] theorem State.setObj_binds (kind idx : Nat) (x : Obj) : (s.setObj kind idx x).binds = s.binds := rfl
@[simp] theorem State.setObj_taken (kind idx : Nat) (x : Obj) : (s.setObj kind idx x).taken = s.taken := rfl
@[simp] theorem State.setObj_hold (kind idx : Nat) (x : Obj) : (s.setObj kind idx x).hold = s.hold := rfl
@[simp] theorem State.setObj_resp (kind idx : Nat) (x : Obj) : (s.setObj kind idx x).resp = s.resp := rfl
@[simp] theorem State.setObj_cpl (kind idx : Nat) (x : Obj) : (s.setObj kind idx x).cpl = s.cpl := rfl
@[simp] theorem State.setObj_outs (kind idx : Nat) (x : Obj) : (s.setObj kind idx x).outs = s.outs := rfl
@[simp] theorem State.setObj_revoked (kind idx : Nat) (x : Obj) : (s.setObj kind idx x).revoked = s.revoked := rfl
@[simp] theorem State.setObj_imageDue (kind idx : Nat) (x : Obj) : (s.setObj kind idx x).imageDue = s.imageDue := rfl
@[simp] theorem State.setObj_laneX (kind idx : Nat) (x : Obj) : (s.setObj kind idx x).laneX = s.laneX := rfl
@[simp] theorem State.setObj_eqTable (kind idx : Nat) (x : Obj) : (s.setObj kind idx x).eqTable = s.eqTable := rfl
@[simp] theorem State.setObj_limpMap (kind idx : Nat) (x : Obj) : (s.setObj kind idx x).limpMap = s.limpMap := rfl
@[simp] theorem State.setObj_portX (kind idx : Nat) (x : Obj) : (s.setObj kind idx x).portX = s.portX := rfl
@[simp] theorem State.setObj_sync (kind idx : Nat) (x : Obj) : (s.setObj kind idx x).sync = s.sync := rfl
@[simp] theorem State.setObj_charges (kind idx : Nat) (x : Obj) : (s.setObj kind idx x).charges = s.charges := rfl
@[simp] theorem State.setObj_xfeed (kind idx : Nat) (x : Obj) : (s.setObj kind idx x).xfeed = s.xfeed := rfl
@[simp] theorem State.setObj_lineTr (kind idx : Nat) (x : Obj) : (s.setObj kind idx x).lineTr = s.lineTr := rfl
@[simp] theorem State.setObj_inUse (kind idx : Nat) (x : Obj) : (s.setObj kind idx x).inUse = s.inUse := rfl
@[simp] theorem State.setObj_qual (kind idx : Nat) (x : Obj) : (s.setObj kind idx x).qual = s.qual := rfl
@[simp] theorem State.setObj_jobs (kind idx : Nat) (x : Obj) : (s.setObj kind idx x).jobs = s.jobs := rfl
@[simp] theorem State.setObj_surfs (kind idx : Nat) (x : Obj) : (s.setObj kind idx x).surfs = s.surfs := rfl
@[simp] theorem State.setObj_pipeX (kind idx : Nat) (x : Obj) : (s.setObj kind idx x).pipeX = s.pipeX := rfl
@[simp] theorem State.setObj_lentFetch (kind idx : Nat) (x : Obj) : (s.setObj kind idx x).lentFetch = s.lentFetch := rfl
@[simp] theorem State.setObj_lentJxs (kind idx : Nat) (x : Obj) : (s.setObj kind idx x).lentJxs = s.lentJxs := rfl
@[simp] theorem State.setObj_grid (kind idx : Nat) (x : Obj) : (s.setObj kind idx x).grid = s.grid := rfl
@[simp] theorem State.setObj_gridOfs (kind idx : Nat) (x : Obj) : (s.setObj kind idx x).gridOfs = s.gridOfs := rfl
@[simp] theorem State.setObj_grpX (kind idx : Nat) (x : Obj) : (s.setObj kind idx x).grpX = s.grpX := rfl
@[simp] theorem State.setObj_lipX (kind idx : Nat) (x : Obj) : (s.setObj kind idx x).lipX = s.lipX := rfl
@[simp] theorem State.setObj_aHist (kind idx : Nat) (x : Obj) : (s.setObj kind idx x).aHist = s.aHist := rfl
@[simp] theorem State.setObj_npHist (kind idx : Nat) (x : Obj) : (s.setObj kind idx x).npHist = s.npHist := rfl
@[simp] theorem State.setObj_routeX (kind idx : Nat) (x : Obj) : (s.setObj kind idx x).routeX = s.routeX := rfl
@[simp] theorem State.setObj_aFrames (kind idx : Nat) (x : Obj) : (s.setObj kind idx x).aFrames = s.aFrames := rfl
@[simp] theorem State.setObj_insX (kind idx : Nat) (x : Obj) : (s.setObj kind idx x).insX = s.insX := rfl
@[simp] theorem State.setObj_tapX (kind idx : Nat) (x : Obj) : (s.setObj kind idx x).tapX = s.tapX := rfl
@[simp] theorem State.setObj_cueX (kind idx : Nat) (x : Obj) : (s.setObj kind idx x).cueX = s.cueX := rfl
@[simp] theorem State.setObj_progs (kind idx : Nat) (x : Obj) : (s.setObj kind idx x).progs = s.progs := rfl
@[simp] theorem State.setObj_staged (kind idx : Nat) (x : Obj) : (s.setObj kind idx x).staged = s.staged := rfl
@[simp] theorem State.setObj_stagedN (kind idx : Nat) (x : Obj) : (s.setObj kind idx x).stagedN = s.stagedN := rfl
@[simp] theorem State.setObj_lateDue (kind idx : Nat) (x : Obj) : (s.setObj kind idx x).lateDue = s.lateDue := rfl
@[simp] theorem State.setObj_powerOn (kind idx : Nat) (x : Obj) : (s.setObj kind idx x).powerOn = s.powerOn := rfl
@[simp] theorem State.setObj_recs (kind idx : Nat) (x : Obj) : (s.setObj kind idx x).recs = s.recs := rfl
@[simp] theorem State.setObj_detN (kind idx : Nat) (x : Obj) : (s.setObj kind idx x).detN = s.detN := rfl
@[simp] theorem State.setObj_replay (kind idx : Nat) (x : Obj) : (s.setObj kind idx x).replay = s.replay := rfl
@[simp] theorem State.setObj_engEvt (kind idx : Nat) (x : Obj) : (s.setObj kind idx x).engEvt = s.engEvt := rfl
@[simp] theorem State.setObj_tln (kind idx : Nat) (x : Obj) : (s.setObj kind idx x).tln = s.tln := rfl
@[simp] theorem State.setObj_candX (kind idx : Nat) (x : Obj) : (s.setObj kind idx x).candX = s.candX := rfl
@[simp] theorem State.setObj_refX (kind idx : Nat) (x : Obj) : (s.setObj kind idx x).refX = s.refX := rfl
@[simp] theorem State.setObj_ptpX (kind idx : Nat) (x : Obj) : (s.setObj kind idx x).ptpX = s.ptpX := rfl
@[simp] theorem State.setObj_fwX (kind idx : Nat) (x : Obj) : (s.setObj kind idx x).fwX = s.fwX := rfl
@[simp] theorem State.setObj_eccPix (kind idx : Nat) (x : Obj) : (s.setObj kind idx x).eccPix = s.eccPix := rfl
@[simp] theorem State.setObj_locks (kind idx : Nat) (x : Obj) : (s.setObj kind idx x).locks = s.locks := rfl
@[simp] theorem State.setObj_mbq (kind idx : Nat) (x : Obj) : (s.setObj kind idx x).mbq = s.mbq := rfl
@[simp] theorem State.setObj_mbAir (kind idx : Nat) (x : Obj) : (s.setObj kind idx x).mbAir = s.mbAir := rfl
@[simp] theorem State.setObj_fwMsg (kind idx : Nat) (x : Obj) : (s.setObj kind idx x).fwMsg = s.fwMsg := rfl
@[simp] theorem State.setObj_fwReplies (kind idx : Nat) (x : Obj) : (s.setObj kind idx x).fwReplies = s.fwReplies := rfl
@[simp] theorem State.setObj_temps (kind idx : Nat) (x : Obj) : (s.setObj kind idx x).temps = s.temps := rfl
@[simp] theorem State.setObj_nvs (kind idx : Nat) (x : Obj) : (s.setObj kind idx x).nvs = s.nvs := rfl
@[simp] theorem State.setObj_evid (kind idx : Nat) (x : Obj) : (s.setObj kind idx x).evid = s.evid := rfl
@[simp] theorem State.setObj_ifcMap (kind idx : Nat) (x : Obj) : (s.setObj kind idx x).ifcMap = s.ifcMap := rfl
@[simp] theorem State.setObj_twnX (kind idx : Nat) (x : Obj) : (s.setObj kind idx x).twnX = s.twnX := rfl
@[simp] theorem State.setObj_decOwn (kind idx : Nat) (x : Obj) : (s.setObj kind idx x).decOwn = s.decOwn := rfl
@[simp] theorem State.setObj_swPend (kind idx : Nat) (x : Obj) : (s.setObj kind idx x).swPend = s.swPend := rfl
@[simp] theorem State.setObj_imgDigest (kind idx : Nat) (x : Obj) : (s.setObj kind idx x).imgDigest = s.imgDigest := rfl
@[simp] theorem State.setObj_burnTo (kind idx : Nat) (x : Obj) : (s.setObj kind idx x).burnTo = s.burnTo := rfl
@[simp] theorem State.setObj_attQ (kind idx : Nat) (x : Obj) : (s.setObj kind idx x).attQ = s.attQ := rfl
@[simp] theorem State.setObj_dom (kind idx : Nat) (x : Obj) : (s.setObj kind idx x).dom = s.dom := rfl
@[simp] theorem State.setObj_ports (kind idx : Nat) (x : Obj) : (s.setObj kind idx x).ports = s.ports := rfl
@[simp] theorem State.setObj_limpLatch (kind idx : Nat) (x : Obj) : (s.setObj kind idx x).limpLatch = s.limpLatch := rfl
@[simp] theorem State.setObj_modeFrom (kind idx : Nat) (x : Obj) : (s.setObj kind idx x).modeFrom = s.modeFrom := rfl
@[simp] theorem State.setObj_segRun (kind idx : Nat) (x : Obj) : (s.setObj kind idx x).segRun = s.segRun := rfl
@[simp] theorem State.setObj_bootStep (kind idx : Nat) (x : Obj) : (s.setObj kind idx x).bootStep = s.bootStep := rfl
@[simp] theorem State.setObj_pairStop (kind idx : Nat) (x : Obj) : (s.setObj kind idx x).pairStop = s.pairStop := rfl
@[simp] theorem State.setObj_image (kind idx : Nat) (x : Obj) : (s.setObj kind idx x).image = s.image := rfl
@[simp] theorem State.setObj_svcRun (kind idx : Nat) (x : Obj) : (s.setObj kind idx x).svcRun = s.svcRun := rfl
@[simp] theorem State.setObj_warned (kind idx : Nat) (x : Obj) : (s.setObj kind idx x).warned = s.warned := rfl
@[simp] theorem State.setObj_scanCells (kind idx : Nat) (x : Obj) : (s.setObj kind idx x).scanCells = s.scanCells := rfl
@[simp] theorem State.setObj_scanTest (kind idx : Nat) (x : Obj) : (s.setObj kind idx x).scanTest = s.scanTest := rfl
@[simp] theorem State.setObj_free (kind idx : Nat) (x : Obj) : (s.setObj kind idx x).free = s.free := rfl
@[simp] theorem State.setObj_pending (kind idx : Nat) (x : Obj) : (s.setObj kind idx x).pending = s.pending := rfl
@[simp] theorem State.setObj_rdk (kind idx : Nat) (x : Obj) (g : Fld) (i j : Nat) : (s.setObj kind idx x).rdk g i j = s.rdk g i j := rfl

/-! ### State.setRing writes `rings` only -/

@[simp] theorem State.setRing_fuses (n : Nat) (r : RingCtx) : (s.setRing n r).fuses = s.fuses := rfl
@[simp] theorem State.setRing_pins (n : Nat) (r : RingCtx) : (s.setRing n r).pins = s.pins := rfl
@[simp] theorem State.setRing_now (n : Nat) (r : RingCtx) : (s.setRing n r).now = s.now := rfl
@[simp] theorem State.setRing_epoch (n : Nat) (r : RingCtx) : (s.setRing n r).epoch = s.epoch := rfl
@[simp] theorem State.setRing_regs (n : Nat) (r : RingCtx) : (s.setRing n r).regs = s.regs := rfl
@[simp] theorem State.setRing_hbm (n : Nat) (r : RingCtx) : (s.setRing n r).hbm = s.hbm := rfl
@[simp] theorem State.setRing_unfenced (n : Nat) (r : RingCtx) : (s.setRing n r).unfenced = s.unfenced := rfl
@[simp] theorem State.setRing_eccFixed (n : Nat) (r : RingCtx) : (s.setRing n r).eccFixed = s.eccFixed := rfl
@[simp] theorem State.setRing_evts (n : Nat) (r : RingCtx) : (s.setRing n r).evts = s.evts := rfl
@[simp] theorem State.setRing_allocs (n : Nat) (r : RingCtx) : (s.setRing n r).allocs = s.allocs := rfl
@[simp] theorem State.setRing_objs (n : Nat) (r : RingCtx) : (s.setRing n r).objs = s.objs := rfl
@[simp] theorem State.setRing_sessPrin (n : Nat) (r : RingCtx) : (s.setRing n r).sessPrin = s.sessPrin := rfl
@[simp] theorem State.setRing_binds (n : Nat) (r : RingCtx) : (s.setRing n r).binds = s.binds := rfl
@[simp] theorem State.setRing_taken (n : Nat) (r : RingCtx) : (s.setRing n r).taken = s.taken := rfl
@[simp] theorem State.setRing_hold (n : Nat) (r : RingCtx) : (s.setRing n r).hold = s.hold := rfl
@[simp] theorem State.setRing_resp (n : Nat) (r : RingCtx) : (s.setRing n r).resp = s.resp := rfl
@[simp] theorem State.setRing_cpl (n : Nat) (r : RingCtx) : (s.setRing n r).cpl = s.cpl := rfl
@[simp] theorem State.setRing_outs (n : Nat) (r : RingCtx) : (s.setRing n r).outs = s.outs := rfl
@[simp] theorem State.setRing_revoked (n : Nat) (r : RingCtx) : (s.setRing n r).revoked = s.revoked := rfl
@[simp] theorem State.setRing_imageDue (n : Nat) (r : RingCtx) : (s.setRing n r).imageDue = s.imageDue := rfl
@[simp] theorem State.setRing_laneX (n : Nat) (r : RingCtx) : (s.setRing n r).laneX = s.laneX := rfl
@[simp] theorem State.setRing_eqTable (n : Nat) (r : RingCtx) : (s.setRing n r).eqTable = s.eqTable := rfl
@[simp] theorem State.setRing_limpMap (n : Nat) (r : RingCtx) : (s.setRing n r).limpMap = s.limpMap := rfl
@[simp] theorem State.setRing_portX (n : Nat) (r : RingCtx) : (s.setRing n r).portX = s.portX := rfl
@[simp] theorem State.setRing_sync (n : Nat) (r : RingCtx) : (s.setRing n r).sync = s.sync := rfl
@[simp] theorem State.setRing_charges (n : Nat) (r : RingCtx) : (s.setRing n r).charges = s.charges := rfl
@[simp] theorem State.setRing_xfeed (n : Nat) (r : RingCtx) : (s.setRing n r).xfeed = s.xfeed := rfl
@[simp] theorem State.setRing_lineTr (n : Nat) (r : RingCtx) : (s.setRing n r).lineTr = s.lineTr := rfl
@[simp] theorem State.setRing_inUse (n : Nat) (r : RingCtx) : (s.setRing n r).inUse = s.inUse := rfl
@[simp] theorem State.setRing_qual (n : Nat) (r : RingCtx) : (s.setRing n r).qual = s.qual := rfl
@[simp] theorem State.setRing_jobs (n : Nat) (r : RingCtx) : (s.setRing n r).jobs = s.jobs := rfl
@[simp] theorem State.setRing_surfs (n : Nat) (r : RingCtx) : (s.setRing n r).surfs = s.surfs := rfl
@[simp] theorem State.setRing_pipeX (n : Nat) (r : RingCtx) : (s.setRing n r).pipeX = s.pipeX := rfl
@[simp] theorem State.setRing_lentFetch (n : Nat) (r : RingCtx) : (s.setRing n r).lentFetch = s.lentFetch := rfl
@[simp] theorem State.setRing_lentJxs (n : Nat) (r : RingCtx) : (s.setRing n r).lentJxs = s.lentJxs := rfl
@[simp] theorem State.setRing_grid (n : Nat) (r : RingCtx) : (s.setRing n r).grid = s.grid := rfl
@[simp] theorem State.setRing_gridOfs (n : Nat) (r : RingCtx) : (s.setRing n r).gridOfs = s.gridOfs := rfl
@[simp] theorem State.setRing_grpX (n : Nat) (r : RingCtx) : (s.setRing n r).grpX = s.grpX := rfl
@[simp] theorem State.setRing_lipX (n : Nat) (r : RingCtx) : (s.setRing n r).lipX = s.lipX := rfl
@[simp] theorem State.setRing_aHist (n : Nat) (r : RingCtx) : (s.setRing n r).aHist = s.aHist := rfl
@[simp] theorem State.setRing_npHist (n : Nat) (r : RingCtx) : (s.setRing n r).npHist = s.npHist := rfl
@[simp] theorem State.setRing_routeX (n : Nat) (r : RingCtx) : (s.setRing n r).routeX = s.routeX := rfl
@[simp] theorem State.setRing_aFrames (n : Nat) (r : RingCtx) : (s.setRing n r).aFrames = s.aFrames := rfl
@[simp] theorem State.setRing_insX (n : Nat) (r : RingCtx) : (s.setRing n r).insX = s.insX := rfl
@[simp] theorem State.setRing_tapX (n : Nat) (r : RingCtx) : (s.setRing n r).tapX = s.tapX := rfl
@[simp] theorem State.setRing_cueX (n : Nat) (r : RingCtx) : (s.setRing n r).cueX = s.cueX := rfl
@[simp] theorem State.setRing_progs (n : Nat) (r : RingCtx) : (s.setRing n r).progs = s.progs := rfl
@[simp] theorem State.setRing_staged (n : Nat) (r : RingCtx) : (s.setRing n r).staged = s.staged := rfl
@[simp] theorem State.setRing_stagedN (n : Nat) (r : RingCtx) : (s.setRing n r).stagedN = s.stagedN := rfl
@[simp] theorem State.setRing_lateDue (n : Nat) (r : RingCtx) : (s.setRing n r).lateDue = s.lateDue := rfl
@[simp] theorem State.setRing_powerOn (n : Nat) (r : RingCtx) : (s.setRing n r).powerOn = s.powerOn := rfl
@[simp] theorem State.setRing_recs (n : Nat) (r : RingCtx) : (s.setRing n r).recs = s.recs := rfl
@[simp] theorem State.setRing_detN (n : Nat) (r : RingCtx) : (s.setRing n r).detN = s.detN := rfl
@[simp] theorem State.setRing_replay (n : Nat) (r : RingCtx) : (s.setRing n r).replay = s.replay := rfl
@[simp] theorem State.setRing_engEvt (n : Nat) (r : RingCtx) : (s.setRing n r).engEvt = s.engEvt := rfl
@[simp] theorem State.setRing_tln (n : Nat) (r : RingCtx) : (s.setRing n r).tln = s.tln := rfl
@[simp] theorem State.setRing_candX (n : Nat) (r : RingCtx) : (s.setRing n r).candX = s.candX := rfl
@[simp] theorem State.setRing_refX (n : Nat) (r : RingCtx) : (s.setRing n r).refX = s.refX := rfl
@[simp] theorem State.setRing_ptpX (n : Nat) (r : RingCtx) : (s.setRing n r).ptpX = s.ptpX := rfl
@[simp] theorem State.setRing_fwX (n : Nat) (r : RingCtx) : (s.setRing n r).fwX = s.fwX := rfl
@[simp] theorem State.setRing_eccPix (n : Nat) (r : RingCtx) : (s.setRing n r).eccPix = s.eccPix := rfl
@[simp] theorem State.setRing_locks (n : Nat) (r : RingCtx) : (s.setRing n r).locks = s.locks := rfl
@[simp] theorem State.setRing_mbq (n : Nat) (r : RingCtx) : (s.setRing n r).mbq = s.mbq := rfl
@[simp] theorem State.setRing_mbAir (n : Nat) (r : RingCtx) : (s.setRing n r).mbAir = s.mbAir := rfl
@[simp] theorem State.setRing_fwMsg (n : Nat) (r : RingCtx) : (s.setRing n r).fwMsg = s.fwMsg := rfl
@[simp] theorem State.setRing_fwReplies (n : Nat) (r : RingCtx) : (s.setRing n r).fwReplies = s.fwReplies := rfl
@[simp] theorem State.setRing_temps (n : Nat) (r : RingCtx) : (s.setRing n r).temps = s.temps := rfl
@[simp] theorem State.setRing_nvs (n : Nat) (r : RingCtx) : (s.setRing n r).nvs = s.nvs := rfl
@[simp] theorem State.setRing_evid (n : Nat) (r : RingCtx) : (s.setRing n r).evid = s.evid := rfl
@[simp] theorem State.setRing_ifcMap (n : Nat) (r : RingCtx) : (s.setRing n r).ifcMap = s.ifcMap := rfl
@[simp] theorem State.setRing_twnX (n : Nat) (r : RingCtx) : (s.setRing n r).twnX = s.twnX := rfl
@[simp] theorem State.setRing_decOwn (n : Nat) (r : RingCtx) : (s.setRing n r).decOwn = s.decOwn := rfl
@[simp] theorem State.setRing_swPend (n : Nat) (r : RingCtx) : (s.setRing n r).swPend = s.swPend := rfl
@[simp] theorem State.setRing_imgDigest (n : Nat) (r : RingCtx) : (s.setRing n r).imgDigest = s.imgDigest := rfl
@[simp] theorem State.setRing_burnTo (n : Nat) (r : RingCtx) : (s.setRing n r).burnTo = s.burnTo := rfl
@[simp] theorem State.setRing_attQ (n : Nat) (r : RingCtx) : (s.setRing n r).attQ = s.attQ := rfl
@[simp] theorem State.setRing_dom (n : Nat) (r : RingCtx) : (s.setRing n r).dom = s.dom := rfl
@[simp] theorem State.setRing_ports (n : Nat) (r : RingCtx) : (s.setRing n r).ports = s.ports := rfl
@[simp] theorem State.setRing_limpLatch (n : Nat) (r : RingCtx) : (s.setRing n r).limpLatch = s.limpLatch := rfl
@[simp] theorem State.setRing_modeFrom (n : Nat) (r : RingCtx) : (s.setRing n r).modeFrom = s.modeFrom := rfl
@[simp] theorem State.setRing_segRun (n : Nat) (r : RingCtx) : (s.setRing n r).segRun = s.segRun := rfl
@[simp] theorem State.setRing_bootStep (n : Nat) (r : RingCtx) : (s.setRing n r).bootStep = s.bootStep := rfl
@[simp] theorem State.setRing_pairStop (n : Nat) (r : RingCtx) : (s.setRing n r).pairStop = s.pairStop := rfl
@[simp] theorem State.setRing_image (n : Nat) (r : RingCtx) : (s.setRing n r).image = s.image := rfl
@[simp] theorem State.setRing_svcRun (n : Nat) (r : RingCtx) : (s.setRing n r).svcRun = s.svcRun := rfl
@[simp] theorem State.setRing_warned (n : Nat) (r : RingCtx) : (s.setRing n r).warned = s.warned := rfl
@[simp] theorem State.setRing_scanCells (n : Nat) (r : RingCtx) : (s.setRing n r).scanCells = s.scanCells := rfl
@[simp] theorem State.setRing_scanTest (n : Nat) (r : RingCtx) : (s.setRing n r).scanTest = s.scanTest := rfl
@[simp] theorem State.setRing_free (n : Nat) (r : RingCtx) : (s.setRing n r).free = s.free := rfl
@[simp] theorem State.setRing_pending (n : Nat) (r : RingCtx) : (s.setRing n r).pending = s.pending := rfl
@[simp] theorem State.setRing_rdk (n : Nat) (r : RingCtx) (g : Fld) (i j : Nat) : (s.setRing n r).rdk g i j = s.rdk g i j := rfl

/-! ### State.setDom writes `dom` only -/

@[simp] theorem State.setDom_fuses (d : Nat) (x : Dom) : (s.setDom d x).fuses = s.fuses := rfl
@[simp] theorem State.setDom_pins (d : Nat) (x : Dom) : (s.setDom d x).pins = s.pins := rfl
@[simp] theorem State.setDom_now (d : Nat) (x : Dom) : (s.setDom d x).now = s.now := rfl
@[simp] theorem State.setDom_epoch (d : Nat) (x : Dom) : (s.setDom d x).epoch = s.epoch := rfl
@[simp] theorem State.setDom_regs (d : Nat) (x : Dom) : (s.setDom d x).regs = s.regs := rfl
@[simp] theorem State.setDom_hbm (d : Nat) (x : Dom) : (s.setDom d x).hbm = s.hbm := rfl
@[simp] theorem State.setDom_unfenced (d : Nat) (x : Dom) : (s.setDom d x).unfenced = s.unfenced := rfl
@[simp] theorem State.setDom_eccFixed (d : Nat) (x : Dom) : (s.setDom d x).eccFixed = s.eccFixed := rfl
@[simp] theorem State.setDom_evts (d : Nat) (x : Dom) : (s.setDom d x).evts = s.evts := rfl
@[simp] theorem State.setDom_allocs (d : Nat) (x : Dom) : (s.setDom d x).allocs = s.allocs := rfl
@[simp] theorem State.setDom_objs (d : Nat) (x : Dom) : (s.setDom d x).objs = s.objs := rfl
@[simp] theorem State.setDom_sessPrin (d : Nat) (x : Dom) : (s.setDom d x).sessPrin = s.sessPrin := rfl
@[simp] theorem State.setDom_rings (d : Nat) (x : Dom) : (s.setDom d x).rings = s.rings := rfl
@[simp] theorem State.setDom_binds (d : Nat) (x : Dom) : (s.setDom d x).binds = s.binds := rfl
@[simp] theorem State.setDom_taken (d : Nat) (x : Dom) : (s.setDom d x).taken = s.taken := rfl
@[simp] theorem State.setDom_hold (d : Nat) (x : Dom) : (s.setDom d x).hold = s.hold := rfl
@[simp] theorem State.setDom_resp (d : Nat) (x : Dom) : (s.setDom d x).resp = s.resp := rfl
@[simp] theorem State.setDom_cpl (d : Nat) (x : Dom) : (s.setDom d x).cpl = s.cpl := rfl
@[simp] theorem State.setDom_outs (d : Nat) (x : Dom) : (s.setDom d x).outs = s.outs := rfl
@[simp] theorem State.setDom_revoked (d : Nat) (x : Dom) : (s.setDom d x).revoked = s.revoked := rfl
@[simp] theorem State.setDom_imageDue (d : Nat) (x : Dom) : (s.setDom d x).imageDue = s.imageDue := rfl
@[simp] theorem State.setDom_laneX (d : Nat) (x : Dom) : (s.setDom d x).laneX = s.laneX := rfl
@[simp] theorem State.setDom_eqTable (d : Nat) (x : Dom) : (s.setDom d x).eqTable = s.eqTable := rfl
@[simp] theorem State.setDom_limpMap (d : Nat) (x : Dom) : (s.setDom d x).limpMap = s.limpMap := rfl
@[simp] theorem State.setDom_portX (d : Nat) (x : Dom) : (s.setDom d x).portX = s.portX := rfl
@[simp] theorem State.setDom_sync (d : Nat) (x : Dom) : (s.setDom d x).sync = s.sync := rfl
@[simp] theorem State.setDom_charges (d : Nat) (x : Dom) : (s.setDom d x).charges = s.charges := rfl
@[simp] theorem State.setDom_xfeed (d : Nat) (x : Dom) : (s.setDom d x).xfeed = s.xfeed := rfl
@[simp] theorem State.setDom_lineTr (d : Nat) (x : Dom) : (s.setDom d x).lineTr = s.lineTr := rfl
@[simp] theorem State.setDom_inUse (d : Nat) (x : Dom) : (s.setDom d x).inUse = s.inUse := rfl
@[simp] theorem State.setDom_qual (d : Nat) (x : Dom) : (s.setDom d x).qual = s.qual := rfl
@[simp] theorem State.setDom_jobs (d : Nat) (x : Dom) : (s.setDom d x).jobs = s.jobs := rfl
@[simp] theorem State.setDom_surfs (d : Nat) (x : Dom) : (s.setDom d x).surfs = s.surfs := rfl
@[simp] theorem State.setDom_pipeX (d : Nat) (x : Dom) : (s.setDom d x).pipeX = s.pipeX := rfl
@[simp] theorem State.setDom_lentFetch (d : Nat) (x : Dom) : (s.setDom d x).lentFetch = s.lentFetch := rfl
@[simp] theorem State.setDom_lentJxs (d : Nat) (x : Dom) : (s.setDom d x).lentJxs = s.lentJxs := rfl
@[simp] theorem State.setDom_grid (d : Nat) (x : Dom) : (s.setDom d x).grid = s.grid := rfl
@[simp] theorem State.setDom_gridOfs (d : Nat) (x : Dom) : (s.setDom d x).gridOfs = s.gridOfs := rfl
@[simp] theorem State.setDom_grpX (d : Nat) (x : Dom) : (s.setDom d x).grpX = s.grpX := rfl
@[simp] theorem State.setDom_lipX (d : Nat) (x : Dom) : (s.setDom d x).lipX = s.lipX := rfl
@[simp] theorem State.setDom_aHist (d : Nat) (x : Dom) : (s.setDom d x).aHist = s.aHist := rfl
@[simp] theorem State.setDom_npHist (d : Nat) (x : Dom) : (s.setDom d x).npHist = s.npHist := rfl
@[simp] theorem State.setDom_routeX (d : Nat) (x : Dom) : (s.setDom d x).routeX = s.routeX := rfl
@[simp] theorem State.setDom_aFrames (d : Nat) (x : Dom) : (s.setDom d x).aFrames = s.aFrames := rfl
@[simp] theorem State.setDom_insX (d : Nat) (x : Dom) : (s.setDom d x).insX = s.insX := rfl
@[simp] theorem State.setDom_tapX (d : Nat) (x : Dom) : (s.setDom d x).tapX = s.tapX := rfl
@[simp] theorem State.setDom_cueX (d : Nat) (x : Dom) : (s.setDom d x).cueX = s.cueX := rfl
@[simp] theorem State.setDom_progs (d : Nat) (x : Dom) : (s.setDom d x).progs = s.progs := rfl
@[simp] theorem State.setDom_staged (d : Nat) (x : Dom) : (s.setDom d x).staged = s.staged := rfl
@[simp] theorem State.setDom_stagedN (d : Nat) (x : Dom) : (s.setDom d x).stagedN = s.stagedN := rfl
@[simp] theorem State.setDom_lateDue (d : Nat) (x : Dom) : (s.setDom d x).lateDue = s.lateDue := rfl
@[simp] theorem State.setDom_powerOn (d : Nat) (x : Dom) : (s.setDom d x).powerOn = s.powerOn := rfl
@[simp] theorem State.setDom_recs (d : Nat) (x : Dom) : (s.setDom d x).recs = s.recs := rfl
@[simp] theorem State.setDom_detN (d : Nat) (x : Dom) : (s.setDom d x).detN = s.detN := rfl
@[simp] theorem State.setDom_replay (d : Nat) (x : Dom) : (s.setDom d x).replay = s.replay := rfl
@[simp] theorem State.setDom_engEvt (d : Nat) (x : Dom) : (s.setDom d x).engEvt = s.engEvt := rfl
@[simp] theorem State.setDom_tln (d : Nat) (x : Dom) : (s.setDom d x).tln = s.tln := rfl
@[simp] theorem State.setDom_candX (d : Nat) (x : Dom) : (s.setDom d x).candX = s.candX := rfl
@[simp] theorem State.setDom_refX (d : Nat) (x : Dom) : (s.setDom d x).refX = s.refX := rfl
@[simp] theorem State.setDom_ptpX (d : Nat) (x : Dom) : (s.setDom d x).ptpX = s.ptpX := rfl
@[simp] theorem State.setDom_fwX (d : Nat) (x : Dom) : (s.setDom d x).fwX = s.fwX := rfl
@[simp] theorem State.setDom_eccPix (d : Nat) (x : Dom) : (s.setDom d x).eccPix = s.eccPix := rfl
@[simp] theorem State.setDom_locks (d : Nat) (x : Dom) : (s.setDom d x).locks = s.locks := rfl
@[simp] theorem State.setDom_mbq (d : Nat) (x : Dom) : (s.setDom d x).mbq = s.mbq := rfl
@[simp] theorem State.setDom_mbAir (d : Nat) (x : Dom) : (s.setDom d x).mbAir = s.mbAir := rfl
@[simp] theorem State.setDom_fwMsg (d : Nat) (x : Dom) : (s.setDom d x).fwMsg = s.fwMsg := rfl
@[simp] theorem State.setDom_fwReplies (d : Nat) (x : Dom) : (s.setDom d x).fwReplies = s.fwReplies := rfl
@[simp] theorem State.setDom_temps (d : Nat) (x : Dom) : (s.setDom d x).temps = s.temps := rfl
@[simp] theorem State.setDom_nvs (d : Nat) (x : Dom) : (s.setDom d x).nvs = s.nvs := rfl
@[simp] theorem State.setDom_evid (d : Nat) (x : Dom) : (s.setDom d x).evid = s.evid := rfl
@[simp] theorem State.setDom_ifcMap (d : Nat) (x : Dom) : (s.setDom d x).ifcMap = s.ifcMap := rfl
@[simp] theorem State.setDom_twnX (d : Nat) (x : Dom) : (s.setDom d x).twnX = s.twnX := rfl
@[simp] theorem State.setDom_decOwn (d : Nat) (x : Dom) : (s.setDom d x).decOwn = s.decOwn := rfl
@[simp] theorem State.setDom_swPend (d : Nat) (x : Dom) : (s.setDom d x).swPend = s.swPend := rfl
@[simp] theorem State.setDom_imgDigest (d : Nat) (x : Dom) : (s.setDom d x).imgDigest = s.imgDigest := rfl
@[simp] theorem State.setDom_burnTo (d : Nat) (x : Dom) : (s.setDom d x).burnTo = s.burnTo := rfl
@[simp] theorem State.setDom_attQ (d : Nat) (x : Dom) : (s.setDom d x).attQ = s.attQ := rfl
@[simp] theorem State.setDom_ports (d : Nat) (x : Dom) : (s.setDom d x).ports = s.ports := rfl
@[simp] theorem State.setDom_limpLatch (d : Nat) (x : Dom) : (s.setDom d x).limpLatch = s.limpLatch := rfl
@[simp] theorem State.setDom_modeFrom (d : Nat) (x : Dom) : (s.setDom d x).modeFrom = s.modeFrom := rfl
@[simp] theorem State.setDom_segRun (d : Nat) (x : Dom) : (s.setDom d x).segRun = s.segRun := rfl
@[simp] theorem State.setDom_bootStep (d : Nat) (x : Dom) : (s.setDom d x).bootStep = s.bootStep := rfl
@[simp] theorem State.setDom_pairStop (d : Nat) (x : Dom) : (s.setDom d x).pairStop = s.pairStop := rfl
@[simp] theorem State.setDom_image (d : Nat) (x : Dom) : (s.setDom d x).image = s.image := rfl
@[simp] theorem State.setDom_svcRun (d : Nat) (x : Dom) : (s.setDom d x).svcRun = s.svcRun := rfl
@[simp] theorem State.setDom_warned (d : Nat) (x : Dom) : (s.setDom d x).warned = s.warned := rfl
@[simp] theorem State.setDom_scanCells (d : Nat) (x : Dom) : (s.setDom d x).scanCells = s.scanCells := rfl
@[simp] theorem State.setDom_scanTest (d : Nat) (x : Dom) : (s.setDom d x).scanTest = s.scanTest := rfl
@[simp] theorem State.setDom_free (d : Nat) (x : Dom) : (s.setDom d x).free = s.free := rfl
@[simp] theorem State.setDom_pending (d : Nat) (x : Dom) : (s.setDom d x).pending = s.pending := rfl
@[simp] theorem State.setDom_rdk (d : Nat) (x : Dom) (g : Fld) (i j : Nat) : (s.setDom d x).rdk g i j = s.rdk g i j := rfl

/-! ### What the written field becomes -/

@[simp] theorem State.wrk_regs (f : Fld) (u k v : Nat) : (s.wrk f u k v).regs = regSet s.regs f u k v := rfl
@[simp] theorem State.send_outs (o : Out) : (s.send o).outs = o :: s.outs := rfl
@[simp] theorem State.drawn_free : s.drawn.free = s.free + 1 := rfl
@[simp] theorem State.respond_resp (d : Nat) : (s.respond d).resp = ⟨0, d⟩ := rfl
@[simp] theorem State.setRing_rings (i : Nat) (r : RingCtx) : (s.setRing i r).rings = tput s.rings i r := rfl

/-- The object at the index recorded is the one recorded. -/
theorem State.setObj_obj_same (kind idx : Nat) (x : Obj) : (s.setObj kind idx x).obj kind idx = x := by
  simp [State.obj, State.setObj]

/-- The object at any other place is the one before. -/
theorem State.setObj_obj_ne (kind idx kind' idx' : Nat) (x : Obj) (h : objKey kind' idx' ≠ objKey kind idx) :
    (s.setObj kind idx x).obj kind' idx' = s.obj kind' idx' := by
  simp [State.obj, State.setObj, tget_tput_ne, h]

@[simp] theorem State.setDom_same (d : Nat) (x : Dom) : (s.setDom d x).domain d = x := by simp [State.domain, State.setDom]

theorem State.setDom_ne (d d' : Nat) (x : Dom) (h : d' ≠ d) : (s.setDom d x).domain d' = s.domain d' := by
  simp [State.domain, State.setDom, tget_tput_ne, h]

/-! ### Registers -/

theorem State.rd_eq (f : Fld) (u : Nat) : s.rd f u = s.rdk f u 0 := rfl
theorem State.wr_eq (f : Fld) (u v : Nat) : s.wr f u v = s.wrk f u 0 v := rfl
theorem State.inc_eq (f : Fld) (u : Nat) : s.inc f u = s.wrk f u 0 (satAdd f.width (s.rdk f u 0) 1) := rfl
theorem State.addSat_eq (f : Fld) (u k n : Nat) : s.addSat f u k n = s.wrk f u k (satAdd f.width (s.rdk f u k) n) := rfl

/-- A field reads as the low bits of what was written to it. -/
theorem State.rdk_wrk_same (f : Fld) (u k v : Nat) : (s.wrk f u k v).rdk f u k = v % 2 ^ f.width := by
  simp [State.rdk, State.wrk, regGet, regSet]

/-- Writing a field leaves every other field, and the same field of every other unit and index. -/
theorem State.rdk_wrk_ne (f g : Fld) (u k v i j : Nat) (h : Fld.key g ≠ Fld.key f ∨ i ≠ u ∨ j ≠ k) :
    (s.wrk f u k v).rdk g i j = s.rdk g i j := by
  simp only [State.rdk, State.wrk, regGet, regSet]
  by_cases h1 : Fld.key g = Fld.key f
  · rw [h1]
    simp only [tget_tset_same]
    by_cases h2 : i = u
    · subst h2
      simp only [tget_tset_same]
      have h3 : j ≠ k := by rcases h with h | h | h
                            · exact absurd h1 h
                            · exact absurd rfl h
                            · exact h
      by_cases hv : v % 2 ^ f.width = f.rst
      · simp only [tset, hv, if_true]
        simp only [tget, tfind_tdel_ne _ h3]
      · simp only [tset, hv, if_false, tget, tfind_tput_ne _ _ h3]
    · rw [tget_tset_ne _ _ _ h2]
  · rw [tget_tset_ne _ _ _ h1]

/-- Reading back, where the two fields may or may not be the same. -/
theorem State.rdk_wrk (f : Fld) (u k v i j : Nat) :
    (s.wrk f u k v).rdk f i j = if i = u ∧ j = k then v % 2 ^ f.width else s.rdk f i j := by
  by_cases h : i = u ∧ j = k
  · obtain ⟨rfl, rfl⟩ := h; simp [State.rdk_wrk_same]
  · rw [if_neg h]; exact s.rdk_wrk_ne f f u k v i j (by by_cases hi : i = u; exact .inr (.inr fun hj => h ⟨hi, hj⟩); exact .inr (.inl hi))

end Sys2Proof.Machine
end

