-- ==== Sys2Proof/Laws/Checks.lean ====
section
/-! SUPPORT. What the checks of R20 answer, and what an access or an admin command is once its checks pass or fail. -/

namespace Sys2Proof.Machine

open Sys2Proof

/-- The first of two statuses is one of the two. -/
theorem Status.first_cases (a b : Status) : Status.first a b = a ∨ Status.first a b = b := by
  unfold Status.first; split <;> simp

theorem Status.rank_le_ok (a : Status) : a.rank ≤ Status.rank .ok := by cases a <;> decide

theorem Status.first_rank_le (a b : Status) : (Status.first a b).rank ≤ a.rank ∧ (Status.first a b).rank ≤ b.rank := by
  unfold Status.first; split <;> constructor <;> omega

theorem Status.rank_inj {a b : Status} (h : a.rank = b.rank) : a = b := by
  cases a <;> cases b <;> first | rfl | (exact absurd h (by decide))

theorem check_append (l : List (Bool × Status)) (a : Status) (r : List (Bool × Status)) :
    (l ++ r).foldl (fun a e => if e.1 then Status.first a e.2 else a) a
      = r.foldl (fun a e => if e.1 then Status.first a e.2 else a) (l.foldl (fun a e => if e.1 then Status.first a e.2 else a) a) :=
  List.foldl_append

/-- Folding the checks never reports a later place than it started from. -/
theorem check_fold_le (l : List (Bool × Status)) (a : Status) :
    (l.foldl (fun a e => if e.1 then Status.first a e.2 else a) a).rank ≤ a.rank := by
  induction l generalizing a with
  | nil => exact Nat.le_refl _
  | cons e t ih =>
    simp only [List.foldl_cons]
    refine Nat.le_trans (ih _) ?_
    split
    · exact (Status.first_rank_le a e.2).1
    · exact Nat.le_refl _

/-- The status reported comes no later in the order than any check that fails (R20). -/
theorem check_le (l : List (Bool × Status)) (e : Bool × Status) (he : e ∈ l) (hf : e.1 = true) : (check l).rank ≤ e.2.rank := by
  unfold check
  generalize Status.ok = a
  induction l generalizing a with
  | nil => cases he
  | cons x t ih =>
    simp only [List.foldl_cons]
    rcases List.mem_cons.mp he with rfl | ht
    · simp only [hf, if_true]
      exact Nat.le_trans (check_fold_le t _) (Status.first_rank_le a e.2).2
    · exact ih ht _

/-- The status reported is OK or that of a check that fails. -/
theorem check_mem (l : List (Bool × Status)) : check l = .ok ∨ ∃ e ∈ l, e.1 = true ∧ e.2 = check l := by
  unfold check
  suffices h : ∀ a : Status, l.foldl (fun a e => if e.1 then Status.first a e.2 else a) a = a
      ∨ ∃ e ∈ l, e.1 = true ∧ e.2 = l.foldl (fun a e => if e.1 then Status.first a e.2 else a) a from h .ok
  induction l with
  | nil => intro a; exact .inl rfl
  | cons x t ih =>
    intro a
    simp only [List.foldl_cons]
    rcases ih (if x.1 then Status.first a x.2 else a) with h | ⟨e, he, h1, h2⟩
    · by_cases hx : x.1 = true
      · simp only [hx, if_true] at h ⊢
        rcases Status.first_cases a x.2 with h' | h'
        · rw [h'] at h ⊢; exact .inl h
        · right; exact ⟨x, .head _, hx, by rw [h, h']⟩
      · simp only [hx, if_false, Bool.false_eq_true] at h ⊢; exact .inl h
    · exact .inr ⟨e, .tail _ he, h1, h2⟩

/-- The checks pass exactly when none with a status other than OK fails. -/
theorem check_ok_iff (l : List (Bool × Status)) : check l = .ok ↔ ∀ e ∈ l, e.1 = true → e.2 = .ok := by
  constructor
  · intro h e he hf
    have := check_le l e he hf
    rw [h] at this
    have h2 := e.2.rank_le_ok
    exact Status.rank_inj (by omega)
  · intro h
    rcases check_mem l with h1 | ⟨e, he, hf, h2⟩
    · exact h1
    · rw [← h2]; exact h e he hf

/-- Of checks that pass, the first ones pass. -/
theorem check_ok_left {l l' : List (Bool × Status)} (h : check (l ++ l') = .ok) : check l = .ok :=
  (check_ok_iff l).mpr fun e he => (check_ok_iff _).mp h e (List.mem_append_left l' he)

/-- An access whose checks pass, those of the fabric among them, is its effect, on the state in which a sleeping target is awake and the response is OK. -/
theorem State.answer_ok (s : State) (p a : Nat) (write : Bool) (l : List (Bool × Status)) (act : State → State)
    (h : check (s.fabricChecks p a write ++ l) = .ok) :
    s.answer p a write (s.fabricChecks p a write ++ l) act = act ((s.wakeAt a).respond 0) := by
  simp [State.answer, check_ok_left h, h]

/-- An access that the fabric takes to its target, and whose checks fail there, is an error response, with the target awake. -/
theorem State.answer_deny (s : State) (p a : Nat) (write : Bool) (l : List (Bool × Status)) (act : State → State)
    (hf : check (s.fabricChecks p a write) = .ok) (h : check l ≠ .ok) : s.answer p a write l act = (s.wakeAt a).deny (check l) p a write := by
  simp [State.answer, hf, h]

/-- A register access whose checks pass is its effect. -/
theorem State.gate_ok (s : State) (p a : Nat) (write : Bool) (own : List (Bool × Status)) (act : State → State)
    (h : check (s.accessChecks p a write ++ own) = .ok) : s.gate p a write own act = act ((s.wakeAt a).respond 0) := by
  unfold State.gate State.accessChecks
  unfold State.accessChecks at h
  rw [List.append_assoc] at h ⊢
  exact s.answer_ok p a write _ act h

/-- What an access answers whose checks fail while no locked sequence meets it: the error response, with the target awake where the fabric reached it. -/
theorem State.gate_deny (s : State) (p a : Nat) (write : Bool) (own : List (Bool × Status)) (act : State → State)
    (hb : check (s.fabricChecks p a write) ≠ .busy) (h : check (s.accessChecks p a write ++ own) ≠ .ok) :
    s.gate p a write own act
      = (if check (s.fabricChecks p a write) = .ok then s.wakeAt a else s).deny (check (s.accessChecks p a write ++ own)) p a write := by
  unfold State.gate State.answer
  cases hc : check (s.fabricChecks p a write) <;> simp_all

/-- Waking the target leaves every register. -/
@[simp] theorem State.wakeAt_rdk (s : State) (a : Nat) (f : Fld) (u k : Nat) : (s.wakeAt a).rdk f u k = s.rdk f u k := by
  unfold State.wakeAt State.wake
  cases domainAt a with
  | none => rfl
  | some d => dsimp only; split <;> rfl

/-- Waking the target changes the run of timeouts and the domain table only. -/
theorem State.wakeAt_frame (s : State) (a : Nat) :
    s.wakeAt a = { s with segRun := (s.wakeAt a).segRun, dom := (s.wakeAt a).dom } := by
  unfold State.wakeAt State.wake
  cases domainAt a with
  | none => rfl
  | some d => dsimp only; split <;> rfl

end Sys2Proof.Machine
end

