-- ==== Sys2Proof/Laws/Memory.lean ====
section
/-! SUPPORT. Memory: a byte reads as what was last written there, every other byte as before, and each operation keeps the canonical form. -/

namespace Sys2Proof.Machine

open Sys2Proof

/-- Read after write, same byte. -/
@[simp] theorem memRead_memWrite_same (m : Memory) (a : Nat) (b : Byte) : memRead (memWrite m a b) a = b := by
  simp [memRead, memWrite]

/-- Read after write, another byte. -/
theorem memRead_memWrite_ne (m : Memory) {a a' : Nat} (b : Byte) (h : a' ≠ a) : memRead (memWrite m a b) a' = memRead m a' := by
  simp [memRead, memWrite, tget_tset_ne, h]

/-- A burst leaves every byte outside it. -/
theorem memRead_writeBytes_outside (m : Memory) (a x : Nat) (bs : List Nat) (h : x < a ∨ a + bs.length ≤ x) :
    memRead (memWriteBytes m a bs) x = memRead m x := by
  induction bs generalizing m a with
  | nil => rfl
  | cons b t ih =>
    simp only [List.length_cons] at h
    rw [memWriteBytes, ih _ _ (by omega), memRead_memWrite_ne _ _ (by omega)]

/-- A burst's bytes read as written. -/
theorem memRead_writeBytes_inside (m : Memory) (a i : Nat) (bs : List Nat) (h : i < bs.length) :
    memRead (memWriteBytes m a bs) (a + i) = BitVec.ofNat 8 bs[i] := by
  induction bs generalizing m a i with
  | nil => simp at h
  | cons b t ih =>
    cases i with
    | zero => rw [memWriteBytes, Nat.add_zero, memRead_writeBytes_outside _ _ _ _ (by omega)]; simp
    | succ i =>
      simp only [List.length_cons] at h
      have := ih (memWrite m a (BitVec.ofNat 8 b)) (a + 1) i (by omega)
      rw [memWriteBytes, ← Nat.add_assoc, Nat.add_right_comm, this]; simp

/-- Reading back a burst gives its bytes. -/
theorem memReadBytes_writeBytes (m : Memory) (a : Nat) (bs : List Nat) :
    memReadBytes (memWriteBytes m a bs) a bs.length = bs.map (· % 256) := by
  induction bs generalizing m a with
  | nil => rfl
  | cons b t ih =>
    simp only [List.length_cons, memReadBytes, memWriteBytes, List.map_cons, ih]
    rw [memRead_writeBytes_outside _ _ _ _ (by omega)]; simp

/-- Clearing reads as nothing written inside, and as before outside. -/
theorem memRead_memClear (m : Memory) (a n x : Nat) :
    memRead (memClear m a n) x = if a ≤ x ∧ x < a + n then memFill else memRead m x := by
  induction m with
  | nil => by_cases h : a ≤ x ∧ x < a + n <;> simp [memClear, memRead, tget]
  | cons e m ih =>
    obtain ⟨k, b⟩ := e
    simp only [memClear, memRead, tget] at ih ⊢
    by_cases hk : a ≤ k ∧ k < a + n
    · simp only [hk, List.filter_cons]
      simp only [decide_true, Bool.and_self, Bool.not_true, if_false, Bool.false_eq_true, ih, tfind]
      by_cases hx : a ≤ x ∧ x < a + n
      · simp [hx]
      · have : k ≠ x := by rintro rfl; exact hx hk
        simp [hx, this]
    · have hd : (decide (a ≤ k) && decide (k < a + n)) = false := by simpa using hk
      simp only [List.filter_cons, hd, Bool.not_false, if_true, tfind]
      by_cases hkx : k = x
      · subst hkx; simp [hk]
      · simp only [hkx, if_false]; exact ih

/-! ### The canonical form -/

/-- Writing one byte keeps the canonical form. -/
theorem memWf_memWrite (m : Memory) (a : Nat) (b : Byte) (h : memWf m = true) : memWf (memWrite m a b) = true := by
  simp only [memWf, Bool.and_eq_true] at h ⊢
  refine ⟨tsorted_tset _ m a b h.1, ?_⟩
  unfold memWrite tset
  by_cases hb : b = memFill
  · simp only [hb, if_true, tdel, List.all_eq_true, List.mem_filter] at h ⊢
    exact fun c hc => h.2 c hc.1
  · simp only [hb, if_false]
    exact all_tput m a b _ h.2 (by simpa using hb)

/-- Writing consecutive bytes keeps the canonical form. -/
theorem memWf_memWriteBytes (m : Memory) (a : Nat) (bs : List Nat) (h : memWf m = true) : memWf (memWriteBytes m a bs) = true := by
  induction bs generalizing m a with
  | nil => exact h
  | cons b t ih => exact ih _ _ (memWf_memWrite m a _ h)

/-- Clearing a range keeps the canonical form. -/
theorem memWf_memClear (m : Memory) (a n : Nat) (h : memWf m = true) : memWf (memClear m a n) = true := by
  simp only [memWf, Bool.and_eq_true] at h ⊢
  refine ⟨tsorted_filter m _ h.1, ?_⟩
  simp only [memClear, List.all_eq_true, List.mem_filter] at h ⊢
  exact fun c hc => h.2 c hc.1

end Sys2Proof.Machine
end

