-- ==== Sys2Proof/Laws/Ops.lean ====
section
/-! SUPPORT. The shared operations, once each: which parts of the state an operation can change (its frame, as a record equation), and that it
leaves every register outside the block it reports in. -/

namespace Sys2Proof.Machine

open Sys2Proof

/-- Whether a field lies outside the FAB block, where the error log, the firewall counters and the fabric's events are. -/
def outsideFab (f : Fld) : Prop := f.base < 0x20000 ∨ 0x30000 ≤ f.base

/-- Whether a field's position is a bit of a 32-bit word. -/
theorem key_ne {f g : Fld} (hf : f.lo < 32) (hg : g.lo < 32) (h : f.base ≠ g.base) : Fld.key f ≠ Fld.key g := by
  unfold Fld.key; omega

/-! ### Counters and flags -/

/-- Two states that differ in registers at most. -/
def RegsOnly (s t : State) : Prop := t = { s with regs := t.regs }

theorem RegsOnly.refl (s : State) : RegsOnly s s := rfl

theorem RegsOnly.wrk {s t : State} (h : RegsOnly s t) (f : Fld) (u k v : Nat) : RegsOnly s (t.wrk f u k v) := by
  unfold RegsOnly at h ⊢; rw [h]; rfl

theorem RegsOnly.trans {s t x : State} (h : RegsOnly s t) (h' : RegsOnly t x) : RegsOnly s x := by
  unfold RegsOnly at h h' ⊢; rw [h', h]

theorem RegsOnly.flag {s t : State} (h : RegsOnly s t) (e : Fld) (occ u k bit : Nat) : RegsOnly s (t.flag e occ u k bit) :=
  (h.wrk e u k _).wrk _ u k _

theorem State.flag_frame (s : State) (e : Fld) (occ u k bit : Nat) : s.flag e occ u k bit = { s with regs := (s.flag e occ u k bit).regs } :=
  (RegsOnly.refl s).flag e occ u k bit

/-- A flag that is raised reads 1 and leaves the other flags of its register (R31). -/
theorem State.flag_rdk (s : State) (e : Fld) (occ u k bit : Nat) (h : Fld.key (occFld occ bit) ≠ Fld.key e) :
    (s.flag e occ u k bit).rdk e u k = setBit (s.rdk e u k) bit % 2 ^ e.width := by
  unfold State.flag
  rw [State.addSat_eq, State.rdk_wrk_ne _ _ _ _ _ _ _ _ (.inl (Ne.symm h)), State.rdk_wrk_same]

/-- A flag that is raised counts its occurrence (R32). -/
theorem State.flag_occ (s : State) (e : Fld) (occ u k bit : Nat) (h : Fld.key (occFld occ bit) ≠ Fld.key e) :
    (s.flag e occ u k bit).rdk (occFld occ bit) u k = min (s.rdk (occFld occ bit) u k + 1) 65535 := by
  unfold State.flag
  rw [State.addSat_eq, State.rdk_wrk_same, State.rdk_wrk_ne _ _ _ _ _ _ _ _ (.inl h)]
  simp only [satAdd, occFld]
  omega

/-- A flag leaves every field at another place. -/
theorem State.flag_rdk_ne (s : State) (e g : Fld) (occ u k bit i j : Nat)
    (h : (Fld.key g ≠ Fld.key e ∧ Fld.key g ≠ Fld.key (occFld occ bit)) ∨ i ≠ u ∨ j ≠ k) :
    (s.flag e occ u k bit).rdk g i j = s.rdk g i j := by
  unfold State.flag
  rw [State.addSat_eq, State.rdk_wrk_ne, State.rdk_wrk_ne]
  · rcases h with h | h | h
    · exact .inl h.1
    · exact .inr (.inl h)
    · exact .inr (.inr h)
  · rcases h with h | h | h
    · exact .inl h.2
    · exact .inr (.inl h)
    · exact .inr (.inr h)

/-! ### The error log (R507, R508) -/

theorem State.logErr_frame (s : State) (st : Status) (p m : Nat) (w h : Bool) (a x : Nat) :
    s.logErr st p m w h a x = { s with regs := (s.logErr st p m w h a x).regs } :=
  ((((((RegsOnly.refl s).wrk _ _ _ _).wrk _ _ _ _).wrk _ _ _ _).wrk _ _ _ _).wrk _ _ _ _).wrk _ _ _ _

theorem State.logErr_rdk (s : State) (st : Status) (p m : Nat) (w h : Bool) (a x : Nat) (f : Fld) (i j : Nat)
    (hf : outsideFab f) (hl : f.lo < 32) : (s.logErr st p m w h a x).rdk f i j = s.rdk f i j := by
  unfold State.logErr
  simp only [State.wr_eq, State.inc_eq]
  have key : ∀ g : Fld, g.lo = 0 → 0x20000 ≤ g.base → g.base < 0x30000 → Fld.key f ≠ Fld.key g := by
    intro g hg h1 h2; unfold Fld.key; unfold outsideFab at hf; omega
  repeat rw [State.rdk_wrk_ne _ _ _ _ _ _ _ _ (.inl (key _ (by decide) (by decide) (by decide)))]

theorem State.fwLog_frame (s : State) (r p m : Nat) (w h : Bool) (a : Nat) : s.fwLog r p m w h a = { s with regs := (s.fwLog r p m w h a).regs } :=
  (RegsOnly.wrk (s.logErr_frame _ _ _ _ _ _ _) _ _ _ _).flag _ _ _ _ _

theorem State.fwLog_rdk (s : State) (r p m : Nat) (w h : Bool) (a : Nat) (f : Fld) (i j : Nat) (hf : outsideFab f) (hl : f.lo < 32) :
    (s.fwLog r p m w h a).rdk f i j = s.rdk f i j := by
  have key : ∀ g : Fld, g.lo < 32 → 0x20000 ≤ g.base → g.base < 0x30000 → Fld.key f ≠ Fld.key g := by
    intro g hg h1 h2; unfold Fld.key; unfold outsideFab at hf; omega
  unfold State.fwLog
  rw [State.flag_rdk_ne _ _ _ _ _ _ _ _ _ (.inl ⟨key _ (by decide) (by decide) (by decide), key _ (by decide) (by decide) (by decide)⟩),
    State.inc_eq, State.rdk_wrk_ne _ _ _ _ _ _ _ _ (.inl (key _ (by decide) (by decide) (by decide))), State.logErr_rdk _ _ _ _ _ _ _ _ _ _ _ hf hl]

/-- An error response changes registers of the error log and the response only. -/
theorem State.deny_frame (s : State) (st : Status) (p a : Nat) (w : Bool) :
    s.deny st p a w = { s with regs := (s.deny st p a w).regs, resp := ⟨st.code, if w then 0 else 0xFFFF0000 + st.code⟩ } := by
  unfold State.deny
  dsimp only
  split
  · rw [State.fwLog_frame]
  · rw [State.logErr_frame]

theorem State.deny_rdk (s : State) (st : Status) (p a : Nat) (w : Bool) (f : Fld) (i j : Nat) (hf : outsideFab f) (hl : f.lo < 32) :
    (s.deny st p a w).rdk f i j = s.rdk f i j := by
  have key : ∀ s' : State, ∀ x, ({ s' with resp := x } : State).rdk f i j = s'.rdk f i j := fun _ _ => rfl
  unfold State.deny
  dsimp only
  rw [key]
  split
  · exact State.fwLog_rdk _ _ _ _ _ _ _ _ _ _ hf hl
  · exact State.logErr_rdk _ _ _ _ _ _ _ _ _ _ _ hf hl

/-! ### HBM, rings and events -/

theorem State.hbmPut_frame (s : State) (w : Option Nat) (p m a : Nat) (b : List Nat) :
    s.hbmPut w p m a b = { s with hbm := (s.hbmPut w p m a b).hbm, unfenced := (s.hbmPut w p m a b).unfenced, regs := (s.hbmPut w p m a b).regs } := by
  unfold State.hbmPut
  split
  · rw [State.fwLog_frame]
  · split <;> rfl

theorem State.hbmPut_rdk (s : State) (w : Option Nat) (p m a : Nat) (b : List Nat) (f : Fld) (i j : Nat) (hf : outsideFab f) (hl : f.lo < 32) :
    (s.hbmPut w p m a b).rdk f i j = s.rdk f i j := by
  unfold State.hbmPut
  split
  · exact State.fwLog_rdk _ _ _ _ _ _ _ _ _ _ hf hl
  · split <;> rfl

theorem State.ringWrite_frame (s : State) (w : Option Nat) (r : RingCtx) (n : Nat) (b : List Nat) :
    s.ringWrite w r n b = { s with hbm := (s.ringWrite w r n b).hbm, unfenced := (s.ringWrite w r n b).unfenced,
                                   regs := (s.ringWrite w r n b).regs, outs := (s.ringWrite w r n b).outs } := by
  unfold State.ringWrite
  split
  · rfl
  · split
    · rfl
    · rw [State.hbmPut_frame]

theorem State.ringWrite_rdk (s : State) (w : Option Nat) (r : RingCtx) (n : Nat) (b : List Nat) (f : Fld) (i j : Nat) (hf : outsideFab f) (hl : f.lo < 32) :
    (s.ringWrite w r n b).rdk f i j = s.rdk f i j := by
  unfold State.ringWrite
  split
  · rfl
  · split
    · rfl
    · exact State.hbmPut_rdk _ _ _ _ _ _ _ _ _ hf hl

theorem State.ringPushBy_frame (s : State) (w : Option Nat) (n : Nat) (b : List Nat) (q : Bool) :
    s.ringPushBy w n b q = { s with hbm := (s.ringPushBy w n b q).hbm, unfenced := (s.ringPushBy w n b q).unfenced,
                                    regs := (s.ringPushBy w n b q).regs, outs := (s.ringPushBy w n b q).outs,
                                    rings := (s.ringPushBy w n b q).rings } := by
  unfold State.ringPushBy
  split
  · rfl
  · split
    · rfl
    · dsimp only
      split <;> · rw [State.ringWrite_frame]; rfl

theorem State.ringPush_frame (s : State) (n : Nat) (b : List Nat) (q : Bool) :
    s.ringPush n b q = { s with hbm := (s.ringPush n b q).hbm, unfenced := (s.ringPush n b q).unfenced, regs := (s.ringPush n b q).regs,
                                outs := (s.ringPush n b q).outs, rings := (s.ringPush n b q).rings } :=
  State.ringPushBy_frame s none n b q

theorem State.ringPush_rdk (s : State) (n : Nat) (b : List Nat) (q : Bool) (f : Fld) (i j : Nat) (hf : outsideFab f) (hl : f.lo < 32) :
    (s.ringPush n b q).rdk f i j = s.rdk f i j := by
  unfold State.ringPush State.ringPushBy
  split
  · rfl
  · split
    · rfl
    · dsimp only
      split <;> simp [State.ringWrite_rdk _ _ _ _ _ _ _ _ hf hl]

theorem State.notify_frame (s : State) (h c : Nat) : s.notify h c = { s with cueX := (s.notify h c).cueX } := by
  unfold State.notify; split <;> rfl

theorem State.evidence_frame (s : State) (b a : Nat) : s.evidence b a = { s with outs := (s.evidence b a).outs, evid := (s.evidence b a).evid } := by
  unfold State.evidence; split <;> rfl

theorem State.eventEvidence_frame (s : State) (c : Nat) :
    s.eventEvidence c = { s with outs := (s.eventEvidence c).outs, evid := (s.eventEvidence c).evid } := by
  unfold State.eventEvidence; split
  · exact State.evidence_frame _ _ _
  · split
    · exact State.evidence_frame _ _ _
    · rfl

/-- Posting an event changes the wakes of threads, what leaves the block, the evidence, the ring it is written to, HBM where that ring lies
there, and the fabric's registers when a region refuses the write. -/
theorem State.post_frame (s : State) (kind idx code : Nat) (st : Status) (fsn line occ arg : Nat) :
    s.post kind idx code st fsn line occ arg
      = { s with cueX := (s.post kind idx code st fsn line occ arg).cueX, outs := (s.post kind idx code st fsn line occ arg).outs,
                 evid := (s.post kind idx code st fsn line occ arg).evid, hbm := (s.post kind idx code st fsn line occ arg).hbm,
                 unfenced := (s.post kind idx code st fsn line occ arg).unfenced,
                 regs := (s.post kind idx code st fsn line occ arg).regs, rings := (s.post kind idx code st fsn line occ arg).rings } := by
  unfold State.post
  dsimp only
  rw [State.notify_frame, State.eventEvidence_frame]
  split
  · rfl
  · rw [State.ringPush_frame]

theorem State.evidence_rdk (s : State) (b a : Nat) (f : Fld) (i j : Nat) : (s.evidence b a).rdk f i j = s.rdk f i j := by
  rw [State.evidence_frame]; rfl

theorem State.post_rdk (s : State) (kind idx code : Nat) (st : Status) (fsn line occ arg : Nat) (f : Fld) (i j : Nat)
    (hf : outsideFab f) (hl : f.lo < 32) : (s.post kind idx code st fsn line occ arg).rdk f i j = s.rdk f i j := by
  unfold State.post
  dsimp only
  rw [State.notify_frame, State.eventEvidence_frame]
  split
  · rfl
  · rw [State.ringPush_rdk _ _ _ _ _ _ _ hf hl]; rfl

/-- Raising an event changes what posting its entry changes, and its flag and count. -/
theorem State.raise_frame (s : State) (g : EvGroup) (u k bit kind idx : Nat) (st : Status) (fsn line arg : Nat) :
    s.raise g u k bit kind idx st fsn line arg
      = { s with cueX := (s.raise g u k bit kind idx st fsn line arg).cueX, outs := (s.raise g u k bit kind idx st fsn line arg).outs,
                 evid := (s.raise g u k bit kind idx st fsn line arg).evid, hbm := (s.raise g u k bit kind idx st fsn line arg).hbm,
                 unfenced := (s.raise g u k bit kind idx st fsn line arg).unfenced,
                 regs := (s.raise g u k bit kind idx st fsn line arg).regs, rings := (s.raise g u k bit kind idx st fsn line arg).rings } := by
  unfold State.raise
  dsimp only
  rw [State.post_frame]
  rfl

/-- The flag an event raises (R31). -/
theorem State.raise_flag (s : State) (g : EvGroup) (u k bit kind idx : Nat) (st : Status) (fsn line arg : Nat)
    (hf : outsideFab g.evt) (hl : g.evt.lo < 32) (hk : Fld.key (occFld g.occ bit) ≠ Fld.key g.evt) :
    (s.raise g u k bit kind idx st fsn line arg).rdk g.evt u k = setBit (s.rdk g.evt u k) bit % 2 ^ g.evt.width := by
  unfold State.raise
  dsimp only
  rw [State.post_rdk _ _ _ _ _ _ _ _ _ _ _ _ hf hl, State.flag_rdk _ _ _ _ _ _ hk]

/-- Raising an event leaves every register outside the fabric but its flags and its count. -/
theorem State.raise_rdk_ne (s : State) (g : EvGroup) (u k bit kind idx : Nat) (st : Status) (fsn line arg : Nat) (f : Fld) (i j : Nat)
    (hf : outsideFab f) (hl : f.lo < 32)
    (h : (Fld.key f ≠ Fld.key g.evt ∧ Fld.key f ≠ Fld.key (occFld g.occ bit)) ∨ i ≠ u ∨ j ≠ k) :
    (s.raise g u k bit kind idx st fsn line arg).rdk f i j = s.rdk f i j := by
  unfold State.raise
  dsimp only
  rw [State.post_rdk _ _ _ _ _ _ _ _ _ _ _ _ hf hl, State.flag_rdk_ne _ _ _ _ _ _ _ _ _ h]

/-! ### Determinism records -/

theorem State.sendDet_frame (s : State) (t n : Nat) (b : DetBody) :
    s.sendDet t n b = { s with outs := (s.sendDet t n b).outs, detN := (s.sendDet t n b).detN } := by
  unfold State.sendDet; split <;> rfl

theorem State.sendDet_rdk (s : State) (t n : Nat) (b : DetBody) (f : Fld) (i j : Nat) : (s.sendDet t n b).rdk f i j = s.rdk f i j := by
  rw [State.sendDet_frame]; rfl

/-! ### The fault log (R639) -/

theorem State.wrWords_frame (s : State) (f : Fld) (u k : Nat) (ws : List Nat) : s.wrWords f u k ws = { s with regs := (s.wrWords f u k ws).regs } := by
  induction ws generalizing s k with
  | nil => rfl
  | cons w t ih => unfold State.wrWords; exact RegsOnly.trans ((RegsOnly.refl s).wrk f u k w) (ih _ _)

theorem State.wrWords_rdk_ne (s : State) (f g : Fld) (u k : Nat) (ws : List Nat) (i j : Nat) (h : Fld.key g ≠ Fld.key f) :
    (s.wrWords f u k ws).rdk g i j = s.rdk g i j := by
  induction ws generalizing s k with
  | nil => rfl
  | cons w t ih => unfold State.wrWords; rw [ih, State.rdk_wrk_ne _ _ _ _ _ _ _ _ (.inl h)]

/-- A fault record changes registers, what leaves the block and the evidence only. -/
theorem State.flog_frame (s : State) (dom code : Nat) (st : Status) (fatal : Bool) (arg : List Nat) :
    s.flog dom code st fatal arg = { s with regs := (s.flog dom code st fatal arg).regs, outs := (s.flog dom code st fatal arg).outs,
                                            evid := (s.flog dom code st fatal arg).evid } := by
  have base : ∀ ws : List Nat, ∀ v x y z, RegsOnly s (((s.wrWords R.MGT_FLOG_W_WORD x y ws).wr R.MGT_FLOG_WR_INDEX z v).mgtEvent 1) := fun ws v x y z =>
    ((RegsOnly.wrk (s.wrWords_frame R.MGT_FLOG_W_WORD x y ws) R.MGT_FLOG_WR_INDEX z 0 v).flag _ _ _ _ _)
  unfold State.flog
  dsimp only
  generalize hx : ((s.wrWords _ _ _ _).wr _ _ _).mgtEvent 1 = x
  have hb : x = { s with regs := x.regs } := hx ▸ base _ _ _ _ _
  clear hx base
  have he : ∀ n, x.evidence n 0 = { s with regs := (x.evidence n 0).regs, outs := (x.evidence n 0).outs, evid := (x.evidence n 0).evid } := by
    intro n; rw [State.evidence_frame, hb]
  split
  · exact he 0
  · split
    · exact he 1
    · split
      · exact he 7
      · rw [hb]

/-- A fault record leaves every register outside MGT. -/
theorem State.flog_rdk (s : State) (dom code : Nat) (st : Status) (fatal : Bool) (arg : List Nat) (f : Fld) (i j : Nat)
    (hf : f.base < 0x10000 ∨ 0x20000 ≤ f.base) (hl : f.lo < 32) : (s.flog dom code st fatal arg).rdk f i j = s.rdk f i j := by
  have key : ∀ g : Fld, g.lo < 32 → 0x10000 ≤ g.base → g.base < 0x20000 → Fld.key f ≠ Fld.key g := by
    intro g hg h1 h2; unfold Fld.key; omega
  have h1 : ∀ s : State, (s.mgtEvent 1).rdk f i j = s.rdk f i j := fun s =>
    State.flag_rdk_ne _ _ _ _ _ _ _ _ _ (.inl ⟨key _ (by decide) (by decide) (by decide), key _ (by decide) (by decide) (by decide)⟩)
  unfold State.flog
  dsimp only
  split
  · rw [State.evidence_rdk, h1, State.wr_eq, State.rdk_wrk_ne _ _ _ _ _ _ _ _ (.inl (key _ (by decide) (by decide) (by decide))),
      State.wrWords_rdk_ne _ _ _ _ _ _ _ _ (key _ (by decide) (by decide) (by decide))]
  · split
    · rw [State.evidence_rdk, h1, State.wr_eq, State.rdk_wrk_ne _ _ _ _ _ _ _ _ (.inl (key _ (by decide) (by decide) (by decide))),
        State.wrWords_rdk_ne _ _ _ _ _ _ _ _ (key _ (by decide) (by decide) (by decide))]
    · split
      · rw [State.evidence_rdk, h1, State.wr_eq, State.rdk_wrk_ne _ _ _ _ _ _ _ _ (.inl (key _ (by decide) (by decide) (by decide))),
          State.wrWords_rdk_ne _ _ _ _ _ _ _ _ (key _ (by decide) (by decide) (by decide))]
      · rw [h1, State.wr_eq, State.rdk_wrk_ne _ _ _ _ _ _ _ _ (.inl (key _ (by decide) (by decide) (by decide))),
          State.wrWords_rdk_ne _ _ _ _ _ _ _ _ (key _ (by decide) (by decide) (by decide))]

/-! ### Admin commands (R101, R102) -/

/-- A completion changes the rings, what leaves the block, HBM or the fabric's registers where the ring lies in HBM, and the command taken. -/
theorem State.complete_frame (s : State) (f : Nat) (t : Taken) (st : Status) (h r : Nat) :
    s.complete f t st h r = { s with hbm := (s.complete f t st h r).hbm, unfenced := (s.complete f t st h r).unfenced, regs := (s.complete f t st h r).regs, outs := (s.complete f t st h r).outs,
                                     rings := (s.complete f t st h r).rings, taken := tdel s.taken f, cpl := ⟨f, t.opcode, t.tag, st.code, h, r⟩ } := by
  unfold State.complete
  dsimp only
  split
  · rfl
  · rw [State.ringPush_frame]

theorem State.complete_rdk (s : State) (n : Nat) (t : Taken) (st : Status) (h r : Nat) (f : Fld) (i j : Nat) (hf : outsideFab f) (hl : f.lo < 32) :
    (s.complete n t st h r).rdk f i j = s.rdk f i j := by
  have key : ∀ s' : State, ∀ x y, ({ s' with taken := x, cpl := y } : State).rdk f i j = s'.rdk f i j := fun _ _ _ => rfl
  unfold State.complete
  dsimp only
  rw [key]
  split
  · rfl
  · exact State.ringPush_rdk _ _ _ _ _ _ _ hf hl

theorem State.adminRec_frame (s : State) (f : Nat) (t : Taken) (p : List Nat) (b : List (Nat × Nat)) (st : Status) (h r : Nat) :
    s.adminRec f t p b st h r = { s with outs := (s.adminRec f t p b st h r).outs, detN := (s.adminRec f t p b st h r).detN } := by
  unfold State.adminRec; split
  · exact State.sendDet_frame _ _ _ _
  · rfl

/-- A command that has run: its completion carries the status, the handle and the result, and the next command may be taken. -/
theorem State.finish_frame (s : State) (f : Nat) (t : Taken) (p : List Nat) (b : List (Nat × Nat)) (st : Status) (h r : Nat) :
    s.finish f t p b st h r = { s with hbm := (s.finish f t p b st h r).hbm, unfenced := (s.finish f t p b st h r).unfenced, regs := (s.finish f t p b st h r).regs,
                                       outs := (s.finish f t p b st h r).outs, rings := (s.finish f t p b st h r).rings,
                                       detN := (s.finish f t p b st h r).detN, taken := tdel s.taken f,
                                       cpl := ⟨f, t.opcode, t.tag, st.code, h, r⟩ } := by
  unfold State.finish
  rw [State.adminRec_frame, State.complete_frame]

theorem State.finish_rdk (s : State) (n : Nat) (t : Taken) (p : List Nat) (b : List (Nat × Nat)) (st : Status) (h r : Nat) (f : Fld) (i j : Nat)
    (hf : outsideFab f) (hl : f.lo < 32) : (s.finish n t p b st h r).rdk f i j = s.rdk f i j := by
  unfold State.finish
  have h1 : ∀ s' : State, (s'.adminRec n t p b st h r).rdk f i j = s'.rdk f i j := fun s' => by rw [State.adminRec_frame]; rfl
  rw [h1, State.complete_rdk _ _ _ _ _ _ _ _ _ hf hl]

/-- The command taken from a function's ring runs its body when its checks pass. -/
theorem State.admin_ok (s : State) (f op : Nat) (p : List Nat) (b : List (Nat × Nat)) (checks : Taken → List (Bool × Status)) (body : Taken → AdmAns)
    (t : Taken) (ht : tfind s.taken f = some t) (ho : t.opcode = op) (hc : check (checks t) = .ok) :
    s.admin f op p b checks body = (body t).st.finish f t p b (body t).status (body t).handle (body t).result := by
  simp [State.admin, ht, ho, hc]

/-- The command taken completes with the status of the first check that fails, and its body does not run. -/
theorem State.admin_refused (s : State) (f op : Nat) (p : List Nat) (b : List (Nat × Nat)) (checks : Taken → List (Bool × Status))
    (body : Taken → AdmAns) (t : Taken) (ht : tfind s.taken f = some t) (ho : t.opcode = op) (hc : check (checks t) ≠ .ok) :
    s.admin f op p b checks body = s.complete f t (check (checks t)) 0 0 := by
  simp [State.admin, ht, ho, hc]

end Sys2Proof.Machine
end

