-- ==== Sys2Proof/Laws/Regs.lean ====
section
/-! SUPPORT. Reading the register file after a write or after a shared operation, an access that reaches its register, and the bits of a number. -/

namespace Sys2Proof.Laws

open Sys2Proof Sys2Proof.Machine

/-- A field reads as the value written, in its width. -/
theorem regGet_same (r : RegFile) (f : Fld) (u k v : Nat) : regGet (regSet r f u k v) f u k = v % 2 ^ f.width :=
  State.rdk_wrk_same { State.reset with regs := r } f u k v
/-- Writing one field leaves every field of another place as it was. -/
theorem regGet_key (r : RegFile) (f g : Fld) (u k v i j : Nat) (h : Fld.key g ≠ Fld.key f) : regGet (regSet r f u k v) g i j = regGet r g i j :=
  State.rdk_wrk_ne { State.reset with regs := r } f g u k v i j (.inl h)
/-- Writing a field of one unit leaves it in every other unit as it was. -/
theorem regGet_unit (r : RegFile) (f g : Fld) (u k v i j : Nat) (h : i ≠ u) : regGet (regSet r f u k v) g i j = regGet r g i j :=
  State.rdk_wrk_ne { State.reset with regs := r } f g u k v i j (.inr (.inl h))
/-- Writing one index of a field leaves its other indices as they were. -/
theorem regGet_ix (r : RegFile) (f g : Fld) (u k v i j : Nat) (h : j ≠ k) : regGet (regSet r f u k v) g i j = regGet r g i j :=
  State.rdk_wrk_ne { State.reset with regs := r } f g u k v i j (.inr (.inr h))
/-- Posting an event leaves every register outside the fabric block as it was. -/
theorem regGet_post (s : State) (a b c d e f g h) (fl : Fld) (i j : Nat) (hf : fl.base < 0x20000 ∨ 0x30000 ≤ fl.base) (hl : fl.lo < 32) :
    regGet (s.post a b c d e f g h).regs fl i j = regGet s.regs fl i j := State.post_rdk s a b c d e f g h fl i j hf hl
/-- A piece of evidence changes no register. -/
theorem regGet_evid (s : State) (a b) : (s.evidence a b).regs = s.regs := by rw [State.evidence_frame]
/-- Sending a record to the other device changes no register. -/
theorem regs_sendDet (s : State) (a b c) : (s.sendDet a b c).regs = s.regs := by rw [State.sendDet_frame]
/-- Waking the threads that wait on an address changes no register. -/
theorem regs_wakeAt (s : State) (a) : (s.wakeAt a).regs = s.regs := by rw [State.wakeAt_frame]
/-- Recording a register write for the other device changes no register. -/
theorem regs_regRec (s0 s : State) (a d) : (s0.regRec a d s).regs = s.regs := by unfold State.regRec; split; exact regs_sendDet _ _ _ _; rfl
/-- An access that reaches its register and passes the register's own checks takes its effect. -/
theorem gate_reached (s : State) (p a : Nat) (own act) (h : s.reached p a true) (ho : check own = .ok) :
    s.gate p a true own act = act ((s.wakeAt a).respond 0) := by
  apply State.gate_ok
  rw [check_ok_iff]; intro e he
  rcases List.mem_append.mp he with he | he
  · exact (check_ok_iff _).mp h e he
  · exact (check_ok_iff _).mp ho e he
/-- A bit, in the words of the library. -/
theorem bitAt_eq (v i : Nat) : bitAt v i = v.testBit i := by
  unfold bitAt; rw [Nat.testBit_eq_decide_div_mod_eq]; by_cases h : v / 2 ^ i % 2 = 1 <;> simp [h]
/-- Two numbers without a common bit: their sum is their union. -/
theorem add_or (a : Nat) : ∀ b, a &&& b = 0 → a + b = a ||| b := by
  induction a using Nat.strongRecOn with
  | _ a ih =>
    intro b h
    by_cases ha : a = 0
    · subst ha; simp
    · have h1 : a / 2 &&& b / 2 = 0 := by rw [← Nat.and_div_two, h]
      have h2 := ih (a / 2) (by omega) (b / 2) h1
      rw [← Nat.or_div_two] at h2
      have h3 := @Nat.or_mod_two_eq_one a b
      have h4 := @Nat.and_mod_two_eq_one a b
      rw [h] at h4
      omega
/-- The bits of a number after one is set. -/
theorem bitAt_setBit (v i j : Nat) : bitAt (setBit v i) j = (bitAt v j || decide (i = j)) := by
  unfold setBit
  by_cases h : bitAt v i = true
  · by_cases hij : i = j
    · subst hij; simp [h]
    · simp [h, hij]
  · rw [if_neg h, bitAt_eq]
    have : v + 2 ^ i = v ||| 2 ^ i := by
      apply add_or
      apply Nat.eq_of_testBit_eq; intro j
      rw [Nat.testBit_and, Nat.testBit_two_pow, Nat.zero_testBit]
      by_cases hij : i = j
      · subst hij; rw [← bitAt_eq]; simp at h; simp [h]
      · simp [hij]
    rw [this, Nat.testBit_or, Nat.testBit_two_pow, bitAt_eq]
/-- A bit below a width survives the cut to that width. -/
theorem bitAt_mod (v w j : Nat) (h : j < w) : bitAt (v % 2 ^ w) j = bitAt v j := by
  simp [bitAt_eq, Nat.testBit_mod_two_pow, h]

end Sys2Proof.Laws
end

