-- ==== Sys2Proof/Tests/Slice0.lean ====
section
/-! SUPPORT. The model's own tests: the well-formedness checks refuse an ill-formed term each, a few steps on small states, and for each statement
with hypotheses a state and operands that meet them. -/

namespace Sys2Proof.Tests

open Sys2Proof Sys2Proof.Machine

set_option Elab.async false

/-- Whether a command answers a next state of which something holds. -/
def after (i : Instr) (s : State) (p : State → Bool) : Bool :=
  match exec i s with
  | .next t => p t
  | _ => false

/-- A state after reset in a mode, with some register fields (field, unit, value) set. -/
def mk (mode : Nat) (l : List (Fld × Nat × Nat)) : State := l.foldl (fun s e => s.wrk e.1 e.2.1 0 e.2.2) (State.reset.wrk R.MGT_MODE_MODE 0 0 mode)

theorem test_step_front : ∃ s : State, ∃ c rest, s.pending = c :: rest := ⟨{ State.reset with pending := [.perstFall, .perstRise] }, .perstFall, [.perstRise], rfl⟩

theorem test_idle_step : State.reset.pending = [] ∧ State.reset.epochRuns = false := by decide

theorem witness_FusesOnlyGrow_1 : State.reset.fusesFrom State.reset.fuses ∧ step State.reset = .next State.reset.tick := ⟨by decide +kernel, rfl⟩

theorem witness_StoresStayCanonical_1 : State.reset.memsWf = true ∧ step State.reset = .next State.reset.tick := ⟨by decide +kernel, rfl⟩

/-- A card with port 95 armed for stopping and starting, port 3 valid and running with a store of two slots. -/
def stPorts : State :=
  (((mk mIDLE [(R.INP_STAT_LC_STATE, 95, lcARMED), (R.INP_STAT_IN_STATE, 3, inVALID), (R.INP_STAT_LC_STATE, 3, lcRUNNING), (R.REF_TLN_STAT_STATE, 0, 2),
      (R.INP_CFG_LOCK_FRAMES, 94, 2), (R.INP_STAT_IN_STATE, 94, inACQUIRING), (R.LNE_STATUS_RX_RATE_DET, 3, 1), (R.LNE_SDI_MEAS_LINES, 3, 525),
      (R.LNE_SDI_MEAS_WORDS, 3, 1716), (R.LNE_STATUS_RX_RATE_DET, 94, 1), (R.LNE_SDI_MEAS_LINES, 94, 525), (R.LNE_SDI_MEAS_WORDS, 94, 1716)]).setLane 3 (fun x => { x with fields := true, streams := 1 })).setLane 94 (fun x => { x with fields := true, streams := 1 })).setPort 3 fun x =>
    { x with slots := 2, slotBytes := 65536, seen := true, writing := some 0, cand := some ⟨1, 0, 0, 0, false, false⟩, ifcN := 6,
             lossAt := some 4 }

def stStart : State := stPorts.setPort 94 fun x => { x with slots := stPorts.slotsAsked 94, slotBytes := stPorts.slotSize 94 }

def stPort94 : State := stPorts.setPort 94 fun x => { x with seen := true, run := 1, cand := some ⟨1, 0, 0, 0, false, false⟩ }

def stFull : State := (stPorts.setPort 3 fun x => { x with slots := 0, writing := none })

theorem witness_InputPorts_1 : check (stStart.accessChecks 2 (inpAddr 94 0) true) = .ok ∧ check (stStart.inpStartChecks 2 94) = .ok ∧ ((((stStart.accessed (inpAddr 94 0)).storeFor 94).bind (fun x => x.histAlloc 94)).any (fun u => u.admits [(cInput 94, stStart.portCharge 94)])) = true ∧ after (.inpStart 2 94) stStart (fun t => t.rd R.INP_STAT_LC_STATE 94 = lcARMED ∧ t.chargeOf (cInput 94) = stPorts.portCharge 94) = true := by decide +kernel

theorem witness_InputPorts_2 : check (stPorts.accessChecks 2 (inpAddr 95 0) true) = .ok ∧ check (stPorts.inpStartChecks 2 95) = .unitRunning ∧ after (.inpStart 2 95) stPorts (fun t => t.resp = ⟨5, 0⟩) = true := by decide +kernel

theorem witness_InputPorts_3 : check (stPorts.accessChecks 2 (inpAddr 95 0) true) = .ok ∧ stPorts.holds 2 kInput 95 = true ∧ after (.inpStop 2 95) stPorts (fun t => t.rd R.INP_STAT_LC_STATE 95 = lcSTOPPED) = true := by decide +kernel

theorem witness_InputPorts_4 : stPorts.rd R.INP_STAT_LC_STATE 3 = lcRUNNING ∧ after (.inpStop 2 3) stPorts (fun t => t.rd R.INP_STAT_LC_STATE 3 = lcSTOPPING) = true := by decide +kernel

theorem witness_InputPorts_5 : stPorts.freeSlot 3 = some 0 ∧ after (.inputFrameStart 3) stPorts (fun t => (t.port 3).writing = some 0 ∧ (t.port 3).line1 = 0) = true := by decide +kernel

theorem witness_InputPorts_6 : stFull.freeSlot 3 = none ∧ after (.inputFrameStart 3) stFull (fun t => (t.port 3).skipping ∧ t.rd R.INP_CNT_WR_SKIP_COUNT 3 = 1 ∧ bitAt (t.rd R.INP_EVT_FLAGS 3) 10) = true := by decide +kernel

theorem witness_InputPorts_7 : (stPort94.port 94).cand.any (Det.same (stPort94.detOf 94)) = true ∧ stPort94.detFits 94 (stPort94.detOf 94) = true ∧ after (.inputFrameComplete 94) stPort94 (fun t => t.rd R.INP_STAT_IN_STATE 94 = inVALID ∧ bitAt (t.rd R.INP_EVT_FLAGS 94) 0 ∧ t.rd R.INP_FMT_DET_FMT 94 = 1) = true := by decide +kernel

theorem witness_InputPorts_8 : (stPorts.port 3).cand.any (Det.same (stPorts.detOf 3)) = true ∧ after (.inputFrameComplete 3) stPorts (fun t => (t.port 3).frames.map (·.ifc) = [7] ∧ t.rd R.INP_IFC_COUNT 3 = 7 ∧ (t.port 3).writing = none) = true := by decide +kernel

theorem witness_InputPorts_9 : (stPorts.port 3).lossAt.isSome ∧ stPorts.on R.INP_LOSS_FREEZE_HOLD 3 = false ∧ after (.freezeMsExpiry 3) stPorts (fun t => (t.port 3).fellBack ∧ t.rd R.INP_STAT_LOSS_PHASE 3 = 2) = true := by decide +kernel

/-- The words of a 525-line signal's line: EAV, blanking, SAV, 360 pairs of pixels of one colour. -/
def sdWords : List Nat :=
  trsWords 0 0 1 ++ List.replicate 268 64 ++ trsWords 0 0 0 ++ (List.replicate 360 [300, 100, 400, 101]).flatten
/-- Port 3 of a card whose lane is aligned to that signal. -/
def stSdPort : State := stPorts.wr R.LNE_SDI_STAT_FR_STATE 3 frALIGNED

theorem witness_InputPorts_10 : stSdPort.lineEavOk 3 sdWords = true ∧ after (.sdiLineReceived 3 30 0 0 sdWords) stSdPort (fun t => (t.port 3).rows.map (fun e => (e.1, e.2.length, e.2.take 2)) = [(18, 720, [⟨100, 300, 400⟩, ⟨101, 300, 400⟩])]) = true := by decide +kernel

/-- A packet with DID 0x61 and one word of data. -/
def pkt : AncPkt := ⟨1, 1, 20, false, 0, ancBody 0x61 1 [5]⟩

/-- Port 3 runs with filter 15 for every packet of DID 0x61, bound to ring 40 of session 0; it takes LTC. -/
def stAnc : State :=
  let s := stPorts.issue kRing 40 0
  let s := s.setPort 3 fun x => { x with filters := List.replicate 15 (0, 0, 0) ++ [(2 ^ 31 + 2 ^ 30 + 2 ^ 27 + 0x6100, 0, s.handleOf kRing 40)] }
  let s := s.setRing 40 ⟨0x10000, 0x10000, 4, 3, false, false, false, false, 15, 0, 0, 0, 0, 0, s.handleOf kRing 40⟩
  (s.wrk R.INP_ANCF_RING_RING 3 15 (s.handleOf kRing 40)).wr R.INP_TCCFG_TC_SRC 3 1

theorem witness_InputPackets_1 : stAnc.rd R.INP_STAT_LC_STATE 3 = lcRUNNING ∧ ({ pkt with words := [0] } : AncPkt).parityOk = false ∧ after (.ancPacketReceived 3 { pkt with words := [0] }) stAnc (fun t => t.rd R.INP_CNT_ANC_HDR_COUNT 3 = 1) = true := by decide +kernel

/-- The packet with a wrong checksum. -/
def pktBad : AncPkt := { pkt with words := pkt.words.take 4 ++ [0] }

theorem witness_InputPackets_2 : stAnc.rd R.INP_STAT_LC_STATE 3 = lcRUNNING ∧ pktBad.parityOk = true ∧ pktBad.csumOk = false ∧ after (.ancPacketReceived 3 pktBad) stAnc (fun t => t.rd R.INP_CNT_ANC_CSUM_COUNT 3 = 1) = true := by decide +kernel

theorem witness_InputPackets_3 : plainAnc { pkt with words := ancBody 0x62 1 [5] } ∧ ancFilter (stAnc.port 3).filters { pkt with words := ancBody 0x62 1 [5] } = none ∧ after (.ancPacketReceived 3 { pkt with words := ancBody 0x62 1 [5] }) stAnc (fun t => t = stAnc) = true := by decide +kernel

theorem witness_InputPackets_4 : stAnc.rd R.INP_STAT_LC_STATE 94 ≠ lcRUNNING ∧ after (.ancPacketReceived 94 pkt) stAnc (fun t => t = stAnc) = true := by decide +kernel

/-- An LTC packet. -/
def pktTc : AncPkt := { pkt with words := (atcPacket false 0 0x01020304 7).drop 3 }

theorem witness_InputPackets_5 : pktTc.parityOk = true ∧ pktTc.csumOk = true ∧ atcOf (tcFive (stAnc.rd R.INP_FMT_DET_FMT 3)) pktTc = some (1, 0x01020304, 7) ∧ ancFilter (stAnc.port 3).filters pktTc = none ∧ after (.ancPacketReceived 3 pktTc) stAnc (fun t => (t.port 3).tcNow = some (0x01020304, 7)) = true := by decide +kernel

theorem witness_InputPackets_6 : plainAnc pkt ∧ ancFilter (stAnc.port 3).filters pkt = some 15 ∧ stAnc.badHandle (stAnc.filterRing 3 15) = false ∧ ancEntries 1 = 1 ∧ after (.ancPacketReceived 3 pkt) stAnc (fun t => t.rd R.INP_CNT_ANC_CAPT_COUNT 3 = 1 ∧ (tfind t.rings 40).any (fun q => q.pi = 16 ∧ q.drops = 0)) = true := by decide +kernel

theorem witness_InputPackets_7 : check (stAnc.accessChecks 2 (inpAddr 3 0x2F8) true) = .ok ∧ stAnc.holds 2 kInput 3 = true ∧ check (stAnc.ringChecks (stAnc.handleOf kRing 40) 0 false 3) = .ok ∧ after (.ancfRingWrite 2 3 15 (stAnc.handleOf kRing 40)) stAnc (fun t => t.rdk R.INP_ANCF_RING_RING 3 15 = stAnc.handleOf kRing 40) = true := by decide +kernel

theorem witness_InputPackets_8 : check (stAnc.accessChecks pPF (inpAddr 3 0x208) true) = .ok ∧ stAnc.holds pPF kInput 3 = false ∧ stAnc.absentHandle 0 = false ∧ after (.ancfRingWrite pPF 3 0 0) stAnc (fun t => t.resp = ⟨8, 0⟩) = true := by decide +kernel

theorem witness_InputPackets_9 : stAnc.rd R.INP_STAT_LC_STATE 3 ≠ lcSTOPPED ∧ after (.inputFifoEccFault 3 9) stAnc (fun t => t.rd R.INP_STAT_LC_STATE 3 = lcSTOPPED ∧ t.rd R.MGT_FLOG_WR_INDEX 0 = 1 ∧ bitAt (t.rd R.INP_EVT_FLAGS 3) 11) = true := by decide +kernel

/-- Session 1 of the physical function. -/
def withSession (s : State) : State :=
  let s := s.issue kSession 1 0
  { s with sessPrin := [(1, 0x10)] }

/-- A card whose physical function has open session 1, which holds pipeline 95. -/
def stSess : State :=
  let s := withSession (mk mIDLE [])
  s.setObj kPipe 95 { s.obj kPipe 95 with owner := 1 }

/-- A command of session 1 taken from the queue of the physical function. -/
def took (s : State) (op payLen object : Nat) (inl : List Nat) : State :=
  { s with taken := [(0, ⟨op, false, 7, s.handleOf kSession 1, object, 0, payLen, 0, inl, false⟩)] }

/-- The command taken. -/
def cmdOf (s : State) : Taken := tget ⟨0, false, 0, 0, 0, 0, 0, 0, [], false⟩ s.taken 0

def stStreet : State := mk mRUN [(R.PLZ_DST_STAT_PATH, 95, pathSTREET), (R.PLZ_SEL_LIVE_SEL, 95, selSTREET * 2 ^ 28)]

theorem witness_PlazaCommands_1 : stStreet.selKind 95 = selSTREET ∧ tfind stStreet.lineTr 95 = none ∧ after (.streetLineMiss 95 0 4) stStreet (fun t => tfind t.lineTr 95 = some 4 ∧ t.rd R.PLZ_DST_STAT_CAUSE 95 = 4 ∧ bitAt (t.rd R.PLZ_DST_EVT_FLAGS 95) 0) = true := by decide +kernel

theorem witness_PlazaCommands_2 : stPorts.rd R.PLZ_DST_STAT_PATH 0 ≠ pathSTREET ∧ after (.streetLineMiss 0 0 4) stPorts (fun t => t = stPorts) = true := by decide +kernel

def stClone : State := took stSess 0x60 0 (stSess.handleOf kPipe 95) [129, 0, 0, 0, 0, 0, 0]

theorem witness_PlazaCommands_3 : stClone.taking 0 0x60 (cmdOf stClone) ∧ (cmdOf stClone).plain ∧ stClone.modeOk ∧ stClone.sessOk 0 (cmdOf stClone) ∧ stClone.ownsObj (cmdOf stClone) kPipe ∧ stClone.absentHandle (cmdOf stClone).object = false ∧ check (stClone.cloneChecks 95 [129, 0, 0, 0, 0, 0, 0]) = .ok ∧ after (.cloneCreate 0 []) stClone (fun t => Completed t 0 (cmdOf stClone) .ok (mkHandle kClone (nextGen (stClone.obj kClone 95).gen) 95) 1 ∧ t.cloneMembers 95 = [1]) = true := by decide +kernel

def stClone2 : State := took (stSess.issue kClone 95 1) 0x60 0 (stSess.handleOf kPipe 95) [129, 0, 0, 0, 0, 0, 0]

theorem witness_PlazaCommands_4 : stClone2.taking 0 0x60 (cmdOf stClone2) ∧ stClone2.sessOk 0 (cmdOf stClone2) ∧ (stClone2.obj kClone 95).live = true ∧ after (.cloneCreate 0 []) stClone2 (fun t => Completed t 0 (cmdOf stClone2) .noContext 0 0) = true := by decide +kernel

def stQuad : State := mk mIDLE [(R.LNE_SDI_CFG_QUAD, 92, 1)]

theorem witness_PlazaCommands_5 : check (stQuad.accessChecks pPF 0x300010 true) = .ok ∧ ∀ k, k < 24 → bitAt (2 ^ 23) k ≠ bitAt (stQuad.rd R.PLZ_GANG_CFG_GANG 0) k → 4 * k < stQuad.lanes → stQuad.on R.LNE_SDI_CFG_QUAD (4 * k) = true ∧ after (.gangCfgWrite pPF (2 ^ 23)) stQuad (fun t => t.rd R.PLZ_GANG_CFG_GANG 0 = 2 ^ 23) = true := by decide +kernel

def stQuads : State := mk mIDLE ((R.OUT_STAT_LC_STATE, 95, lcRUNNING) :: (upFrom 0 24).map (fun k => (R.LNE_SDI_CFG_QUAD, 4 * k, 1)))

theorem witness_PlazaCommands_6 : check (stQuads.accessChecks pPF 0x300010 true) = .ok ∧ (∀ k, k < 24 → stQuads.on R.LNE_SDI_CFG_QUAD (4 * k) = true) ∧ stQuads.rd R.OUT_STAT_LC_STATE 95 ≠ lcSTOPPED ∧ after (.gangCfgWrite pPF (2 ^ 23)) stQuads (fun t => t.resp = ⟨5, 0⟩) = true := by decide +kernel

def stStaged : State := { mk mRUN [] with staged := [⟨4, 0, 9, 0, ⟨.sel 351, [(1, 77)]⟩, false, true⟩] }

theorem witness_PlazaCommands_7 : (stStaged.staged.find? (fun y => y.id == 4)).any (fun x => x.ent = ⟨.sel 351, [(1, 77)]⟩ ∧ x.delivered = false) = true ∧ after (.stagedValueDelivery 4) stStaged (fun t => t.rd R.PLZ_SEL_STG_H_HANDLE 351 = 77 ∧ t.staged.all (·.delivered) ∧ t.rd R.FAB_ERR_WR_INDEX 0 = 1) = true := by decide +kernel

def stStgOff : State := { (mk mRUN []).setDom 0x1DF ⟨2, 1, false⟩ with staged := [⟨4, 0, 9, 159, ⟨.uc 95, [(1, 77)]⟩, false, false⟩] }

theorem witness_PlazaCommands_8 : (stStgOff.staged.find? (fun y => y.id == 4)).any (fun x => decide ((stStgOff.domain (stStgOff.keyDomain x.ent.key)).st = 2)) = true ∧ stStgOff.prinOf (stStgOff.cueSess 159) = 2 ∧ after (.stagedValueDelivery 4) stStgOff (fun t => t.staged = [] ∧ t.rd R.FAB_ERR_INFO_INFO 0 = Status.domainOff.code * 2 ^ 16 + 2 * 2 ^ 8 + 0x39 * 4 + 2) = true := by decide +kernel

/-- The argument block of a job of timeline 15: the format of code 1 in and out, frame-rate mode NONE. -/
def jobPay : List Nat := [15, 0, 0, 0, 1, 0, 0, 0, 0, 0, 0, 0, 1] ++ List.replicate 51 0

/-- Job 5 of session 1 on engine 31, slot 7. -/
def aJob : Job := { jobOfArgs jobPay with handle := mkHandle kJob 1 5, engs := [31], slot := 7, credits := 10 }

/-- A card in RUN with that job, stopped, and a command of session 1 to create another. -/
def stJob : State :=
  let s := withSession (mk mRUN [(R.REF_TLN_CFG_FMT, 15, 1), (R.REF_TLN_STAT_STATE, 15, 2)])
  let s := s.issue kJob 5 1
  { s with jobs := [(5, { aJob with handle := s.handleOf kJob 5 })] }

def stJobNew : State := took stJob 0x40 64 0 []

theorem findPlace_some (s : State) (n align : Nat)
    (h : ((0 :: s.allocs.map (fun a => roundUp (a.base + a.len) align)).find? (fun b => s.isFreeRange b n)).isSome = true) :
    ∃ b, s.findPlace n align = some b := by
  unfold State.findPlace
  split
  · exact ⟨_, rfl⟩
  · exact Option.isSome_iff_exists.mp h

theorem place_first (s : State) (n m align : Nat) (ha : s.allocs = []) (hn : n + 2 * m + align ≤ s.hbmBytes) (h0 : 0 < align) :
    ∃ b, s.findPlace n 65536 = some b ∧ ∀ (x : Alloc), x.base = b → x.len = n →
      ∃ q, ({ s with allocs := [x], hbm := memClear s.hbm b n, unfenced := s.unfencedBut b n, free := s.free + 1 } : State).findPlace m align = some q := by
  obtain ⟨b, hb⟩ := findPlace_some s n 65536 (by simp [ha, State.isFreeRange]; omega)
  refine ⟨b, hb, fun x hx hl => findPlace_some _ _ _ ?_⟩
  rw [List.find?_isSome]
  by_cases h : m ≤ b
  · refine ⟨0, by simp, ?_⟩
    simp [State.isFreeRange, State.hbmBytes, State.row] at hn ⊢
    omega
  · refine ⟨roundUp (x.base + x.len) align, by simp, ?_⟩
    have hr : roundUp (x.base + x.len) align ≤ x.base + x.len + align ∧ x.base + x.len ≤ roundUp (x.base + x.len) align := by
      unfold roundUp ceilDiv
      have h1 := Nat.div_mul_le_self (x.base + x.len + align - 1) align
      have h2 := Nat.lt_div_mul_add (a := x.base + x.len + align - 1) h0
      omega
    simp [State.isFreeRange, State.hbmBytes, State.row] at hn ⊢
    omega

theorem witness_JobCommands_0 : ∃ ob q u, stJobNew.jobAlloc 0 (jobOfArgs jobPay) = some (ob, q, u) ∧ u.admits [(cJob 0, jobCharge (jobOfArgs jobPay))] = true := by
  obtain ⟨b, hb, hq⟩ := place_first stJobNew (3 * roundUp (picBytes 720 486 0 + 4096) 65536) 0x100000 0x100000 rfl
    (by decide +kernel) (by decide)
  obtain ⟨q, hq⟩ := hq ⟨b, 3 * roundUp (picBytes 720 486 0 + 4096) 65536, objKey kJob 0, false, true⟩ rfl rfl
  unfold State.jobAlloc
  rw [show (jobOfArgs jobPay).outW = 720 from rfl, show (jobOfArgs jobPay).outH = 486 from rfl, show (jobOfArgs jobPay).outStruct = 0 from rfl]
  unfold State.allocate
  dsimp only
  rw [hb]
  dsimp only
  rw [show stJobNew.allocs ++ [(⟨b, 3 * roundUp (picBytes 720 486 0 + 4096) 65536, objKey kJob 0, false, true⟩ : Alloc)]
    = [⟨b, 3 * roundUp (picBytes 720 486 0 + 4096) 65536, objKey kJob 0, false, true⟩] from rfl, hq]
  have ha : stJobNew.admits [(cJob 0, jobCharge (jobOfArgs jobPay))] = true := by decide +kernel
  exact ⟨_, _, _, rfl, ha⟩

theorem witness_JobCommands_1 : stJobNew.taking 0 0x40 (cmdOf stJobNew) ∧ (cmdOf stJobNew).payLen = 64 ∧ jobPay.length = 64 ∧ stJobNew.modeOk ∧ stJobNew.sessOk 0 (cmdOf stJobNew) ∧ check (jobArgChecks jobPay []) = .ok ∧ check (stJobNew.jobDevChecks jobPay) = .ok ∧ stJobNew.freeIndex kJob 0 = some 0 ∧ stJobNew.freeIndex kSurface 0 = some 0 ∧ stJobNew.placeJob 1 0 0 = some [0] ∧ jobCredits (jobOfArgs jobPay) false = 0 ∧ after (.jobStart pPF 31 7) stJobNew (fun t => (tfind t.jobs 5).any (fun j => t.jobLc j = lcARMED)) = true := by decide +kernel

theorem witness_JobCommands_2 : check (stJob.accessChecks 0x10 (jobLcAddr 31 7) true) = .ok ∧ stJob.jobInSlot 31 7 = some 5 ∧ (tfind stJob.jobs 5).any (fun j => check (stJob.jobStartChecks 0x10 5 j) = .ok) = true ∧ after (.jobStart 0x10 31 7) stJob (fun t => (tfind t.jobs 5).any (fun j => t.jobLc j = lcARMED)) = true := by decide +kernel

theorem witness_JobCommands_3 : check (stJob.accessChecks 0x11 (jobLcAddr 31 7) true) = .ok ∧ (tfind stJob.jobs 5).any (fun j => check (stJob.jobStartChecks 0x11 5 j) = .protected') = true ∧ after (.jobStart 0x11 31 7) stJob (fun t => t.resp = ⟨8, 0⟩) = true := by decide +kernel

def stJobRun : State := stJob.wrk R.CVA_JOB_STAT_LC_STATE 31 7 lcRUNNING

theorem witness_JobCommands_4 : check (stJobRun.accessChecks 0x10 (jobLcAddr 31 7) true) = .ok ∧ stJobRun.ownsJob 0x10 5 = true ∧ after (.jobStop 0x10 31 7) stJobRun (fun t => (tfind t.jobs 5).any (fun j => t.jobLc j = lcSTOPPING)) = true := by decide +kernel

theorem witness_JobCommands_5 : 31 < stJobRun.engines ∧ after (.engineLocalStoreFault 31 2) stJobRun (fun t => (tfind t.jobs 5).any (fun j => t.jobLc j = lcSTOPPING ∧ bitAt (t.jrd j R.CVA_JOB_EVT_FLAGS) 7) ∧ t.rd R.MGT_FLOG_WR_INDEX 0 = 1 ∧ t.on R.CVA_ENG_STAT_FAILED 31) = true := by decide +kernel

def stFull31 : State := { stJobNew with jobs := (upFrom 0 32).map (fun k => (k + 5, { aJob with engs := [k], credits := 1600 })) }

theorem witness_JobCommands_6 : stFull31.taking 0 0x40 (cmdOf stFull31) ∧ stFull31.sessOk 0 (cmdOf stFull31) ∧ check (stFull31.jobDevChecks jobPay) = .ok ∧ stFull31.freeIndex kJob 0 = some 0 ∧ stFull31.placeJob 1 1 0 = none ∧ after (.jobCreate 0 (jobPay.set 8 0x80 |>.set 9 2) []) stFull31 (fun t => Completed t 0 (cmdOf stFull31) .noContext 0 0) = true := by decide +kernel

def stSurf : State := took stSess 0x20 0 0 ([4, 0, 0, 0, 8, 0, 8, 0] ++ List.replicate 24 0)

theorem witness_SurfaceCreate_0 : stSurf.taking 0 0x20 (cmdOf stSurf) ∧ (cmdOf stSurf).plain ∧ stSurf.modeOk ∧ stSurf.sessOk 0 (cmdOf stSurf)
    ∧ check (surfChecks (surfArgs (cmdOf stSurf).inl)) = .ok ∧ stSurf.freeIndex kSurface 0 = some 0
    ∧ ∃ b u, stSurf.allocate (roundUp (surfFrameBytes 4 8 8 0 * 1) 65536) 65536 (objKey kSurface 0) false false = some (b, u) := by
  refine ⟨by decide +kernel, by decide +kernel, by decide +kernel, by decide +kernel, by decide +kernel, by decide +kernel, ?_⟩
  obtain ⟨b, hb⟩ := findPlace_some stSurf (roundUp (surfFrameBytes 4 8 8 0 * 1) 65536) 65536 (by decide +kernel)
  unfold State.allocate
  rw [hb]
  exact ⟨_, _, rfl⟩

def stSurf0 : State := took stSess 0x20 0 0 ([4, 0, 0, 0, 0, 0, 8, 0] ++ List.replicate 24 0)

theorem witness_SurfaceCreate_1 : stSurf0.taking 0 0x20 (cmdOf stSurf0) ∧ check (surfChecks (surfArgs (cmdOf stSurf0).inl)) = .decode ∧ after (.surfaceCreate 0 []) stSurf0 (fun t => Completed t 0 (cmdOf stSurf0) .decode 0 0) = true := by decide +kernel

def stPipe : State := mk mRUN [(R.OUT_TMG_FMT_FMT, 95, 0x12), (R.REF_TLN_CFG_FMT, 0, 0x12), (R.REF_TLN_STAT_STATE, 0, 2), (R.OUT_ANC_CFG_TC_LINE, 95, 10)]

theorem witness_PipelineLifecycle_1 : check (stPipe.accessChecks 2 (outAddr 95 0) true) = .ok ∧ check (stPipe.outStartChecks 2 95) = .ok ∧ stPipe.admits (stPipe.liveCharges 95) = true ∧ after (.outStart 2 95) stPipe (fun t => t.rd R.OUT_STAT_LC_STATE 95 = lcARMED ∧ t.resp = ⟨0, 0⟩) = true := by decide +kernel

def stPipeFull : State := { stPipe with charges := [(0, 1600001)] }

theorem witness_PipelineLifecycle_2 : check (stPipeFull.accessChecks 2 (outAddr 95 0) true) = .ok ∧ check (stPipeFull.outStartChecks 2 95) = .ok ∧ stPipeFull.admits (stPipeFull.liveCharges 95) = false ∧ after (.outStart 2 95) stPipeFull (fun t => t.resp = ⟨0xC, 0⟩ ∧ t.rd R.PLZ_ISO_REFUSED_COUNT 0 = 1) = true := by decide +kernel

theorem witness_PipelineLifecycle_3 : check (stPipe.accessChecks pPF (outAddr 95 0) true) = .ok ∧ check (stPipe.outStartChecks pPF 95) = .protected' ∧ after (.outStart pPF 95) stPipe (fun t => t.resp = ⟨8, 0⟩) = true := by decide +kernel

def stPipeArm : State := { stPipe.wrk R.OUT_STAT_LC_STATE 95 0 lcARMED with charges := [(cSelect 95, 5)] }

theorem witness_PipelineLifecycle_4 : check (stPipeArm.accessChecks 2 (outAddr 95 0) true) = .ok ∧ stPipeArm.holds 2 kPipe 95 = true ∧ stPipeArm.gangMember 95 = false ∧ after (.outStop 2 95) stPipeArm (fun t => t.rd R.OUT_STAT_LC_STATE 95 = lcSTOPPED ∧ t.chargeOf (cSelect 95) = 0) = true := by decide +kernel

def stGang : State := stPipe.wrk R.PLZ_GANG_CFG_GANG 0 0 (2 ^ 23)

theorem witness_PipelineLifecycle_5 : check (stGang.accessChecks 2 (outAddr 95 0) true) = .ok ∧ stGang.gangMember 95 = true ∧ after (.outStop 2 95) stGang (fun t => t.resp = ⟨8, 0⟩) = true := by decide +kernel

def stIns : State := (let s := stPipe.issue kRing 40 0
  s.setRing 40 ⟨0x10000, 0x10000, 4, 3, false, true, false, false, 0, 0, 0, 0, 0, 0, s.handleOf kRing 40⟩)

theorem witness_PipelineLifecycle_6 : check (stIns.accessChecks 2 (outAddr 95 0x24) true) = .ok ∧ stIns.holds 2 kPipe 95 = true ∧ check (stIns.ringChecks (stIns.handleOf kRing 40) 0 true 3) = .ok ∧ after (.ancRingWrite 2 95 (stIns.handleOf kRing 40)) stIns (fun t => t.rd R.OUT_ANC_RING_RING 95 = stIns.handleOf kRing 40) = true := by decide +kernel

def stSkim : State := took stSess 0x61 0 (stSess.handleOf kPipe 95) []

theorem witness_PipelineLifecycle_7 : stSkim.taking 0 0x61 (cmdOf stSkim) ∧ (cmdOf stSkim).plain ∧ stSkim.modeOk ∧ stSkim.sessOk 0 (cmdOf stSkim) ∧ stSkim.ownsObj (cmdOf stSkim) kPipe ∧ stSkim.stencil = true ∧ 95 < stSkim.lanes ∧ stSkim.gangMember 95 = false ∧ after (.skimCreate 0 []) stSkim (fun t => Completed t 0 (cmdOf stSkim) .ok (mkHandle kSkim (nextGen (stSkim.obj kSkim 95).gen) 95) 0) = true := by decide +kernel

def stPipeOn : State := stPipe.wrk R.OUT_STAT_LC_STATE 95 0 lcARMED

theorem witness_PipelineLines_1 : stPipeOn.lineRuns 95 7 = true ∧ (stPipeOn.pipeFmt 95).sw = 7 ∧ after (.pipelineLineStart 95 9 7 []) stPipeOn (fun t => t.rd R.OUT_STAT_LINE 95 = 7 ∧ t.rd R.OUT_STAT_LC_STATE 95 = lcRUNNING ∧ (t.pipe 95).cfg.isSome) = true := by decide +kernel

def stPipeEnd : State := ((stPipe.wrk R.OUT_STAT_LC_STATE 95 0 lcSTOPPING).wrk R.OUT_STAT_LINE 95 0 30).setPipe 95 (fun x => { x with cfg := some (stPipe.frameCfg 95) })

theorem witness_PipelineLines_2 : stPipeEnd.lineRuns 95 1 = true ∧ (stPipeEnd.pipe 95).cfg.isSome ∧ stPipeEnd.rd R.OUT_STAT_LC_STATE 95 = lcSTOPPING ∧ after (.pipelineLineStart 95 9 1 []) stPipeEnd (fun t => t.rd R.OUT_STAT_LC_STATE 95 = lcSTOPPED) = true := by decide +kernel

theorem witness_PipelineLines_3 : stPipeEnd.lineRuns 95 746 = true ∧ lastActive (stPipeEnd.pipeFmt 95) = 745 ∧ (stPipeEnd.pipe 95).cfg.isSome ∧ after (.pipelineLineStart 95 9 746 []) stPipeEnd (fun t => bitAt (t.rd R.OUT_EVT_FLAGS 95) 2 ∧ bitAt (t.rd R.OUT_EVT_FLAGS 95) 0) = true := by decide +kernel

def stNoTln : State := stPipeEnd.wrk R.REF_TLN_STAT_STATE 0 0 0

theorem witness_PipelineLines_4 : stNoTln.lineRuns 95 1 = false ∧ stNoTln.modeCode ≠ mLIMP ∧ stNoTln.gangMember 95 = false ∧ 1 ≤ (stNoTln.pipeFmt 95).lines ∧ after (.pipelineLineStart 95 9 1 []) stNoTln (fun t => t.rd R.OUT_STAT_LINE 95 = 0) = true := by decide +kernel

def stCutEnd : State := (stPipeEnd.wrk R.REF_TLN_PHASE_NS 0 0 5000000).wrk R.REF_TLN_STAT_CUT_PEND 0 0 1

theorem witness_PipelineLines_5 : stCutEnd.pastEnd 95 0 751 = true ∧ stCutEnd.modeCode ≠ mLIMP ∧ after (.pipelineLineStart 95 0 751 []) stCutEnd (fun t => t.rd R.OUT_STAT_LINE 95 = 0 ∧ t.rd R.OUT_STAT_LC_STATE 95 = lcSTOPPING) = true := by decide +kernel

theorem witness_PipelineLines_6 : stPipeEnd.pastEnd 95 0 751 = false ∧ (stPipeEnd.pipe 95).held = [] ∧ after (.pipelineLineStart 95 0 751 []) stPipeEnd (fun t => t = stPipeEnd) = true := by decide +kernel

def stSmall : State := { State.reset with fuses := { State.reset.fuses with variant := 0x43 } }

theorem witness_PipelineLines_7 : stSmall.lanes ≤ 32 ∧ after (.pipelineLineStart 32 9 1 []) stSmall (fun t => t = stSmall) = true := by decide +kernel

theorem witness_PipelineLines_8 : (mk mLIMP []).modeCode = mLIMP ∧ (mk mLIMP []).txState 95 ≠ 3 ∧ after (.pipelineLineStart 95 9 1 []) (mk mLIMP []) (fun t => t = mk mLIMP []) = true := by decide +kernel

theorem witness_PipelineLines_9 : (activeRow (stPipeEnd.pipeFmt 95) (stPipeEnd.rd R.OUT_STAT_LINE 95)).isSome = true ∧ stPipeEnd.on R.OUT_STAT_ABORTED 95 = false ∧ after (.lineUnderrun 95 255 true) { stPipeEnd with pipeX := stPipeEnd.pipeX } (fun t => t.on R.OUT_STAT_ABORTED 95 ∧ t.rd R.OUT_UR_LAST_MASK 95 = 255 ∧ t.rd R.OUT_UR_LAST_LINE 95 = 30) = true := by decide +kernel

theorem witness_PipelineLines_10 : (stPipeOn.wrk R.OUT_STAT_LC_STATE 95 0 lcRUNNING).rd R.OUT_STAT_LC_STATE 95 = lcRUNNING ∧ after (.lineStoreEccFault 95 3) (stPipeOn.wrk R.OUT_STAT_LC_STATE 95 0 lcRUNNING) (fun t => t.rd R.OUT_STAT_LC_STATE 95 = lcSTOPPING ∧ bitAt (t.rd R.OUT_EVT_FLAGS 95) 7 ∧ t.rd R.MGT_FLOG_WR_INDEX 0 = 1) = true := by decide +kernel

def stAud : State := mk mRUN [(R.INP_STAT_LC_STATE, 95, lcRUNNING), (R.AUD_IN_CFG_GRP_EN, 95, 0x0F), (R.REF_STAT_EPOCH_RUN, 0, 1)]

def stAudL : State := (stAud.wrk R.AUD_GRP_STAT_STATE 95 3 gLOCKED)

theorem witness_AudioGroups_1 : stAud.groupLive 95 3 = true ∧ stAud.grpState 95 3 = gOFF ∧ after (.audioPacketReceived 95 3 5 [1, 2, 3, -8388608] true false) stAud (fun t => t.grpState 95 3 = gACQUIRE ∧ (t.grp 95 3).src.map (·.smp) = [[1, 2, 3, -8388608]] ∧ (t.grp 95 3).srcN = 1) = true := by decide +kernel

theorem witness_AudioGroups_2 : stAudL.groupLive 95 3 = true ∧ stAudL.grpState 95 3 = gLOCKED ∧ after (.audioPacketReceived 95 3 5 [] false true) stAudL (fun t => t.grpState 95 3 = gFAULT ∧ bitAt (t.rd R.AUD_IN_EVT_FLAGS 95) 2) = true := by decide +kernel

theorem witness_AudioGroups_3 : stAud.groupLive 95 4 = false ∧ after (.audioPacketReceived 95 4 5 [] false true) stAud (fun t => t = stAud) = true := by decide +kernel

theorem witness_AudioGroups_4 : stAudL.grpState 95 3 ≠ gOFF ∧ after (.groupRateWindow 95 3 (-10001)) stAudL (fun t => t.grpState 95 3 = gFAULT ∧ t.rdk R.AUD_GRP_STAT_RATE_OFS 95 3 = 65536 - 10001) = true := by decide +kernel

theorem witness_AudioGroups_5 : (stAud.wrk R.AUD_GRP_STAT_STATE 95 3 gACQUIRE).grpState 95 3 = gACQUIRE ∧ after (.groupRateWindow 95 3 10000) (stAud.wrk R.AUD_GRP_STAT_STATE 95 3 gACQUIRE) (fun t => t.grpState 95 3 = gLOCKED ∧ bitAt (t.rd R.AUD_IN_EVT_FLAGS 95) 0) = true := by decide +kernel

theorem witness_AudioGroups_6 : stAudL.grpState 95 3 = gLOCKED ∧ after (.groupPacketTimeout 95 3) stAudL (fun t => t.grpState 95 3 = gOFF ∧ bitAt (t.rd R.AUD_IN_EVT_FLAGS 95) 1 ∧ (t.grp 95 3).decay = some 0) = true := by decide +kernel

/-- Port 95 with its lip-sync target 2 ms above its delay. -/
def stLip : State := let s := (stAud.wrk R.AUD_IN_FIXED_LS_FIXED_US 95 0 3000).wrk R.AUD_IN_CFG_LS_SLEW_PPM 95 0 500
  { s with lipX := [(95, ⟨3000000, 3000000, s.rd R.AUD_IN_CFG_LS_MODE 95, 3000, none, true⟩)] }

theorem witness_AudioGroups_7 : (stLip.lip 95).mode = stLip.rd R.AUD_IN_CFG_LS_MODE 95 ∧ (stLip.lip 95).fixed = stLip.rd R.AUD_IN_FIXED_LS_FIXED_US 95 ∧ (stLip.lip 95).target = clampDa (stLip.lipRaw 95) ∧ after (.asrcBlock 95) stLip (fun t => t.rd R.AUD_IN_DA_NS 95 = 1000500) = true := by decide +kernel

theorem witness_AudioGroups_8 : stAudL.gridRuns = true ∧ after (.audioGridSample []) { stAud with grid := 2 ^ 32 - 1 } (fun t => t.grid = 2 ^ 32 ∧ t.rd R.AUD_GRID_LO_G 0 = 0 ∧ t.rd R.AUD_GRID_HI_G 0 = 1) = true := by decide +kernel

theorem witness_AudioGroups_9 : State.reset.gridRuns = false ∧ after (.audioGridSample []) State.reset (fun t => t = State.reset) = true := by decide +kernel

def stNp : State := (stAudL.setGrp 95 3 (fun x => { x with det := [(1, ⟨true, 1, some 0, none⟩)] }))

theorem witness_AudioGroups_10 : stNp.npcmDue 95 3 1 true = true ∧ after (.npcmChange 95 3 1 true) stNp (fun t => ((t.grp 95 3).pairDet 1).next = some true ∧ (t.npcmFrame 95).rdk R.AUD_GRP_STAT_NPCM 95 3 = 2 ∧ bitAt ((t.npcmFrame 95).rd R.AUD_IN_EVT_FLAGS 95) 4) = true := by decide +kernel

theorem witness_AudioGroups_11 : stAudL.npcmDue 95 3 1 true = false ∧ after (.npcmChange 95 3 1 true) stAudL (fun t => t = stAudL) = true := by decide +kernel

def stRoute : State := took stSess 0x50 0 0 (3 :: List.replicate 31 0)

theorem witness_AudioObjects_1 : stRoute.taking 0 0x50 (cmdOf stRoute) ∧ (cmdOf stRoute).plain ∧ stRoute.modeOk ∧ stRoute.sessOk 0 (cmdOf stRoute) ∧ check (stRoute.routeChecks (cmdOf stRoute).inl) = .ok ∧ stRoute.freeIndex kRoute 0 = some 0 ∧ after (.routeCreate 0 []) stRoute (fun t => Completed t 0 (cmdOf stRoute) .ok (mkHandle kRoute (nextGen (stRoute.obj kRoute 0).gen) 0) 0 ∧ t.rd R.AUD_RT_STAT_FADE 0 = 3) = true := by decide +kernel

/-- Ring 40 of session 1, 128-byte entries; `host` says whether the host produces. -/
def stRing (host : Bool) : State :=
  let s := (withSession (mk mRUN [])).issue kRing 40 1
  s.setRing 40 ⟨0x10000, 0x10000, 4, 3, false, host, false, false, 0, 0, 1, 0, 0, 0, s.handleOf kRing 40⟩

theorem witness_AudioObjects_2 : check ((stRing true).accessChecks pPF (0x706000 + 0x20 * 63) true) = .ok ∧ check ((stRing true).slotChecks pPF 0 ((stRing true).handleOf kRing 40) true) = .ok ∧ after (.insRingWrite pPF 63 ((stRing true).handleOf kRing 40)) (stRing true) (fun t => t.rd R.AUD_INS_RING_RING 63 = (stRing true).handleOf kRing 40 ∧ t.rd R.AUD_INS_STAT_STATE 63 = 1) = true := by decide +kernel

theorem witness_AudioObjects_3 : check ((stRing false).accessChecks pPF (0x706800 + 0x20 * 63) true) = .ok ∧ check ((stRing false).slotChecks pPF 0 ((stRing false).handleOf kRing 40) false) = .ok ∧ after (.tapRingWrite pPF 63 ((stRing false).handleOf kRing 40)) (stRing false) (fun t => t.rd R.AUD_TAP_RING_RING 63 = (stRing true).handleOf kRing 40) = true := by decide +kernel

theorem witness_AudioObjects_4 : check ((stRing false).accessChecks 0x11 (0x706800 + 0x20 * 63) true) = .ok ∧ (stRing false).prinOf ((stRing false).hobj ((stRing true).handleOf kRing 40)).owner ≠ 0x11 ∧ after (.tapRingWrite 0x11 63 ((stRing false).handleOf kRing 40)) (stRing false) (fun t => t.resp = ⟨8, 0⟩) = true := by decide +kernel

theorem witness_AudioObjects_5 : stAud.audio = true ∧ after (.shuffleBufferEcc 4 [(3, 7)]) { stAud with aHist := [(3, [(7, 5), (8, 6)])] } (fun t => t.aHist = [(3, [(8, 6)])] ∧ t.rd R.MGT_FLOG_WR_INDEX 0 = 1 ∧ t.on R.AUD_UNIT_EVT_FLAGS 0) = true := by decide +kernel

/-- An instruction word (R425) of opcode, GD, GS, M, SEL and IMM. -/
def insWord (op gd gs m sel imm : Nat) : Nat := op * 2 ^ 56 + gd * 2 ^ 52 + gs * 2 ^ 48 + m * 2 ^ 40 + sel * 2 ^ 32 + imm

/-- A thread, 159, that runs the given instruction and a NOP after it, with g(15) = `a`; timeline 15 is past line 1 of a frame. -/
def stThread (w a : Nat) : State :=
  let s := (mk mRUN [(R.CUE_STAT_STATE, 159, cRUNNING), (R.CUE_SESS_HANDLE, 159, mkHandle kSession 1 1), (R.CUE_STAT_TLN, 159, 15),
    (R.REF_TLN_CFG_FMT, 15, 0x12), (R.REF_TLN_STAT_STATE, 15, 2)]).wrk R.CUE_G_VALUE 159 15 a
  let s := (withSession s).issue kProgram 0 1
  { s.wrk R.CUE_PROG_HANDLE 159 0 (s.handleOf kProgram 0) with progs := [(0, [w, 0])] }

theorem test_insWord : insOf (insWord 0x22 15 14 0 0 0x0104) = ⟨0x22, 15, 14, false, false, 0, 0, 0x0104⟩ := by decide +kernel

def stLoad : State := took (withSession (mk mIDLE [])) 0x30 16 0 []

theorem witness_CueThreads_1 : stLoad.taking 0 0x30 (cmdOf stLoad) ∧ stLoad.sessOk 0 (cmdOf stLoad) ∧ firstBad 2 0 (words64 2 (leBytes 8 0 ++ leBytes 8 (insWord 7 0 0 0 0 0))) = none ∧ stLoad.freeIndex kProgram 0 = some 0 ∧ after (.programLoad 0 (leBytes 8 0 ++ leBytes 8 (insWord 7 0 0 0 0 0))) stLoad (fun t => Completed t 0 (cmdOf stLoad) .ok (mkHandle kProgram (nextGen (stLoad.obj kProgram 0).gen) 0) 2 ∧ tfind t.progs 0 = some [0, 7 * 2 ^ 56]) = true := by decide +kernel

theorem witness_CueThreads_2 : firstBad 2 0 (words64 2 (leBytes 8 0 ++ leBytes 8 (insWord 8 0 0 0 0 0))) = some 1 ∧ after (.programLoad 0 (leBytes 8 0 ++ leBytes 8 (insWord 8 0 0 0 0 0))) stLoad (fun t => Completed t 0 (cmdOf stLoad) .decode 0 1) = true := by decide +kernel

def stBind : State := (let s := (stThread 0 0).wrk R.CUE_STAT_STATE 159 0 cSTOPPED
  took s 0x31 0 0 ([159, 0, 15, 0] ++ leBytes 4 (s.handleOf kProgram 0) ++ List.replicate 4 0 ++ [1, 0, 0, 0] ++ List.replicate 16 0))

theorem witness_CueThreads_3 : stBind.taking 0 0x31 (cmdOf stBind) ∧ (cmdOf stBind).plain ∧ stBind.modeOk ∧ stBind.sessOk 0 (cmdOf stBind) ∧ check (stBind.bindChecks 1 (cmdOf stBind).inl) = .ok ∧ stBind.bindThread (cmdOf stBind).inl = some 159 ∧ after (.threadBind 0 []) stBind (fun t => Completed t 0 (cmdOf stBind) .ok 0 159 ∧ t.cueTln 159 = 15 ∧ (t.cue 159).entry = 1) = true := by decide +kernel

def stStartT : State := took ((stThread 0 9).wrk R.CUE_STAT_STATE 159 0 cFAULTED) 0x32 0 0 ([159] ++ List.replicate 31 0)

theorem witness_CueThreads_4 : stStartT.taking 0 0x32 (cmdOf stStartT) ∧ stStartT.sessOk 0 (cmdOf stStartT) ∧ stStartT.modePending = false ∧ check (stStartT.threadChecks 1 (cmdOf stStartT).inl) = .ok ∧ (stStartT.domain (0x20 + 159 / 16)).st ≠ 2 ∧ after (.threadStart 0 []) stStartT (fun t => Completed t 0 (cmdOf stStartT) .ok 0 0 ∧ t.cueState 159 = cRUNNING ∧ t.cueG 159 15 = 0) = true := by decide +kernel

def stStopT : State := took (stThread 0 9) 0x33 0 0 ([159] ++ List.replicate 31 0)

theorem witness_CueThreads_5 : stStopT.taking 0 0x33 (cmdOf stStopT) ∧ stStopT.modeOk ∧ check (stStopT.threadChecks 1 (cmdOf stStopT).inl) = .ok ∧ after (.threadStop 0 []) stStopT (fun t => Completed t 0 (cmdOf stStopT) .ok 0 0 ∧ t.cueState 159 = cSTOPPED) = true := by decide +kernel

theorem witness_CueThreads_6 : check ((stThread 0 9).accessChecks pPF (0x800080 + 0x100 * 159 + 4 * 31) true) = .ok ∧ (stThread 0 9).prinOf ((stThread 0 9).cueSess 159) = pPF ∧ after (.paramWrite pPF 159 31 (2 ^ 32 - 1)) (stThread 0 9) (fun t => t.cueP 159 31 = 2 ^ 32 - 1) = true := by decide +kernel

theorem witness_CueThreads_7 : check ((stThread 0 9).accessChecks 0x11 (0x800080 + 0x100 * 159) true) = .ok ∧ after (.paramWrite 0x11 159 0 5) (stThread 0 9) (fun t => t.resp = ⟨8, 0⟩) = true := by decide +kernel

theorem witness_CueArithmetic_1 : (stThread (insWord 16 15 0 0 0 4294967295) (5)).issues 159 (insWord 16 15 0 0 0 4294967295) ∧ (stThread (insWord 16 15 0 0 0 4294967295) (5)).more 159 ∧ (True) ∧ after (.ldi 159) (stThread (insWord 16 15 0 0 0 4294967295) (5)) (fun t => t.cueG 159 15 = 4294967295 ∧ t.wentOn 159 1) = true := by decide +kernel

theorem witness_CueArithmetic_2 : (stThread (insWord 17 15 0 0 0 1) (4294967295)).issues 159 (insWord 17 15 0 0 0 1) ∧ (stThread (insWord 17 15 0 0 0 1) (4294967295)).more 159 ∧ (True) ∧ after (.add 159) (stThread (insWord 17 15 0 0 0 1) (4294967295)) (fun t => t.cueG 159 15 = 0 ∧ t.wentOn 159 1) = true := by decide +kernel

theorem witness_CueArithmetic_3 : (stThread (insWord 18 15 0 0 0 1) (0)).issues 159 (insWord 18 15 0 0 0 1) ∧ (stThread (insWord 18 15 0 0 0 1) (0)).more 159 ∧ (True) ∧ after (.sub 159) (stThread (insWord 18 15 0 0 0 1) (0)) (fun t => t.cueG 159 15 = 4294967295 ∧ t.wentOn 159 1) = true := by decide +kernel

theorem witness_CueArithmetic_4 : (stThread (insWord 19 15 0 0 0 6) (3)).issues 159 (insWord 19 15 0 0 0 6) ∧ (stThread (insWord 19 15 0 0 0 6) (3)).more 159 ∧ (True) ∧ after (.andOp 159) (stThread (insWord 19 15 0 0 0 6) (3)) (fun t => t.cueG 159 15 = 2 ∧ t.wentOn 159 1) = true := by decide +kernel

theorem witness_CueArithmetic_5 : (stThread (insWord 20 15 0 0 0 6) (3)).issues 159 (insWord 20 15 0 0 0 6) ∧ (stThread (insWord 20 15 0 0 0 6) (3)).more 159 ∧ (True) ∧ after (.orOp 159) (stThread (insWord 20 15 0 0 0 6) (3)) (fun t => t.cueG 159 15 = 7 ∧ t.wentOn 159 1) = true := by decide +kernel

theorem witness_CueArithmetic_6 : (stThread (insWord 21 15 0 0 0 6) (3)).issues 159 (insWord 21 15 0 0 0 6) ∧ (stThread (insWord 21 15 0 0 0 6) (3)).more 159 ∧ (True) ∧ after (.xorOp 159) (stThread (insWord 21 15 0 0 0 6) (3)) (fun t => t.cueG 159 15 = 5 ∧ t.wentOn 159 1) = true := by decide +kernel

theorem witness_CueArithmetic_7 : (stThread (insWord 22 15 0 0 0 33) (2147483649)).issues 159 (insWord 22 15 0 0 0 33) ∧ (stThread (insWord 22 15 0 0 0 33) (2147483649)).more 159 ∧ (True) ∧ after (.shl 159) (stThread (insWord 22 15 0 0 0 33) (2147483649)) (fun t => t.cueG 159 15 = 2 ∧ t.wentOn 159 1) = true := by decide +kernel

theorem witness_CueArithmetic_8 : (stThread (insWord 23 15 0 1 0 31) (2147483648)).issues 159 (insWord 23 15 0 1 0 31) ∧ (stThread (insWord 23 15 0 1 0 31) (2147483648)).more 159 ∧ (True) ∧ after (.shr 159) (stThread (insWord 23 15 0 1 0 31) (2147483648)) (fun t => t.cueG 159 15 = 4294967295 ∧ t.wentOn 159 1) = true := by decide +kernel

theorem witness_CueArithmetic_9 : (stThread (insWord 24 15 0 1 0 4294967295) (0)).issues 159 (insWord 24 15 0 1 0 4294967295) ∧ (stThread (insWord 24 15 0 1 0 4294967295) (0)).more 159 ∧ (True) ∧ after (.cmp 159) (stThread (insWord 24 15 0 1 0 4294967295) (0)) (fun t => t.cueG 159 15 = 1 ∧ t.wentOn 159 1) = true := by decide +kernel

theorem witness_CueArithmetic_10 : (stThread (insWord 24 15 0 0 0 4294967295) (0)).issues 159 (insWord 24 15 0 0 0 4294967295) ∧ (stThread (insWord 24 15 0 0 0 4294967295) (0)).more 159 ∧ (True) ∧ after (.cmp 159) (stThread (insWord 24 15 0 0 0 4294967295) (0)) (fun t => t.cueG 159 15 = 4294967295 ∧ t.wentOn 159 1) = true := by decide +kernel

theorem witness_CueArithmetic_11 : (stThread (insWord 24 15 0 2 0 1) (4294967295)).issues 159 (insWord 24 15 0 2 0 1) ∧ (stThread (insWord 24 15 0 2 0 1) (4294967295)).more 159 ∧ (True) ∧ after (.cmp 159) (stThread (insWord 24 15 0 2 0 1) (4294967295)) (fun t => t.cueG 159 15 = 4294967295 ∧ t.wentOn 159 1) = true := by decide +kernel

theorem witness_CueArithmetic_12 : (stThread (insWord 25 15 0 0 0 68) (0)).issues 159 (insWord 25 15 0 0 0 68) ∧ (stThread (insWord 25 15 0 0 0 68) (0)).more 159 ∧ (True) ∧ after (.ldp 159) (stThread (insWord 25 15 0 0 0 68) (0)) (fun t => t.cueG 159 15 = 159 ∧ t.wentOn 159 1) = true := by decide +kernel

theorem witness_CueArithmetic_13 : (stThread (insWord 26 15 0 0 0 31) (7)).issues 159 (insWord 26 15 0 0 0 31) ∧ (stThread (insWord 26 15 0 0 0 31) (7)).more 159 ∧ (True) ∧ after (.stp 159) (stThread (insWord 26 15 0 0 0 31) (7)) (fun t => t.cueP 159 31 = 7) = true := by decide +kernel

theorem witness_CueArithmetic_14 : (stThread 0 0).issues 159 0 ∧ after (.add 159) (stThread 0 0) (fun t => t = stThread 0 0) = true := by decide +kernel

theorem witness_CueControl_1 : (stThread (0) (0)).issues 159 (0) ∧ (stThread (0) (0)).more 159 ∧ (True) ∧ after (.nop 159) (stThread (0) (0)) (fun t => t.wentOn 159 1) = true := by decide +kernel

def stLast : State := { stThread 0 0 with progs := [(0, [0])] }

theorem witness_CueControl_2 : stLast.issues 159 0 ∧ ¬stLast.more 159 ∧ after (.nop 159) stLast (fun t => t.cueState 159 = cFAULTED ∧ t.rd R.CUE_FAULT_STATUS 159 = 0xB) = true := by decide +kernel

theorem witness_CueControl_3 : (stThread (insWord 1 0 0 0 0 1) (0)).issues 159 (insWord 1 0 0 0 0 1) ∧ (stThread (insWord 1 0 0 0 0 1) (0)).more 159 ∧ (True) ∧ after (.br 159) (stThread (insWord 1 0 0 0 0 1) (0)) (fun t => t.wentOn 159 1) = true := by decide +kernel

theorem witness_CueControl_4 : (stThread (insWord 1 0 15 128 0 0) (2)).issues 159 (insWord 1 0 15 128 0 0) ∧ (stThread (insWord 1 0 15 128 0 0) (2)).more 159 ∧ (2 ≤ (stThread (insWord 1 0 15 128 0 0) 2).operand 159 (insOf (insWord 1 0 15 128 0 0))) ∧ after (.br 159) (stThread (insWord 1 0 15 128 0 0) (2)) (fun t => Faulted (stThread (insWord 1 0 15 128 0 0) 2) t 159 .decode) = true := by decide +kernel

theorem witness_CueControl_5 : (stThread (insWord 1 0 15 192 0 0) (2)).issues 159 (insWord 1 0 15 192 0 0) ∧ (stThread (insWord 1 0 15 192 0 0) (2)).more 159 ∧ (True) ∧ after (.br 159) (stThread (insWord 1 0 15 192 0 0) (2)) (fun t => t.wentOn 159 1 ∧ t.rd R.CUE_S_S 159 = 0xB) = true := by decide +kernel

theorem witness_CueControl_6 : (stThread (insWord 2 15 0 0 0 0) (0)).issues 159 (insWord 2 15 0 0 0 0) ∧ (stThread (insWord 2 15 0 0 0 0) (0)).more 159 ∧ (True) ∧ after (.brz 159) (stThread (insWord 2 15 0 0 0 0) (0)) (fun t => t.wentOn 159 0) = true := by decide +kernel

theorem witness_CueControl_7 : (stThread (insWord 3 15 0 0 0 0) (0)).issues 159 (insWord 3 15 0 0 0 0) ∧ (stThread (insWord 3 15 0 0 0 0) (0)).more 159 ∧ (True) ∧ after (.brnz 159) (stThread (insWord 3 15 0 0 0 0) (0)) (fun t => t.wentOn 159 1) = true := by decide +kernel

theorem witness_CueControl_8 : (stThread (insWord 4 0 0 0 0 0) (0)).issues 159 (insWord 4 0 0 0 0 0) ∧ (stThread (insWord 4 0 0 0 0 0) (0)).more 159 ∧ (True) ∧ after (.call 159) (stThread (insWord 4 0 0 0 0 0) (0)) (fun t => t.wentOn 159 0 ∧ (t.cue 159).stack = [1]) = true := by decide +kernel

def stDeep : State := (stThread (insWord 4 0 0 0 0 0) 0).setCue 159 fun x => { x with stack := List.replicate 8 0 }

theorem witness_CueControl_9 : stDeep.issues 159 (insWord 4 0 0 0 0 0) ∧ after (.call 159) stDeep (fun t => Faulted stDeep t 159 .lenExceeds) = true := by decide +kernel

theorem witness_CueControl_10 : (stThread (insWord 6 15 0 0 0 1) (0)).issues 159 (insWord 6 15 0 0 0 1) ∧ (stThread (insWord 6 15 0 0 0 1) (0)).more 159 ∧ (True) ∧ after (.loopOp 159) (stThread (insWord 6 15 0 0 0 1) (0)) (fun t => t.cueG 159 15 = 2 ^ 32 - 1 ∧ t.wentOn 159 1) = true := by decide +kernel

def stRet : State := (stThread (insWord 5 0 0 0 0 0) 0).setCue 159 fun x => { x with stack := [1] }

theorem witness_CueControl_11 : stRet.issues 159 (insWord 5 0 0 0 0 0) ∧ after (.ret 159) stRet (fun t => t.wentOn 159 1 ∧ (t.cue 159).stack = []) = true := by decide +kernel

theorem witness_CueControl_12 : (stThread (insWord 5 0 0 0 0 0) (0)).issues 159 (insWord 5 0 0 0 0 0) ∧ (stThread (insWord 5 0 0 0 0 0) (0)).more 159 ∧ (True) ∧ after (.ret 159) (stThread (insWord 5 0 0 0 0 0) (0)) (fun t => Faulted (stThread (insWord 5 0 0 0 0 0) 0) t 159 .decode) = true := by decide +kernel

theorem witness_CueControl_13 : (stThread (insWord 7 0 0 0 0 0) (0)).issues 159 (insWord 7 0 0 0 0 0) ∧ (stThread (insWord 7 0 0 0 0 0) (0)).more 159 ∧ (True) ∧ after (.halt 159) (stThread (insWord 7 0 0 0 0 0) (0)) (fun t => t.cueState 159 = cSTOPPED ∧ bitAt (t.rd R.CUE_EVT_FLAGS 159) 1) = true := by decide +kernel

def stFence : State := { stThread (insWord 0x62 0 0 0 0 0) 0 with staged := [⟨0, 15, 1, 159, ⟨.sel 0, []⟩, false, false⟩] }

theorem witness_CueControl_14 : (stThread (insWord 0x62 0 0 0 0 0) (0)).issues 159 (insWord 0x62 0 0 0 0 0) ∧ (stThread (insWord 0x62 0 0 0 0 0) (0)).more 159 ∧ (True) ∧ after (.fence 159) (stThread (insWord 0x62 0 0 0 0 0) (0)) (fun t => t.wentOn 159 1) = true := by decide +kernel

theorem witness_CueControl_15 : stFence.issues 159 (insWord 0x62 0 0 0 0 0) ∧ stFence.cueDelivered 159 = false ∧ after (.fence 159) stFence (fun t => WaitsFor stFence t 159 .fence) = true := by decide +kernel

theorem witness_CueWaits_1 : (stThread (insWord 0x20 0 0 0 0 0) (0)).issues 159 (insWord 0x20 0 0 0 0 0) ∧ (stThread (insWord 0x20 0 0 0 0 0) (0)).more 159 ∧ (True) ∧ after (.waitf 159) (stThread (insWord 0x20 0 0 0 0 0) (0)) (fun t => t.wentOn 159 1) = true := by decide +kernel

theorem witness_CueWaits_2 : (stThread (insWord 0x20 0 0 0 0 9) (0)).issues 159 (insWord 0x20 0 0 0 0 9) ∧ (stThread (insWord 0x20 0 0 0 0 9) (0)).more 159 ∧ (True) ∧ after (.waitf 159) (stThread (insWord 0x20 0 0 0 0 9) (0)) (fun t => WaitsFor (stThread (insWord 0x20 0 0 0 0 9) 0) t 159 (.frames 9)) = true := by decide +kernel

theorem witness_CueWaits_3 : (stThread (insWord 0x21 0 0 0 0 750) (0)).issues 159 (insWord 0x21 0 0 0 0 750) ∧ (stThread (insWord 0x21 0 0 0 0 750) (0)).more 159 ∧ (((stThread (insWord 0x21 0 0 0 0 750) 0).tlnFmt 15).lines = 750) ∧ after (.waitl 159) (stThread (insWord 0x21 0 0 0 0 750) (0)) (fun t => (t.cue 159).wait = .line 750 ∧ t.cueState 159 = cWAITING) = true := by decide +kernel

theorem witness_CueWaits_4 : (stThread (insWord 0x21 0 0 0 0 751) (0)).issues 159 (insWord 0x21 0 0 0 0 751) ∧ (stThread (insWord 0x21 0 0 0 0 751) (0)).more 159 ∧ (True) ∧ after (.waitl 159) (stThread (insWord 0x21 0 0 0 0 751) (0)) (fun t => Faulted (stThread (insWord 0x21 0 0 0 0 751) 0) t 159 .decode) = true := by decide +kernel

def stWaite : State := (let s := (stThread (insWord 0x22 14 15 0 0 0x0201) (mkHandle kInput 1 95))
  s.setObj kInput 95 { s.obj kInput 95 with live := true, gen := 1, owner := 1 })

theorem witness_CueWaits_5 : stWaite.issues 159 (insWord 0x22 14 15 0 0 0x0201) ∧ stWaite.badHandle (stWaite.cueG 159 15) = false ∧ hKind (stWaite.cueG 159 15) = kInput ∧ stWaite.owns (stWaite.cueSess 159) (stWaite.cueG 159 15) = true ∧ kindRaises kInput 0x0201 = true ∧ after (.waite 159) stWaite (fun t => WaitsFor stWaite t 159 (.event (mkHandle kInput 1 95) 0x0201 none stWaite.now)) = true := by decide +kernel

theorem witness_CueWaits_6 : (stThread (insWord 0x23 0 0 0 0 3) (0)).issues 159 (insWord 0x23 0 0 0 0 3) ∧ (stThread (insWord 0x23 0 0 0 0 3) (0)).more 159 ∧ (True) ∧ after (.waitt 159) (stThread (insWord 0x23 0 0 0 0 3) (0)) (fun t => (t.cue 159).wait = .until' 3000) = true := by decide +kernel

def stWoke : State := (((stThread 0 0).setCue 159 fun x => { x with wait := .line 4, woken := some 13 }).wrk R.CUE_STAT_STATE 159 0 cWAITING).wr R.CUE_STAT_PC 159 1

def stWoke0 : State := (stWoke.wr R.CUE_STAT_PC 159 0)

theorem witness_CueWaits_7 : stWoke0.waitDone 159 = some 13 ∧ (stWoke0.cueWords 159).length ≤ 65536 ∧ stWoke0.cuePc 159 = 0 ∧ after (.waitComplete 159) stWoke0 (fun t => Faulted stWoke0 t 159 .decode) = true := by decide +kernel

theorem witness_CueWaits_8 : stWoke.waitDone 159 = some 13 ∧ stWoke.cuePc 159 < (stWoke.cueWords 159).length ∧ after (.waitComplete 159) stWoke (fun t => t.wentOn 159 1 ∧ t.rd R.CUE_S_S 159 = 13) = true := by decide +kernel

theorem witness_CueWaits_9 : (stThread 0 0).waitDone 159 = none ∧ after (.waitComplete 159) (stThread 0 0) (fun t => t = stThread 0 0) = true := by decide +kernel

theorem witness_CueWaits_10 : (stThread (insWord 0x60 15 0 0 0 127) (0)).issues 159 (insWord 0x60 15 0 0 0 127) ∧ (stThread (insWord 0x60 15 0 0 0 127) (0)).more 159 ∧ (True) ∧ after (.emit 159) (stThread (insWord 0x60 15 0 0 0 127) (0)) (fun t => t.wentOn 159 1) = true := by decide +kernel

/-- Thread 159 with ring 40 of its session, in HBM, as its event ring and in g(15). -/
def stPost (w ci : Nat) : State :=
  let s := (stThread w (mkHandle kRing 1 40)).setObj kRing 40 ⟨1, true, false, 1, [], false⟩
  (s.setRing 40 ⟨0x10000, 0x10000, 4, 1, false, false, false, false, 16, ci, 1, 0, 0, 0, mkHandle kRing 1 40⟩).setCue 159 fun x => { x with ring := mkHandle kRing 1 40 }

theorem witness_CueWaits_11 : (stPost (insWord 0x60 15 0 0 0 127) 1).issues 159 (insWord 0x60 15 0 0 0 127) ∧ after (.emit 159) (stPost (insWord 0x60 15 0 0 0 127) 1) (fun t => t.wentOn 159 1 ∧ (tfind t.rings 40).any (fun r => r.pi = 17 ∧ r.drops = 0)) = true := by decide +kernel

theorem witness_CueWaits_12 : (stPost (insWord 0x61 15 0 0 0 24) 1).issues 159 (insWord 0x61 15 0 0 0 24) ∧ check ((stPost (insWord 0x61 15 0 0 0 24) 1).postChecks 159 (mkHandle kRing 1 40) 24) = .ok ∧ after (.post 159) (stPost (insWord 0x61 15 0 0 0 24) 1) (fun t => t.wentOn 159 1 ∧ (tfind t.rings 40).any (fun r => r.pi = 17 ∧ r.drops = 0)) = true := by decide +kernel

theorem witness_CueWaits_13 : (stPost (insWord 0x61 15 0 0 0 24) 0).issues 159 (insWord 0x61 15 0 0 0 24) ∧ after (.post 159) (stPost (insWord 0x61 15 0 0 0 24) 0) (fun t => t.wentOn 159 1 ∧ t.rd R.CUE_S_S 159 = 7 ∧ t.rings = (stPost 0 0).rings) = true := by decide +kernel

theorem witness_CueStaging_1 : (stThread (insWord 0x30 0 0 (16 + 5) 95 1) (0)).issues 159 (insWord 0x30 0 0 (16 + 5) 95 1) ∧ (stThread (insWord 0x30 0 0 (16 + 5) 95 1) (0)).more 159 ∧ ((stThread (insWord 0x30 0 0 (16 + 5) 95 1) 0).destPresent 351 = true) ∧ after (.take 159) (stThread (insWord 0x30 0 0 (16 + 5) 95 1) (0)) (fun t => (t.cue 159).stage = [⟨.sel 351, [(0, 5 * 2 ^ 28 + 1), (1, 0)]⟩]) = true := by decide +kernel

theorem witness_CueStaging_2 : (stThread (insWord 0x30 0 0 3 95 77) (0)).issues 159 (insWord 0x30 0 0 3 95 77) ∧ (stThread (insWord 0x30 0 0 3 95 77) (0)).more 159 ∧ (True) ∧ after (.take 159) (stThread (insWord 0x30 0 0 3 95 77) (0)) (fun t => (t.cue 159).stage = [⟨.sel 95, [(0, 3 * 2 ^ 28), (1, 77)]⟩]) = true := by decide +kernel

theorem witness_CueStaging_3 : (stThread (insWord 49 0 0 7 95 29) (0)).issues 159 (insWord 49 0 0 7 95 29) ∧ (stThread (insWord 49 0 0 7 95 29) (0)).more 159 ∧ (True) ∧ after (.layer 159) (stThread (insWord 49 0 0 7 95 29) (0)) (fun t => (t.cue 159).stage.map (fun e => (e.key, e.vals.length)) = [(.layer 95 7, 3)] ∧ t.wentOn 159 1) = true := by decide +kernel

theorem witness_CueStaging_4 : (stThread (insWord 49 0 0 8 95 30) (0)).issues 159 (insWord 49 0 0 8 95 30) ∧ (stThread (insWord 49 0 0 8 95 30) (0)).more 159 ∧ (True) ∧ after (.layer 159) (stThread (insWord 49 0 0 8 95 30) (0)) (fun t => (t.cue 159).stage.map (fun e => (e.key, e.vals.length)) = [(.uc 95, 2)] ∧ t.wentOn 159 1) = true := by decide +kernel

theorem witness_CueStaging_5 : (stThread (insWord 50 0 0 7 95 28) (0)).issues 159 (insWord 50 0 0 7 95 28) ∧ (stThread (insWord 50 0 0 7 95 28) (0)).more 159 ∧ (True) ∧ after (.laypos 159) (stThread (insWord 50 0 0 7 95 28) (0)) (fun t => (t.cue 159).stage.map (fun e => (e.key, e.vals.length)) = [(.layer 95 7, 4)] ∧ t.wentOn 159 1) = true := by decide +kernel

theorem witness_CueStaging_6 : (stThread (insWord 51 0 0 7 95 20) (0)).issues 159 (insWord 51 0 0 7 95 20) ∧ (stThread (insWord 51 0 0 7 95 20) (0)).more 159 ∧ (True) ∧ after (.matrix 159) (stThread (insWord 51 0 0 7 95 20) (0)) (fun t => (t.cue 159).stage.map (fun e => (e.key, e.vals.length)) = [(.layer 95 7, 12)] ∧ t.wentOn 159 1) = true := by decide +kernel

theorem witness_CueStaging_7 : (stThread (insWord 51 0 0 8 95 19) (0)).issues 159 (insWord 51 0 0 8 95 19) ∧ (stThread (insWord 51 0 0 8 95 19) (0)).more 159 ∧ (True) ∧ after (.matrix 159) (stThread (insWord 51 0 0 8 95 19) (0)) (fun t => (t.cue 159).stage.map (fun e => (e.key, e.vals.length)) = [(.om 95, 13)] ∧ t.wentOn 159 1) = true := by decide +kernel

theorem witness_CueStaging_8 : (stThread (insWord 52 0 0 7 95 28) (0)).issues 159 (insWord 52 0 0 7 95 28) ∧ (stThread (insWord 52 0 0 7 95 28) (0)).more 159 ∧ (True) ∧ after (.skimx 159) (stThread (insWord 52 0 0 7 95 28) (0)) (fun t => (t.cue 159).stage.map (fun e => (e.key, e.vals.length)) = [(.skim 95 7, 4)] ∧ t.wentOn 159 1) = true := by decide +kernel

/-- Thread 159 with route 3071 of its session in g(15). -/
def stAudio (w : Nat) : State := (stThread w (mkHandle kRoute 1 3071)).setObj kRoute 3071 ⟨1, true, false, 1, [], false⟩

theorem witness_CueStaging_9 : (stAudio (insWord 64 15 0 0 0 268374015)).issues 159 (insWord 64 15 0 0 0 268374015) ∧ (stAudio (insWord 64 15 0 0 0 268374015)).badHandle (mkHandle kRoute 1 3071) = false ∧ after (.amap 159) (stAudio (insWord 64 15 0 0 0 268374015)) (fun t => (t.cue 159).stage = [⟨.route (mkHandle kRoute 1 3071) 0, [(0, 268374015)]⟩]) = true := by decide +kernel

theorem witness_CueStaging_10 : (stAudio (insWord 65 15 0 0 0 65535)).issues 159 (insWord 65 15 0 0 0 65535) ∧ (stAudio (insWord 65 15 0 0 0 65535)).badHandle (mkHandle kRoute 1 3071) = false ∧ after (.again 159) (stAudio (insWord 65 15 0 0 0 65535)) (fun t => (t.cue 159).stage = [⟨.route (mkHandle kRoute 1 3071) 1, [(0, 65535)]⟩]) = true := by decide +kernel

theorem witness_CueStaging_11 : (stAudio (insWord 66 15 0 0 0 131071)).issues 159 (insWord 66 15 0 0 0 131071) ∧ (stAudio (insWord 66 15 0 0 0 131071)).badHandle (mkHandle kRoute 1 3071) = false ∧ after (.adelay 159) (stAudio (insWord 66 15 0 0 0 131071)) (fun t => (t.cue 159).stage = [⟨.route (mkHandle kRoute 1 3071) 2, [(0, 131071)]⟩]) = true := by decide +kernel

theorem witness_CueStaging_12 : (stAudio (insWord 67 15 0 0 0 1)).issues 159 (insWord 67 15 0 0 0 1) ∧ (stAudio (insWord 67 15 0 0 0 1)).badHandle (mkHandle kRoute 1 3071) = false ∧ after (.amute 159) (stAudio (insWord 67 15 0 0 0 1)) (fun t => (t.cue 159).stage = [⟨.route (mkHandle kRoute 1 3071) 3, [(0, 1)]⟩]) = true := by decide +kernel

def stUset : State := (let s := (stThread (insWord 0x51 15 0 0 0x8F 1) (mkHandle kInput 1 95))
  s.setObj kInput 95 { s.obj kInput 95 with live := true, gen := 1, owner := 1 })

theorem witness_CueStaging_13 : stUset.issues 159 (insWord 0x51 15 0 0 0x8F 1) ∧ stUset.badHandle (mkHandle kInput 1 95) = false ∧ after (.uset 159) stUset (fun t => (t.cue 159).stage = [⟨.sync (mkHandle kInput 1 95) 15, [(0, 1)]⟩]) = true := by decide +kernel

def stStageFull : State := (stThread (insWord 0x30 0 0 5 95 1) 0).setCue 159 fun x => { x with stage := (upFrom 0 128).map (fun i => ⟨.uc i, []⟩) }

theorem witness_CueStaging_14 : stStageFull.issues 159 (insWord 0x30 0 0 5 95 1) ∧ ¬stStageFull.stageRoom 159 (.sel 95) ∧ after (.take 159) stStageFull (fun t => Faulted stStageFull t 159 .lenExceeds) = true := by decide +kernel

/-- Thread 159 of session 1 with the words staged; its session holds pipeline 95, and timeline 15 is at line 1 of frame 4. -/
def stCommit (w a : Nat) (l : List StageEnt) : State :=
  let s := (stThread w a).setObj kPipe 95 ⟨1, true, false, 1, [], false⟩
  let s := (s.wrk R.REF_TLN_FSN_FSN 15 0 4).wrk R.OUT_TMG_FMT_TLN 95 0 15
  { s.setCue 159 (fun x => { x with stage := l }) with engEvt := [(159, (4, 1))] }

theorem witness_CueCommits_1 : (stCommit (insWord 0x36 0 0 2 0 0) (0) [⟨.uc 95, [(0, 1)]⟩]).issues 159 (insWord 0x36 0 0 2 0 0) ∧ after (.commit 159) (stCommit (insWord 0x36 0 0 2 0 0) (0) [⟨.uc 95, [(0, 1)]⟩]) (fun t => (t.cue 159).stage = [] ∧ t.wentOn 159 1) = true := by decide +kernel

theorem witness_CueCommits_2 : (stCommit (insWord 0x36 0 0 1 0 0) (0) [⟨.uc 95, [(0, 1)]⟩]).issues 159 (insWord 0x36 0 0 1 0 0) ∧ (stCommit (insWord 0x36 0 0 1 0 0) (0) [⟨.uc 95, [(0, 1)]⟩]).nextTarget 159 = some 4 ∧ ((stCommit (insWord 0x36 0 0 1 0 0) (0) [⟨.uc 95, [(0, 1)]⟩]).commitTry 1 15 [⟨.uc 95, [(0, 1)]⟩]).2.1 = .ok ∧ after (.commit 159) (stCommit (insWord 0x36 0 0 1 0 0) (0) [⟨.uc 95, [(0, 1)]⟩]) (fun t => t.staged.map (fun x => (x.ent, x.tgt)) = [⟨.uc 95, [(0, 1)]⟩].map (fun e => (e, 4)) ∧ t.rd R.CUE_CNT_COMMIT_COUNT 159 = 1 ∧ t.wentOn 159 1) = true := by decide +kernel

theorem witness_CueCommits_3 : (stCommit (insWord 0x36 0 0 1 0 0) 0 [⟨.uc 94, [(0, 1)]⟩]).issues 159 (insWord 0x36 0 0 1 0 0) ∧ ((stCommit (insWord 0x36 0 0 1 0 0) 0 [⟨.uc 94, [(0, 1)]⟩]).commitTry 1 15 [⟨.uc 94, [(0, 1)]⟩]).2.1 ≠ .ok ∧ after (.commit 159) (stCommit (insWord 0x36 0 0 1 0 0) 0 [⟨.uc 94, [(0, 1)]⟩]) (fun t => t.cueState 159 = cFAULTED ∧ t.staged = []) = true := by decide +kernel

theorem witness_CueCommits_4 : (stCommit (insWord 0x36 0 15 0 0 0) (5) [⟨.uc 95, [(0, 1)]⟩]).issues 159 (insWord 0x36 0 15 0 0 0) ∧ (stCommit (insWord 0x36 0 15 0 0 0) (5) [⟨.uc 95, [(0, 1)]⟩]).cueG 159 15 = 5 ∧ after (.commit 159) (stCommit (insWord 0x36 0 15 0 0 0) (5) [⟨.uc 95, [(0, 1)]⟩]) (fun t => t.cueState 159 = cWAITING ∧ t.on R.CUE_STAT_CPEND 159 ∧ (t.cue 159).wait = .target 5) = true := by decide +kernel

theorem witness_CueCommits_5 : (stCommit (insWord 0x36 0 15 0 0 0) (3) [⟨.uc 95, [(0, 1)]⟩]).issues 159 (insWord 0x36 0 15 0 0 0) ∧ after (.commit 159) (stCommit (insWord 0x36 0 15 0 0 0) (3) [⟨.uc 95, [(0, 1)]⟩]) (fun t => t.rd R.CUE_S_S 159 = 13 ∧ t.rd R.CUE_CNT_LATE_COUNT 159 = 1 ∧ t.wentOn 159 1) = true := by decide +kernel

/-- Thread 159 waits in a COMMIT for FSN `tgt`; N is 4. -/
def stTarget (tgt : Nat) : State :=
  ((stCommit (insWord 0x36 0 15 0 0 0) tgt []).setCue 159 fun x => { x with wait := .target tgt }).wrk R.CUE_STAT_STATE 159 0 cWAITING

theorem witness_CueCommits_6 : (stTarget 5).cueState 159 = cWAITING ∧ (stTarget 5).nextTarget 159 = some 4 ∧ after (.commitTargetReached 159) (stTarget 5) (fun t => t = stTarget 5) = true := by decide +kernel

theorem witness_CueCommits_7 : (stTarget 4).cueState 159 = cWAITING ∧ (stTarget 4).nextTarget 159 = some 4 ∧ (stTarget 4).cueG 159 15 = 4 ∧ ((stTarget 4).commitTry 1 15 []).2.1 = .ok ∧ after (.commitTargetReached 159) (stTarget 4) (fun t => t.wentOn 159 1 ∧ t.rd R.CUE_LAST_TGT_FSN 159 = 4) = true := by decide +kernel

def stRecW : State := ((stTarget 5).setCue 159 fun x => { x with wait := .record 0 })

theorem witness_CueCommits_8 : stRecW.recCame 159 = false ∧ stRecW.cueState 159 = cWAITING ∧ stRecW.now < 1000000 ∧ after (.commitTargetReached 159) stRecW (fun t => t = stRecW) = true := by decide +kernel

def stCloneI : State := ((stCommit (insWord 0x35 0 0 0 95 30) 0 []).setObj kClone 95 ⟨1, true, false, 1, [], false⟩).wrk R.CUE_PARAM_VALUE 159 30 0x81

theorem witness_CueCommits_9 : stCloneI.issues 159 (insWord 0x35 0 0 0 95 30) ∧ check (stCloneI.cloneChecks 95 (leBytes 4 0x81 ++ leBytes 3 0)) = .ok ∧ after (.clone 159) stCloneI (fun t => t.rd R.PLZ_CLONE_A_MEMBERS 95 = 0x81 ∧ t.wentOn 159 1) = true := by decide +kernel

/-- Thread 159 with pipeline 95 of its session, of 720p60 on timeline 15, as its operand. -/
def stUnit (w lc : Nat) : State :=
  (((stCommit w 0 []).wrk R.OUT_TMG_FMT_FMT 95 0 0x12).wrk R.OUT_ANC_CFG_TC_LINE 95 0 10).wrk R.OUT_STAT_LC_STATE 95 0 lc

theorem witness_CueCommits_10 : (stUnit (insWord 0x50 0 0 0 0 (mkHandle kPipe 1 95)) lcRUNNING).issues 159 (insWord 0x50 0 0 0 0 (mkHandle kPipe 1 95)) ∧ (stUnit (insWord 0x50 0 0 0 0 (mkHandle kPipe 1 95)) lcRUNNING).badHandle (mkHandle kPipe 1 95) = false ∧ check ((stUnit (insWord 0x50 0 0 0 0 (mkHandle kPipe 1 95)) lcRUNNING).accessChecks pPF (outAddr 95 0) true) = .ok ∧ (stUnit (insWord 0x50 0 0 0 0 (mkHandle kPipe 1 95)) lcRUNNING).holds pPF kPipe 95 = true ∧ after (.uhalt 159) (stUnit (insWord 0x50 0 0 0 0 (mkHandle kPipe 1 95)) lcRUNNING) (fun t => t.rd R.OUT_STAT_LC_STATE 95 = lcSTOPPING ∧ t.wentOn 159 1) = true := by decide +kernel

theorem witness_CueCommits_11 : (stUnit (insWord 0x52 0 0 0 0 (mkHandle kPipe 1 95)) lcSTOPPED).issues 159 (insWord 0x52 0 0 0 0 (mkHandle kPipe 1 95)) ∧ check ((stUnit (insWord 0x52 0 0 0 0 (mkHandle kPipe 1 95)) lcSTOPPED).outStartChecks pPF 95) = .ok ∧ after (.urun 159) (stUnit (insWord 0x52 0 0 0 0 (mkHandle kPipe 1 95)) lcSTOPPED) (fun t => t.rd R.OUT_STAT_LC_STATE 95 = lcARMED ∧ t.wentOn 159 1) = true := by decide +kernel

theorem witness_CueCommits_12 : (stUnit (insWord 0x52 0 0 64 0 (mkHandle kPipe 1 95)) lcRUNNING).issues 159 (insWord 0x52 0 0 64 0 (mkHandle kPipe 1 95)) ∧ check ((stUnit (insWord 0x52 0 0 64 0 (mkHandle kPipe 1 95)) lcRUNNING).outStartChecks pPF 95) = .unitRunning ∧ after (.urun 159) (stUnit (insWord 0x52 0 0 64 0 (mkHandle kPipe 1 95)) lcRUNNING) (fun t => t.rd R.CUE_S_S 159 = 5 ∧ t.wentOn 159 1) = true := by decide +kernel

/-- Candidate 6 in a state, its signal valid where `v`, last measured at `f` ppt. -/
def stCand (st : Nat) (v : Bool) (f : Nat) : State :=
  { mk mRUN [(R.REF_CAND_STAT_STATE, 6, st), (R.REF_CAND_FREQ_PPT, 6, f), (R.REF_CAND_CFG_ENABLE, 6, 1)] with candX := [(6, ⟨v, none, 0⟩)] }
/-- The INLINE of a CAND_CONFIG: ENABLE, PRIO 15, QL 7, BW 4, WTR_S 3,600, no SRC, PHASE_OFS −1 ns. -/
def candInl (fl : Nat) : List Nat := [fl, 15, 7, 4, 0x10, 0x0E, 0, 0, 0xFF, 0xFF, 0xFF, 0xFF] ++ List.replicate 20 0
/-- Session 1 holds candidate 6, and a CAND_CONFIG of it is taken. -/
def stCandCfg (fl : Nat) : State :=
  let s := (withSession (stCand caQUALIFIED true 5)).setObj kCand 6 ⟨1, true, false, 1, [], false⟩
  took s 0x70 0 (mkHandle kCand 1 6) (candInl fl)

theorem witness_CandidateStates_1 : (stCandCfg 0).taking 0 0x70 (cmdOf (stCandCfg 0)) ∧ (cmdOf (stCandCfg 0)).plain ∧ (stCandCfg 0).modeOk ∧ (stCandCfg 0).sessOk 0 (cmdOf (stCandCfg 0)) ∧ check ((stCandCfg 0).candChecks (cmdOf (stCandCfg 0)).ss (cmdOf (stCandCfg 0)).object (cmdOf (stCandCfg 0)).inl) = .ok ∧ hIdx (cmdOf (stCandCfg 0)).object = 6 ∧ after (.candConfig 0 []) (stCandCfg 0) (fun t => Completed t 0 (cmdOf (stCandCfg 0)) .ok 0 0 ∧ t.candState 6 = caDISABLED ∧ t.rd R.REF_CAND_CFG_WTR_S 6 = 3600 ∧ t.rd R.REF_CAND_CFG_PRIO 6 = 15 ∧ t.rd R.REF_CAND_OFS_PHASE_OFS 6 = 2 ^ 32 - 1) = true := by decide +kernel

theorem witness_CandidateStates_2 : (stCandCfg 1).taking 0 0x70 (cmdOf (stCandCfg 1)) ∧ (cmdOf (stCandCfg 1)).plain ∧ (stCandCfg 1).modeOk ∧ (stCandCfg 1).sessOk 0 (cmdOf (stCandCfg 1)) ∧ check ((stCandCfg 1).candChecks (cmdOf (stCandCfg 1)).ss (cmdOf (stCandCfg 1)).object (cmdOf (stCandCfg 1)).inl) = .ok ∧ hIdx (cmdOf (stCandCfg 1)).object = 6 ∧ after (.candConfig 0 []) (stCandCfg 1) (fun t => Completed t 0 (cmdOf (stCandCfg 1)) .ok 0 0 ∧ t.candState 6 = caQUALIFIED ∧ t.rd R.REF_CAND_CFG_WTR_S 6 = 3600 ∧ t.rd R.REF_CAND_CFG_PRIO 6 = 15 ∧ t.rd R.REF_CAND_OFS_PHASE_OFS 6 = 2 ^ 32 - 1) = true := by decide +kernel

theorem witness_CandidateStates_3 : (stCand caLOST false 0).refActive = true ∧ (stCand caLOST false 0).candPresent 6 = true ∧ (stCand caLOST false 0).candCond 6 true = true ∧ after (.candSignalChange 6 true 5) (stCand caLOST false 0) (fun t => t.candState 6 = caWAIT ∧ t.rd R.REF_CAND_STAT_WTR_LEFT 6 = (stCand caLOST false 0).rd R.REF_CAND_CFG_WTR_S 6 ∧ (t.cand 6).valid ∧ t.refSel = none) = true := by decide +kernel

theorem witness_CandidateStates_4 : (stCand caDEGRADED true 7).candCond 6 false = false ∧ after (.candSignalChange 6 false 5) (stCand caDEGRADED true 7) (fun t => t.candState 6 = caLOST ∧ t.rd R.REF_CAND_FREQ_PPT 6 = 0x80000000 ∧ t.rd R.REF_CAND_PHASE_NS 6 = 0x80000000) = true := by decide +kernel

theorem witness_CandidateStates_5 : (stCand caLOST false 0).candPresent 9 = false ∧ after (.candSignalChange 9 true 5) (stCand caLOST false 0) (fun t => t = stCand caLOST false 0) = true := by decide +kernel

theorem witness_CandidateStates_6 : (stCand caQUALIFIED true 7).softPpt = 1000000 ∧ (stCand caQUALIFIED true 7).candValid 6 = true ∧ after (.freqMeasurement [(6, -1000001, 9)]) (stCand caQUALIFIED true 7) (fun t => t.candState 6 = caDEGRADED ∧ t.rd R.REF_CAND_FREQ_PPT 6 = 2 ^ 32 - 1000001 ∧ t.rd R.REF_CAND_STAT_EFF_QL 6 = 1 + (stCand caQUALIFIED true 7).rd R.REF_CAND_CFG_QL 6 ∧ t.refSel = some 6) = true := by decide +kernel

/-- Candidate 6 is selected and the DPLL locked to it. -/
def stLocked : State :=
  ((((stCand caQUALIFIED true 7).wrk R.REF_STAT_SEL_VALID 0 0 1).wrk R.REF_STAT_SEL 0 0 6).wrk R.REF_STAT_DPLL 0 0 dpLOCKED).wrk R.REF_STAT_EPOCH_RUN 0 0 1

theorem witness_CandidateStates_7 : stLocked.refSel = some 6 ∧ stLocked.dpll = dpLOCKED ∧ stLocked.softPpt = 1000000 ∧ after (.freqMeasurement [(6, 500000, 9)]) { stLocked with refX := { stLocked.refX with steer := 20000000 } } (fun t => t.rd R.REF_GOOD_GOOD_S 0 = 1 ∧ t.rd R.REF_GOOD_MARK_AGE 0 = 0 ∧ t.refX.good = [12000000] ∧ t.rd R.REF_STAT_HO_VALID 0 = 0 ∧ t.dpll = dpLOCKED) = true := by decide +kernel

theorem witness_CandidateStates_8 : (stCand caWAIT true 5).candWaited 6 = true ∧ (stCand caWAIT true 5).candValid 6 = true ∧ (stCand caWAIT true 5).rd R.REF_CFG_DPLL_MODE 0 = 0 ∧ (stCand caWAIT true 5).dpll = dpFREERUN ∧ after (.freqMeasurement [(6, 5, 9)]) (stCand caWAIT true 5) (fun t => t.candState 6 = caQUALIFIED ∧ t.refSel = some 6 ∧ t.dpll = dpACQUIRE ∧ t.epochRuns) = true := by decide +kernel

def stWtr : State := ((stCand caWAIT true 0x80000000).wr R.REF_CAND_STAT_WTR_LEFT 6 3)

theorem witness_CandidateStates_9 : stWtr.candWaited 6 = false ∧ stWtr.candValid 6 = true ∧ (stWtr.hardPpt : Int) < stWtr.hardPpt + 1 ∧ after (.freqMeasurement [(6, stWtr.hardPpt + 1, 9)]) stWtr (fun t => t.candState 6 = caDISQUALIFIED ∧ t.refSel = none) = true := by decide +kernel

theorem witness_CandidateStates_10 : stWtr.refActive = true ∧ stWtr.candValid 6 = true ∧ after (.wtrExpiry 6) stWtr (fun t => t.candState 6 = caWAIT ∧ t.rd R.REF_CAND_STAT_WTR_LEFT 6 = 0) = true := by decide +kernel

theorem witness_CandidateStates_11 : (stCand caQUALIFIED false 7).candValid 6 = false ∧ after (.freqMeasurement [(6, 5, 9)]) (stCand caQUALIFIED false 7) (fun t => t.candState 6 = caLOST ∧ t.rd R.REF_CAND_FREQ_PPT 6 = 0x80000000) = true := by decide +kernel

theorem witness_CandidateStates_12 : (stCand caLOST false 0).candValid 6 = false ∧ after (.wtrExpiry 6) (stCand caLOST false 0) (fun t => t = stCand caLOST false 0) = true := by decide +kernel

theorem witness_ReferenceLoop_1 : (stLocked.wrk R.REF_STAT_DPLL 0 0 dpACQUIRE).refSel = some 6 ∧ after (.dpllLockQualify) (stLocked.wrk R.REF_STAT_DPLL 0 0 dpACQUIRE) (fun t => t.dpll = dpLOCKED ∧ t.refX.bw = stLocked.rd R.REF_CAND_CFG_BW 6 ∧ t.rd R.REF_STAT_OUT_QL 0 = stLocked.effQl 6) = true := by decide +kernel

theorem witness_ReferenceLoop_2 : stLocked.dpll ≠ dpACQUIRE ∧ after (.dpllLockQualify) stLocked (fun t => t = stLocked) = true := by decide +kernel

theorem witness_ReferenceLoop_3 : stLocked.refActive = true ∧ stLocked.rd R.REF_CFG_DPLL_MODE 0 ≠ 1 ∧ after (.pullInClamp) stLocked (fun t => t.candState 6 = caDISQUALIFIED ∧ t.refSel = none ∧ t.dpll = dpHOLDOVER) = true := by decide +kernel

theorem witness_ReferenceLoop_4 : check (stLocked.accessChecks pPF 0x50000 true) = .ok ∧ refWriter pPF = true ∧ after (.refCfgWrite pPF (2 ^ 30 + 6 * 2 ^ 26)) stLocked (fun t => t.resp = ⟨0, 0⟩ ∧ t.refSel = some 6 ∧ t.rd R.REF_CFG_FORCE_CAND 0 = 6) = true := by decide +kernel

theorem witness_ReferenceLoop_5 : check (stLocked.accessChecks pPF 0x50000 true) = .ok ∧ refWriter pPF = true ∧ stLocked.eligible 15 = false ∧ after (.refCfgWrite pPF (2 ^ 30 + 15 * 2 ^ 26)) stLocked (fun t => t.refSel = none ∧ t.dpll = dpHOLDOVER) = true := by decide +kernel

theorem witness_ReferenceLoop_6 : check (stLocked.accessChecks pPF 0x50000 true) = .ok ∧ refWriter pPF = true ∧ after (.refCfgWrite pPF (2 ^ 24)) { stLocked with refX := { stLocked.refX with man := -200000000 } } (fun t => t.dpll = dpMANUAL ∧ t.refX.steer = -200000000) = true := by decide +kernel

def stManual : State := (stLocked.wrk R.REF_STAT_DPLL 0 0 dpMANUAL).wrk R.REF_MAN_LO_S 0 0 (2 ^ 32 - 200000000)

theorem witness_ReferenceLoop_7 : check (stManual.accessChecks pPF 0x50020 true) = .ok ∧ after (.manHiWrite pPF 0xFF) stManual (fun t => t.resp = ⟨0, 0⟩ ∧ t.refX.man = -200000000 ∧ t.refX.steer = -200000000) = true := by decide +kernel

theorem witness_ReferenceLoop_8 : check (stManual.accessChecks pPF 0x50020 true) = .ok ∧ after (.manHiWrite pPF 0) stManual (fun t => t.resp = ⟨0xB, 0⟩ ∧ t.refX.man = 0) = true := by decide +kernel

def stFr : State := let s := mk mRUN [(R.REF_CFG_FR_START, 0, 255), (R.REF_TLN_STAT_STATE, 15, 1), (R.REF_TLN_CFG_FMT, 15, 0x12)]; { s with refX := { s.refX with idleAt := some 7 } }

theorem witness_ReferenceLoop_9 : stFr.refX.idleAt = some 7 ∧ stFr.refSel = none ∧ stFr.epochRuns = false ∧ after (.frStartExpiry) stFr (fun t => t.epochRuns ∧ t.epoch = 0 ∧ t.now = 255000000007 ∧ t.rd R.REF_TLN_STAT_STATE 15 = 2) = true := by decide +kernel

theorem witness_ReferenceLoop_10 : check (stLocked.accessChecks 0x20 0x50000 true) = .ok ∧ refWriter 0x20 = false ∧ after (.refCfgWrite 0x20 0) stLocked (fun t => t.resp = ⟨8, 0⟩) = true := by decide +kernel

/-- Timeline 15 of 720p60 runs, at phase 0 and T `ph`, held by the firmware session; `lc` is the state of pipeline 95, which is bound to it. -/
def stTln (ph lc : Nat) : State :=
  { mk mRUN [(R.REF_TLN_CFG_FMT, 15, 0x12), (R.REF_TLN_STAT_STATE, 15, 2), (R.REF_TLN_PHASE_NS, 15, ph), (R.REF_STAT_EPOCH_RUN, 0, 1),
      (R.OUT_TMG_FMT_TLN, 95, 15), (R.OUT_STAT_LC_STATE, 95, lc)] with epoch := 16666666, tln := [(15, ⟨0, 7, 0, 0, true, 5, none⟩)] }

theorem witness_TimelineControl_1 : check ((stTln 0 0).accessChecks 2 (tlnAddr 15 0) true) = .ok ∧ (stTln 0 0).holds 2 kTimeline 15 = true ∧ (stTln 0 0).tlnStopped 15 = true ∧ (formatOf 0x11).isSome ∧ after (.tlnCfgWrite 2 15 (64 * 2 ^ 16 + 0x11)) (stTln 0 0) (fun t => t.resp = ⟨0, 0⟩ ∧ t.rd R.REF_TLN_CFG_KERB 15 = 64 ∧ t.rd R.REF_TLN_STAT_STATE 15 = 2 ∧ (t.tlnX 15).starting ∧ (t.tlnX 15).n = 1) = true := by decide +kernel

theorem witness_TimelineControl_2 : check ((stTln 0 0).accessChecks 2 (tlnAddr 15 0) true) = .ok ∧ (stTln 0 0).holds 2 kTimeline 15 = true ∧ after (.tlnCfgWrite 2 15 (4 * 2 ^ 16)) (stTln 0 0) (fun t => t.rd R.REF_TLN_STAT_STATE 15 = 0 ∧ t.rd R.REF_TLN_CFG_FMT 15 = 0) = true := by decide +kernel

theorem witness_TimelineControl_3 : check (State.reset.accessChecks 2 (tlnAddr 15 0) true) = .ok ∧ State.reset.holds 2 kTimeline 15 = true ∨ true ∧ after (.tlnCfgWrite 2 15 (4 * 2 ^ 16 + 0x12)) (mk mRUN []) (fun t => t.rd R.REF_TLN_STAT_STATE 15 = 1) = true := by decide +kernel

theorem witness_TimelineControl_4 : check ((stTln 0 lcRUNNING).accessChecks 2 (tlnAddr 15 0) true) = .ok ∧ (stTln 0 lcRUNNING).holds 2 kTimeline 15 = true ∧ (stTln 0 lcRUNNING).tlnStopped 15 = false ∧ after (.tlnCfgWrite 2 15 (5 * 2 ^ 16 + 0x12)) (stTln 0 lcRUNNING) (fun t => t.resp = ⟨5, 0⟩) = true := by decide +kernel

theorem witness_TimelineControl_5 : check ((stTln 0 0).accessChecks 2 (tlnAddr 15 0) true) = .ok ∧ (stTln 0 0).holds 2 kTimeline 15 = true ∧ after (.tlnCfgWrite 2 15 (65 * 2 ^ 16)) (stTln 0 0) (fun t => t.resp = ⟨0xB, 0⟩) = true := by decide +kernel

theorem witness_TimelineControl_6 : check ((mk mRUN []).accessChecks pPF (tlnAddr 15 4) true) = .ok ∧ (mk mRUN []).holds pPF kTimeline 15 = false ∧ after (.tlnPhaseWrite pPF 15 0) (mk mRUN []) (fun t => t.resp = ⟨8, 0⟩) = true := by decide +kernel

theorem witness_TimelineControl_7 : (stTln 0 0).tlnRuns 15 = true ∧ after (.timelineAlignStart 15) (stTln 0 0) (fun t => t.fsn 15 = 12 ∧ (t.tlnX 15).starting = false ∧ t.epoch = 116666666) = true := by decide +kernel

theorem witness_TimelineControl_8 : (mk mRUN []).tlnRuns 15 = false ∧ after (.timelineAlignStart 15) (mk mRUN []) (fun t => t = mk mRUN []) = true := by decide +kernel

theorem witness_TimelineControl_9 : check ((stTln 5 lcRUNNING).accessChecks 2 (tlnAddr 15 4) true) = .ok ∧ (stTln 5 lcRUNNING).holds 2 kTimeline 15 = true ∧ (stTln 5 lcRUNNING).tlnBusy 15 = true ∧ after (.tlnPhaseWrite 2 15 16666665) (stTln 5 lcRUNNING) (fun t => t.rd R.REF_TLN_PHASE_NS 15 = 16666665 ∧ t.tlnErr 15 ≠ 0 ∧ t.on R.REF_TLN_STAT_SLEWING 15 ∧ bitAt (t.rd R.REF_TLN_EVT_FLAGS 15) 0) = true := by decide +kernel

theorem witness_TimelineControl_10 : check ((stTln 5 lcRUNNING).accessChecks 2 (tlnAddr 15 4) true) = .ok ∧ (stTln 5 lcRUNNING).holds 2 kTimeline 15 = true ∧ after (.tlnPhaseWrite 2 15 16666666) (stTln 5 lcRUNNING) (fun t => t.resp = ⟨0xB, 0⟩) = true := by decide +kernel

theorem witness_TimelineControl_11 : (stTln 5 lcRUNNING).tlnErr 15 = 5 ∧ (stTln 5 lcRUNNING).rd R.REF_TLN_SLEW_SLEW_PPM 15 = 5 ∧ after (.slewStep 15) (stTln 5 lcRUNNING) (fun t => (t.tlnX 15).phase = 5 ∧ t.tlnErr 15 = 0 ∧ t.on R.REF_TLN_STAT_SLEWING 15 = false) = true := by decide +kernel

theorem witness_TimelineControl_12 : (mk mRUN []).tlnRuns 15 = false ∧ after (.slewStep 15) (mk mRUN []) (fun t => t = mk mRUN []) = true := by decide +kernel

theorem witness_TimelineControl_13 : check ((stTln 5 lcRUNNING).accessChecks 2 (tlnAddr 15 8) true) = .ok ∧ (stTln 5 lcRUNNING).holds 2 kTimeline 15 = true ∧ (stTln 5 lcRUNNING).tlnErr 15 ≠ 0 ∧ after (.tlnCut 2 15 200) (stTln 5 lcRUNNING) (fun t => t.on R.REF_TLN_STAT_CUT_PEND 15 ∧ t.rd R.REF_TLN_SLEW_SLEW_PPM 15 = 200) = true := by decide +kernel

theorem witness_TimelineControl_14 : check ((stTln 5 lcRUNNING).accessChecks 2 (tlnAddr 15 8) true) = .ok ∧ (stTln 5 lcRUNNING).holds 2 kTimeline 15 = true ∧ after (.tlnCut 2 15 201) (stTln 5 lcRUNNING) (fun t => t.resp = ⟨0xB, 0⟩) = true := by decide +kernel

/-- The PTP port is on, in domain 127 and VLAN 5, in a port state, with its choice and times; the timing lane is enabled and its receiver locked. -/
def stPtp (port : Nat) (x : PtpX) : State :=
  { mk mRUN [(R.REF_PTP_CFG_ENABLE, 0, 1), (R.REF_PTP_CFG_VLAN_EN, 0, 1), (R.REF_PTP_CFG_VLAN_ID, 0, 5), (R.REF_PTP_STAT_PORT, 0, port), (R.REF_CAND_CFG_ENABLE, 7, 1),
      (R.REF_CAND_STAT_STATE, 7, caLOST), (R.REF_PTP_IP_ADDR, 0, 0x0A000001), (R.LNE_CTL_ENABLE, 104, 1), (R.LNE_STATUS_RX_STATE, 104, rxLOCKED)]
    with ptpX := x, epoch := 1000 }
/-- A PTP message of master 9 in domain 127 and VLAN 5, of sequence number 11, for the port of no MAC address. -/
def ptpMsg (kind stamp rx : Nat) (two : Bool) : PtpMsg :=
  ⟨kind, true, 127, 0, 9, [128, 6, 0x21, 0, 128, 77], 1, two, stamp, rx, none, 11, 0xFFFE * 2 ^ 40 + 1, some 5⟩

theorem witness_PtpPort_1 : (mk mRUN []).ptpHears none = false ∧ (mk mRUN []).txState 104 ≠ 2 ∧ after (.ptpMessageReceived { ptpMsg 2 0 0 false with vlan := none }) (mk mRUN []) (fun t => t = mk mRUN []) = true := by decide +kernel

theorem witness_PtpPort_2 : (stPtp ptLISTENING ⟨[], none, none, none, none, 0, none, 0⟩).ptpHears (some 5) = true ∧ (stPtp ptLISTENING ⟨[], none, none, none, none, 0, none, 0⟩).ptpBad { ptpMsg 2 0 0 false with domain := 1 } = true ∧ after (.ptpMessageReceived { ptpMsg 2 0 0 false with domain := 1 }) (stPtp ptLISTENING ⟨[], none, none, none, none, 0, none, 0⟩) (fun t => t.rd R.REF_PTP_CNT_BAD_COUNT 0 = 1 ∧ t.ptpX.chosen = none) = true := by decide +kernel

theorem witness_PtpPort_3 : (stPtp ptLISTENING ⟨[], none, none, none, none, 0, none, 0⟩).ptpHears (some 4) = false ∧ after (.ptpMessageReceived { ptpMsg 2 0 0 false with vlan := some 4 }) (stPtp ptLISTENING ⟨[], none, none, none, none, 0, none, 0⟩) (fun t => t = (stPtp ptLISTENING ⟨[], none, none, none, none, 0, none, 0⟩)) = true := by decide +kernel

theorem witness_PtpPort_4 : (stPtp ptLISTENING ⟨[], none, none, none, none, 0, none, 0⟩).ptpBad (ptpMsg 2 0 0 false) = false ∧ after (.ptpMessageReceived (ptpMsg 2 0 0 false)) (stPtp ptLISTENING ⟨[], none, none, none, none, 0, none, 0⟩) (fun t => t.ptpX.chosen = some 9 ∧ t.rd R.REF_PTP_STAT_PORT 0 = ptUNCALIBRATED ∧ t.rd R.REF_PTP_STAT_GM_CLASS 0 = 6 ∧ t.rd R.REF_CAND_STAT_MSG_QL 7 = 0) = true := by decide +kernel

theorem witness_PtpPort_5 : (stPtp ptUNCALIBRATED ⟨[], some 9, some (11, 600), some (100, 600), some (11, 700), 0, none, 65535⟩).ptpBad (ptpMsg 0 100 90 false) = false ∧ after (.ptpMessageReceived (ptpMsg 0 100 90 false)) (stPtp ptUNCALIBRATED ⟨[], some 9, some (11, 600), some (100, 600), some (11, 700), 0, none, 65535⟩) (fun t => t.rd R.REF_PTP_STAT_PORT 0 = ptSLAVE ∧ t.rd R.REF_PTP_OFS_NS 0 = 2 ^ 32 - 10 ∧ t.candState 7 = caWAIT ∧ (t.cand 7).mark = some (1010, t.now)) = true := by decide +kernel

theorem witness_PtpPort_6 : (stPtp ptUNCALIBRATED ⟨[], some 9, some (11, 600), some (100, 600), some (11, 700), 0, none, 65535⟩).ptpBad (ptpMsg 0 100 90 true) = false ∧ after (.ptpMessageReceived (ptpMsg 0 100 90 true)) (stPtp ptUNCALIBRATED ⟨[], some 9, some (11, 600), some (100, 600), some (11, 700), 0, none, 65535⟩) (fun t => t.ptpX.half = some (11, 90)) = true := by decide +kernel

theorem witness_PtpPort_7 : (stPtp ptUNCALIBRATED ⟨[], some 9, some (11, 600), some (100, 600), some (11, 700), 0, none, 65535⟩).ptpBad (ptpMsg 1 100 90 true) = false ∧ after (.ptpMessageReceived (ptpMsg 1 100 90 true)) (stPtp ptUNCALIBRATED ⟨[], some 9, some (11, 600), some (100, 600), some (11, 700), 0, none, 65535⟩) (fun t => t.rd R.REF_PTP_OFS_NS 0 = 500 ∧ t.ptpX.half = none) = true := by decide +kernel

theorem witness_PtpPort_8 : (stPtp ptUNCALIBRATED ⟨[], some 9, some (11, 600), some (100, 600), some (11, 700), 0, none, 65535⟩).ptpX.half = some (11, 600) ∧ after (.ptpMessageReceived { ptpMsg 1 100 90 true with seq := 12 }) (stPtp ptUNCALIBRATED ⟨[], some 9, some (11, 600), some (100, 600), some (11, 700), 0, none, 65535⟩) (fun t => t = (stPtp ptUNCALIBRATED ⟨[], some 9, some (11, 600), some (100, 600), some (11, 700), 0, none, 65535⟩)) = true := by decide +kernel

theorem witness_PtpPort_9 : (stPtp ptUNCALIBRATED ⟨[], some 9, some (11, 600), some (100, 600), some (11, 700), 0, none, 65535⟩).ptpBad (ptpMsg 3 1000 0 true) = false ∧ (ptpMsg 3 1000 0 true).req = (stPtp ptUNCALIBRATED ⟨[], some 9, some (11, 600), some (100, 600), some (11, 700), 0, none, 65535⟩).ptpId ∧ after (.ptpMessageReceived (ptpMsg 3 1000 0 true)) (stPtp ptUNCALIBRATED ⟨[], some 9, some (11, 600), some (100, 600), some (11, 700), 0, none, 65535⟩) (fun t => t.rd R.REF_PTP_MPD_NS 0 = 400 ∧ t.ptpX.reqT3 = none) = true := by decide +kernel

theorem witness_PtpPort_10 : 5 ≠ (stPtp ptUNCALIBRATED ⟨[], some 9, some (11, 600), some (100, 600), some (11, 700), 0, none, 65535⟩).ptpId ∧ after (.ptpMessageReceived { ptpMsg 3 1000 0 true with req := 5 }) (stPtp ptUNCALIBRATED ⟨[], some 9, some (11, 600), some (100, 600), some (11, 700), 0, none, 65535⟩) (fun t => t = (stPtp ptUNCALIBRATED ⟨[], some 9, some (11, 600), some (100, 600), some (11, 700), 0, none, 65535⟩)) = true := by decide +kernel

theorem witness_PtpPort_11 : (stPtp ptUNCALIBRATED ⟨[], some 9, some (11, 600), some (100, 600), some (11, 700), 0, none, 65535⟩).ptpX.chosen ≠ some 8 ∧ after (.ptpMessageReceived { ptpMsg 0 100 90 false with src := 8 }) (stPtp ptUNCALIBRATED ⟨[], some 9, some (11, 600), some (100, 600), some (11, 700), 0, none, 65535⟩) (fun t => t = (stPtp ptUNCALIBRATED ⟨[], some 9, some (11, 600), some (100, 600), some (11, 700), 0, none, 65535⟩)) = true := by decide +kernel

theorem witness_PtpPort_12 : (stPtp ptUNCALIBRATED ⟨[], some 9, some (11, 600), some (100, 600), some (11, 700), 0, none, 65535⟩).ptpX.pair.isSome ∧ (stPtp ptUNCALIBRATED ⟨[], some 9, some (11, 600), some (100, 600), some (11, 700), 0, none, 65535⟩).ptpOn = true ∧ (stPtp ptUNCALIBRATED ⟨[], some 9, some (11, 600), some (100, 600), some (11, 700), 0, none, 65535⟩).txState 104 = 1 ∧ after (.ptpDelayReqSend 33) (stPtp ptUNCALIBRATED ⟨[], some 9, some (11, 600), some (100, 600), some (11, 700), 0, none, 65535⟩) (fun t => t.ptpX.reqT3 = some (65535, 33) ∧ t.ptpX.reqSeq = 0 ∧ t.outs = [.ptp 1 [0, 33, 65535, 5]]) = true := by decide +kernel

theorem witness_PtpPort_13 : ((stPtp ptSLAVE ⟨[], some 9, some (11, 600), some (100, 600), some (11, 700), 0, none, 65535⟩).wrk R.REF_CAND_STAT_STATE 7 0 caQUALIFIED).refActive = true ∧ after (.ptpTimeout) ((stPtp ptSLAVE ⟨[], some 9, some (11, 600), some (100, 600), some (11, 700), 0, none, 65535⟩).wrk R.REF_CAND_STAT_STATE 7 0 caQUALIFIED) (fun t => t.rd R.REF_PTP_STAT_PORT 0 = ptLISTENING ∧ t.candState 7 = caLOST ∧ t.ptpX.chosen = none) = true := by decide +kernel

theorem witness_PtpPort_14 : (mk mRUN []).rd R.REF_PTP_STAT_PORT 0 < ptUNCALIBRATED ∧ after (.ptpTimeout) (mk mRUN []) (fun t => t = mk mRUN []) = true := by decide +kernel

theorem witness_PtpPort_15 : (stPtp ptSLAVE ⟨[], some 9, some (11, 600), some (100, 600), some (11, 700), 0, none, 65535⟩).ptpHears (some 5) = true ∧ (stPtp ptSLAVE ⟨[], some 9, some (11, 600), some (100, 600), some (11, 700), 0, none, 65535⟩).txState 104 = 1 ∧ after (.arpOrIgmpReceived 1 0x0A000001 (some 5)) (stPtp ptSLAVE ⟨[], some 9, some (11, 600), some (100, 600), some (11, 700), 0, none, 65535⟩) (fun t => t.outs = [.ptp 3 [0x0A000001, 0xE0000181, 5]]) = true := by decide +kernel

theorem witness_PtpPort_16 : (stPtp ptSLAVE ⟨[], some 9, some (11, 600), some (100, 600), some (11, 700), 0, none, 65535⟩).ptpHears (some 5) = true ∧ after (.arpOrIgmpReceived 2 0x0A000001 (some 5)) (stPtp ptSLAVE ⟨[], some 9, some (11, 600), some (100, 600), some (11, 700), 0, none, 65535⟩) (fun t => t.outs = [.ptp 5 [0x0A000001, 0xE0000181, 5]]) = true := by decide +kernel

theorem witness_PtpPort_17 : (stPtp ptSLAVE ⟨[], some 9, some (11, 600), some (100, 600), some (11, 700), 0, none, 65535⟩).ptpHears (some 5) = true ∧ after (.arpOrIgmpReceived 0 0x0A000001 (some 5)) (stPtp ptSLAVE ⟨[], some 9, some (11, 600), some (100, 600), some (11, 700), 0, none, 65535⟩) (fun t => t.outs = [.ptp 2 [0x0A000001, 0, 0, 5]]) = true := by decide +kernel

def stMbx : State := mk mRUN [(R.MBX_TX_TAG_TAG, 1, 77), (R.MBX_TX_LEN_LEN_HINT, 1, 9), (R.MBX_TX_PTR_HI_PTR, 1, 2), (R.MBX_MB_CFG_ARM, 11, 1), (R.MBX_MB_CFG_VECTOR, 11, 5), (R.MBX_TX_RESULT_SEQ, 1, 65535)]

theorem witness_MailboxesAndLocks_1 : check (stMbx.accessChecks 2 0x31010 true) = .ok ∧ check (stMbx.mbPostChecks (senderOf 2) 11) = .ok ∧ after (.txPost 2 11) stMbx (fun t => t.mb 11 = [⟨2, 0, 9, 77, 2 ^ 33⟩] ∧ t.outs = [.msix 0 5] ∧ t.on R.MBX_MB_CFG_ARM 11 = false ∧ t.rd R.MBX_TX_RESULT_SEQ 1 = 0) = true := by decide +kernel

/-- Mailbox 11 holds `n` notices of principal 2. -/
def stBox (n : Nat) : State := { stMbx with mbq := [(11, List.replicate n ⟨2, 0, 0, 7, 0⟩)] }

theorem witness_MailboxesAndLocks_2 : check ((stBox 32).mbPostChecks (senderOf 2) 11) = .busy ∧ after (.txPost 2 11) (stBox 32) (fun t => t.resp = ⟨Status.busy.code, 0⟩ ∧ t.rd R.MBX_MB_CNT_BUSY_COUNT 11 = 1 ∧ bitAt (t.rd R.MBX_MB_EVT_FLAGS 11) 1 ∧ t.mbq = (stBox 32).mbq) = true := by decide +kernel

theorem witness_MailboxesAndLocks_3 : check ((stBox 32).accessChecks pPF (mbAddr 11 0x20) true) = .ok ∧ receives pPF 11 = true ∧ after (.mbPop pPF 11 (2 ^ 31 + 32)) (stBox 32) (fun t => t.mb 11 = [] ∧ t.on R.MBX_MB_CFG_ARM 11 ∧ t.rd R.MBX_TX_DELIV_COUNT 1 = 32 ∧ t.rd R.MBX_MB_STAT_COUNT 11 = 0) = true := by decide +kernel

theorem witness_MailboxesAndLocks_4 : receives pPF 11 = true ∧ after (.mbPop pPF 11 33) (stBox 32) (fun t => t.resp.status = Status.lenExceeds.code) = true := by decide +kernel

theorem witness_MailboxesAndLocks_5 : check ((stBox 32).accessChecks 2 (mbAddr 11 0x20) true) = .ok ∧ receives 2 11 = false ∧ after (.mbPop 2 11 1) (stBox 32) (fun t => t.resp = ⟨8, 0⟩) = true := by decide +kernel

theorem witness_MailboxesAndLocks_6 : check ((stBox 1).accessChecks pPF (mbAddr 11 0) true) = .ok ∧ after (.mbCfgArm pPF 11 (6 * 2 ^ 16)) (stBox 1) (fun t => t.outs = [.msix 0 6] ∧ t.on R.MBX_MB_CFG_ARM 11 = false) = true := by decide +kernel

theorem witness_MailboxesAndLocks_7 : check (stMbx.accessChecks pPF (mbAddr 11 0) true) = .ok ∧ after (.mbCfgArm pPF 11 (6 * 2 ^ 16)) stMbx (fun t => t.outs = [] ∧ t.on R.MBX_MB_CFG_ARM 11) = true := by decide +kernel

theorem witness_MailboxesAndLocks_8 : check (stMbx.accessChecks 5 (lockAddr 15) false) = .ok ∧ after (.lockAcquireRead 5 15) stMbx (fun t => t.rd R.MBX_LK_OWNER 15 = 5 ∧ t.rd R.MBX_LK_STAT_WINS 15 = 1 ∧ t.resp = ⟨0, 0⟩) = true := by decide +kernel

def stLock : State := stMbx.wrk R.MBX_LK_OWNER 15 0 5

theorem witness_MailboxesAndLocks_9 : check (stLock.accessChecks 2 (lockAddr 15) false) = .ok ∧ after (.lockAcquireRead 2 15) stLock (fun t => t.rd R.MBX_LK_OWNER 15 = 5 ∧ t.rd R.MBX_LK_STAT_WINS 15 = 0 ∧ t.resp = ⟨0, 5⟩) = true := by decide +kernel

theorem witness_MailboxesAndLocks_10 : check (stLock.accessChecks 5 (lockAddr 15) true) = .ok ∧ after (.lockRelease 5 15 0) stLock (fun t => t.rd R.MBX_LK_OWNER 15 = 0 ∧ t.rd R.MBX_LK_STAT_FREED 15 = 0) = true := by decide +kernel

theorem witness_MailboxesAndLocks_11 : check (stLock.accessChecks 2 (lockAddr 15) true) = .ok ∧ after (.lockRelease 2 15 0) stLock (fun t => t.rd R.MBX_LK_OWNER 15 = 5 ∧ t.resp = ⟨8, 0⟩) = true := by decide +kernel

theorem witness_MailboxesAndLocks_12 : isCore 2 = true ∧ after (.lockForce 2 15 0) stLock (fun t => t.rd R.MBX_LK_OWNER 15 = 0 ∧ t.rd R.MBX_LK_STAT_FREED 15 = 1) = true := by decide +kernel

theorem witness_MailboxesAndLocks_13 : check (stLock.accessChecks pPF (lockAddr 15) true) = .ok ∧ isCore pPF = false ∧ after (.lockForce pPF 15 0) stLock (fun t => t.rd R.MBX_LK_OWNER 15 = 5 ∧ t.resp = ⟨8, 0⟩) = true := by decide +kernel

/-- A message of the physical function in host memory, and its block with opcode `op` and a payload of 4,064 bytes. -/
def hostMsg : Notice := ⟨pPF, 0, 0, 5, 2 ^ 63⟩
def hostBlock (op : Nat) : List Nat := [op, 0, 0, 0, 0xE0, 0x0F, 0, 0] ++ List.replicate 24 0
/-- The notice is on MB0 (and not yet held), or is the one served. -/
def stMsg (held : Bool) : State :=
  if held then { stMbx with fwMsg := some hostMsg } else { stMbx with mbq := [(0, [hostMsg])] }

theorem witness_FirmwareMessages_1 : (stMsg false).mb 0 = [hostMsg] ∧ (stMsg false).msgBlock hostMsg.ptr (some (hostBlock 3)) = some (hostBlock 3) ∧ after (.firmwareNoticeTake 0 (some (hostBlock 3))) (stMsg false) (fun t => t.fwMsg = some hostMsg ∧ t.mb 0 = []) = true := by decide +kernel

theorem witness_FirmwareMessages_2 : ((stMsg false).wrk R.MBX_EPOCH_A_PF 0 0 1).senderEpoch 3 = 1 ∧ after (.firmwareNoticeTake 0 (some (hostBlock 3))) ((stMsg false).wrk R.MBX_EPOCH_A_PF 0 0 1) (fun t => t.fwMsg = none ∧ t.mb 0 = []) = true := by decide +kernel

theorem witness_FirmwareMessages_3 : (stMsg true).fwMsg.isSome ∧ after (.firmwareNoticeTake 0 none) (stMsg true) (fun t => t = stMsg true) = true := by decide +kernel

theorem witness_FirmwareMessages_4 : check ((stMsg true).msgChecks hostMsg (hostBlock 1) 32) = .ok ∧ check ((stMsg true).mbPostChecks 1 8) = .ok ∧ after (.msgEcho (some (hostBlock 1))) (stMsg true) (fun t => t.fwMsg = none ∧ t.mb 8 = [⟨2, 0, 0, 5, 2 ^ 63⟩]) = true := by decide +kernel

theorem witness_FirmwareMessages_5 : check ((stMsg true).msgChecks hostMsg (hostBlock 2) 32) = .ok ∧ check ((stMsg true).mbPostChecks 1 8) = .ok ∧ after (.msgFaultlog (some (hostBlock 2))) (stMsg true) (fun t => t.fwMsg = none ∧ t.mb 8 = [⟨2, 0, 0, 5, 2 ^ 63⟩] ∧ t.outs.length = 1) = true := by decide +kernel

theorem witness_FirmwareMessages_6 : check ((stMsg true).msgChecks hostMsg (hostBlock 3) 32) = .ok ∧ check ((stMsg true).mbPostChecks 1 8) = .ok ∧ after (.msgTemp (some (hostBlock 3))) (stMsg true) (fun t => t.fwMsg = none ∧ t.mb 8 = [⟨2, 0, 0, 5, 2 ^ 63⟩] ∧ t.outs.head? = some (.hostWrite 0 32 (stMsg true).tempBytes)) = true := by decide +kernel

theorem witness_FirmwareMessages_7 : (stMsg true).fwMsg = some hostMsg ∧ after (.msgEcho (some (hostBlock 2))) (stMsg true) (fun t => t = stMsg true) = true := by decide +kernel

/-- A reply to MB8 that was refused `c` times before; `n` notices are in MB8. -/
def stReply (n c : Nat) : State := { stMbx with mbq := [(8, List.replicate n ⟨2, 0, 0, 7, 0⟩)], fwReplies := [(hostMsg, c)] }

theorem witness_FirmwareMessages_8 : check ((stReply 31 0).mbPostChecks 1 8) = .ok ∧ after (.mbReplyRetry) (stReply 31 0) (fun t => (t.mb 8).length = 32 ∧ t.fwReplies = []) = true := by decide +kernel

theorem witness_FirmwareMessages_9 : check ((stReply 32 9997).mbPostChecks 1 8) = .busy ∧ after (.mbReplyRetry) (stReply 32 9997) (fun t => (t.mb 8).length = 32 ∧ t.fwReplies = [(hostMsg, 9998)]) = true := by decide +kernel

theorem witness_FirmwareMessages_10 : check ((stReply 32 9998).mbPostChecks 1 8) = .busy ∧ after (.mbReplyRetry) (stReply 32 9998) (fun t => t.fwReplies = [] ∧ t.rdk R.MGT_FLOG_WR_INDEX 0 0 = 1 + (stReply 32 9998).rdk R.MGT_FLOG_WR_INDEX 0 0) = true := by decide +kernel

/-- The store is in a state, with a block-protect range. -/
def stNvs (st bp : Nat) : State := mk mRUN [(R.NVS_STAT_STATE, 0, st), (R.NVS_CFG_BP, 0, bp)]

theorem witness_StoreAccess_1 : check ((stNvs nsREADY 1).accessChecks 2 (0x1000000 + 0x5FFFC) true) = .ok ∧ (stNvs nsREADY 1).nvsLocked 0x5FFFC = false ∧ after (.nvsDataWrite 2 0x5FFFC 0x12345678) (stNvs nsREADY 1) (fun t => memReadBytes t.nvs.sram 0x5FFFB 6 = [0, 0x78, 0x56, 0x34, 0x12, 0] ∧ t.resp = ⟨0, 0⟩) = true := by decide +kernel

theorem witness_StoreAccess_2 : check ((stNvs nsREADY 1).accessChecks 2 (0x1000000 + 0x60000) true) = .ok ∧ (stNvs nsREADY 1).nvsLocked 0x60000 = true ∧ after (.nvsDataWrite 2 0x60000 1) (stNvs nsREADY 1) (fun t => t.resp = ⟨8, 0⟩ ∧ t.nvs = (stNvs nsREADY 1).nvs) = true := by decide +kernel

theorem witness_StoreAccess_3 : check ((stNvs nsHOLD 0).accessChecks 2 (0x1000000 + 0x60000) true) = .ok ∧ after (.nvsDataWrite 2 0x60000 1) (stNvs nsHOLD 0) (fun t => t.resp = ⟨3, 0⟩ ∨ t.resp = ⟨Status.notReady.code, 0⟩) = true := by decide +kernel

/-- As `stNvs`, with the data port of principal 2 at the last word of a page. -/
def stPort (st : Nat) : State := ((stNvs st 0).wrk R.NVS_PORT_ADDR_ADDR 2 0 0x203F).setNvs fun x => { x with sram := memWriteBytes [] 0x80FC [1, 2, 3, 4] }

theorem witness_StoreAccess_4 : check ((stPort nsHOLD).accessChecks 2 0x40014 false) = .ok ∧ (stPort nsHOLD).fwRefuses 2 0 (0x1080000 + 4 * 0x203F) 4 false = none ∧ (stPort nsHOLD).nvsLocked (4 * 0x203F) = false ∧ after (.nvsPortDataAccess 2 false 9) (stPort nsHOLD) (fun t => t.resp = ⟨0, 0x04030201⟩ ∧ t.rd R.NVS_PORT_ADDR_ADDR 2 = 0x2000) = true := by decide +kernel

theorem witness_StoreAccess_5 : check ((stPort nsREADY).accessChecks 2 0x40014 true) = .ok ∧ (stPort nsREADY).fwRefuses 2 0 (0x1080000 + 4 * 0x203F) 4 true = none ∧ (stPort nsREADY).nvsLocked (4 * 0x203F) = false ∧ after (.nvsPortDataAccess 2 true 9) (stPort nsREADY) (fun t => memReadBytes t.nvs.sram 0x80FC 4 = [9, 0, 0, 0] ∧ t.rd R.NVS_PORT_ADDR_ADDR 2 = 0x2000) = true := by decide +kernel

theorem witness_StoreAccess_6 : check ((stPort nsSTORE).accessChecks 2 0x40014 true) = .ok ∧ (stPort nsSTORE).fwRefuses 2 0 (0x1080000 + 4 * 0x203F) 4 true = none ∧ (stPort nsSTORE).nvsLocked (4 * 0x203F) = false ∧ after (.nvsPortDataAccess 2 true 9) (stPort nsSTORE) (fun t => t.nvs = (stPort nsSTORE).nvs ∧ t.rd R.NVS_PORT_ADDR_ADDR 2 = 0x203F) = true := by decide +kernel

theorem witness_StoreAccess_7 : check ((stNvs nsREADY 0).accessChecks 2 0x40000 true) = .ok ∧ after (.nvsCfgWrite 2 (2 ^ 31 + 0x31)) (stNvs nsREADY 0) (fun t => t.rd R.NVS_CFG_BP 0 = 3 ∧ t.on R.NVS_CFG_BP_LOCK 0 ∧ t.on R.NVS_CFG_PAGE_MODE 0 ∧ t.nvsLocked 0x8000) = true := by decide +kernel

def stBpl : State := (stNvs nsREADY 1).wrk R.NVS_CFG_BP_LOCK 0 0 1

theorem witness_StoreAccess_8 : check (stBpl.accessChecks 2 0x40000 true) = .ok ∧ after (.nvsCfgWrite 2 0) stBpl (fun t => t.resp = ⟨8, 0⟩ ∧ t.rd R.NVS_CFG_BP 0 = 1) = true := by decide +kernel

theorem witness_StoreAccess_9 : check (stBpl.accessChecks 2 0x40000 true) = .ok ∧ after (.nvsCfgWrite 2 0x10) stBpl (fun t => t.resp = ⟨0, 0⟩) = true := by decide +kernel

theorem witness_StoreAccess_10 : ((stNvs nsREADY 1).portStat .smbus).busy = false ∧ after (.nvsWrite .smbus 0x8000 [0x1FF]) (stNvs nsREADY 1) (fun t => memReadBytes t.nvs.sram 0x8000 1 = [0xFF] ∧ t.portStat .smbus = ⟨0, 0x21, false, false, 1⟩) = true := by decide +kernel

theorem witness_StoreAccess_11 : (stNvs nsREADY 1).nvsLocked 0x7FFF = true ∧ after (.nvsWrite .mspi 0x7FFF [1]) (stNvs nsREADY 1) (fun t => t.portStat .mspi = ⟨8, 0x21, false, false, 0⟩ ∧ t.nvs.sram = []) = true := by decide +kernel

theorem witness_StoreAccess_12 : (stNvs nsRECALL 1).nvsState ≠ nsREADY ∧ after (.nvsWrite .mspi 0x8000 [1]) (stNvs nsRECALL 1) (fun t => (t.portStat .mspi).status = Status.notReady.code) = true := by decide +kernel

theorem witness_StoreAccess_13 : (stPort nsSTORE).nvsState ≠ nsRECALL ∧ after (.nvsRead .mspi 0x80FF 2) (stPort nsSTORE) (fun t => t.outs = [.port .mspi [4, 0]]) = true := by decide +kernel

theorem witness_StoreAccess_14 : (stBpl.portStat .mspi).busy = false ∧ after (.mgmtNvsCfg .mspi 0) stBpl (fun t => t.on R.NVS_CFG_BP_LOCK 0 = false ∧ t.rd R.NVS_CFG_BP 0 = 0) = true := by decide +kernel

/-- A port is busy with a STORE. -/
def stBusyPort : State := (stNvs nsSTORE 1).setPortStat .mspi ⟨0, 0x14, true, false, 0⟩

theorem witness_StoreAccess_15 : (stBusyPort.portStat .mspi).busy = true ∧ after (.mgmtNvsCfg .mspi 0) stBusyPort (fun t => (t.portStat .mspi).refused ∧ t.rd R.NVS_CFG_BP 0 = 1) = true := by decide +kernel

/-- Bank Y is the newer one, its sequence past the wrap; the SRAM differs from both. -/
def stBanks (st : Nat) : State :=
  { stNvs st 0 with nvs := ⟨memWriteBytes [] 0x9000 [3], ⟨memWriteBytes [] 0x9000 [1], some (2 ^ 32 - 1)⟩, ⟨memWriteBytes [] 0x9000 [2], some 0⟩, 0, none⟩ }

theorem witness_StoreCopies_1 : check ((stBanks nsREADY).accessChecks 2 0x40004 true) = .ok ∧ (stBanks nsREADY).nvs.newer = some 1 ∧ after (.nvsStore 2 0) (stBanks nsREADY) (fun t => t.nvsState = nsSTORE ∧ t.nvs.target = 0 ∧ t.nvs.bankX.mark = none ∧ t.nvs.newer = some 1) = true := by decide +kernel

theorem witness_StoreCopies_2 : check ((stBanks nsREADY).accessChecks 2 0x40004 true) = .ok ∧ after (.nvsRecall 2 0) (stBanks nsREADY) (fun t => t.nvsState = nsRECALL) = true := by decide +kernel

theorem witness_StoreCopies_3 : check ((stBanks nsHOLD).accessChecks 2 0x40004 true) = .ok ∧ after (.nvsStore 2 0) (stBanks nsHOLD) (fun t => t.resp = ⟨Status.notReady.code, 0⟩ ∧ t.nvs = (stBanks nsHOLD).nvs) = true := by decide +kernel

theorem witness_StoreCopies_4 : check ((stBanks nsHOLD).accessChecks 2 0x40004 true) = .ok ∧ after (.nvsRecall 2 0) (stBanks nsHOLD) (fun t => t.resp = ⟨Status.notReady.code, 0⟩ ∧ t.nvs = (stBanks nsHOLD).nvs) = true := by decide +kernel

theorem witness_StoreCopies_5 : ((stBanks nsREADY).portStat .smbus).busy = false ∧ after (.storeNow .smbus) (stBanks nsREADY) (fun t => t.nvsState = nsSTORE ∧ (t.portStat .smbus).busy) = true := by decide +kernel

theorem witness_StoreCopies_6 : ((stBanks nsSTORE).portStat .smbus).busy = false ∧ after (.storeNow .smbus) (stBanks nsSTORE) (fun t => (t.portStat .smbus).status = Status.notReady.code) = true := by decide +kernel

theorem witness_StoreCopies_7 : (stBanks nsSTORE).nvs.newer ≠ some (stBanks nsSTORE).nvs.target ∧ after (.storeComplete) (stBanks nsSTORE) (fun t => t.nvs.newer = some 0 ∧ t.nvs.bankX = ⟨memWriteBytes [] 0x9000 [3], some 1⟩ ∧ t.nvsState = nsREADY ∧ t.rd R.NVS_CNT_STORE_COUNT 0 = 1 ∧ bitAt (t.rd R.NVS_EVT_FLAGS 0) 0) = true := by decide +kernel

theorem witness_StoreCopies_8 : (stBanks nsAUTOSTORE).nvs.newer ≠ some (stBanks nsAUTOSTORE).nvs.target ∧ after (.storeComplete) (stBanks nsAUTOSTORE) (fun t => t.nvs.newer = some 0 ∧ t.nvs.bankX = ⟨memWriteBytes [] 0x9000 [3], some 1⟩ ∧ t.nvsState = nsREADY ∧ t.rd R.NVS_CNT_AUTO_COUNT 0 = 1 ∧ bitAt (t.rd R.NVS_EVT_FLAGS 0) 1) = true := by decide +kernel

theorem witness_StoreCopies_9 : ((stBanks nsAUTOSTORE).wrk R.NVS_STAT_PF 0 0 1).nvsState = nsAUTOSTORE ∧ after (.storeComplete) ((stBanks nsAUTOSTORE).wrk R.NVS_STAT_PF 0 0 1) (fun t => t.nvsState = nsHOLD) = true := by decide +kernel

theorem witness_StoreCopies_10 : (stBanks nsREADY).nvsState ≠ nsSTORE ∧ after (.storeComplete) (stBanks nsREADY) (fun t => t = stBanks nsREADY) = true := by decide +kernel

theorem witness_StoreCopies_11 : (stBanks nsRECALL).nvs.newer = some 1 ∧ (stBanks nsRECALL).on R.NVS_STAT_PF 0 = false ∧ after (.recallComplete none none) (stBanks nsRECALL) (fun t => t.nvs.sram = memWriteBytes [] 0x9000 [2] ∧ t.nvsState = nsREADY) = true := by decide +kernel

theorem witness_StoreCopies_12 : ((stBanks nsRECALL).nvs.bank 0).mark.isSome ∧ after (.recallComplete (some 8) none) (stBanks nsRECALL) (fun t => t.nvs.sram = memWriteBytes [] 0x9000 [1] ∧ t.rd R.NVS_STAT_RECALLED_OLD 0 = 1 ∧ bitAt (t.rd R.NVS_EVT_FLAGS 0) 2) = true := by decide +kernel

theorem witness_StoreCopies_13 : (stNvs nsRECALL 0).nvs.newer = none ∧ after (.recallComplete none none) (stNvs nsRECALL 0) (fun t => t.nvs.sram = [] ∧ t.rd R.NVS_STAT_BLANK 0 = 1 ∧ t.nvsState = nsREADY) = true := by decide +kernel

theorem witness_StoreCopies_14 : (stBanks nsREADY).nvsState ≠ nsRECALL ∧ after (.recallComplete (some 1) none) (stBanks nsREADY) (fun t => t = stBanks nsREADY) = true := by decide +kernel

theorem witness_StoreCopies_15 : (stBanks nsREADY).nvsState = nsREADY ∧ after (.powerFail) (stBanks nsREADY) (fun t => t.nvsState = nsAUTOSTORE ∧ t.nvs.target = 0 ∧ t.rd R.NVS_STAT_PF 0 = 1) = true := by decide +kernel

theorem witness_StoreCopies_16 : (stBanks nsSTORE).nvsState = nsSTORE ∧ after (.powerFail) (stBanks nsSTORE) (fun t => t.nvsState = nsAUTOSTORE) = true := by decide +kernel

theorem witness_StoreCopies_17 : (stBanks nsHOLD).nvsState = nsHOLD ∧ after (.powerFailRelease) (stBanks nsHOLD) (fun t => t.nvsState = nsREADY ∧ t.nvs = (stBanks nsHOLD).nvs) = true := by decide +kernel

theorem witness_StoreCopies_18 : after (.marginScan 70000 none none) (stBanks nsREADY) (fun t => t.rd R.NVS_SCAN_REFRESHED 0 = 65535 ∧ bitAt (t.rd R.NVS_EVT_FLAGS 0) 3) = true := by decide +kernel

theorem witness_StoreCopies_19 : (stBanks nsREADY).nvs.newer = some 1 ∧ after (.marginScan 0 (some 8) none) (stBanks nsREADY) (fun t => t.nvs.bankX.mark = none ∧ t.nvsState = nsREADY) = true := by decide +kernel

def stNewX : State := (stBanks nsREADY).setNvs fun x => { x with bankX := { x.bankX with mark := some 5 } }

theorem witness_StoreCopies_20 : stNewX.nvs.newer = some 0 ∧ after (.marginScan 0 (some 8) none) stNewX (fun t => t.nvsState = nsSTORE ∧ t.nvs.target = 1 ∧ t.nvs.bankX.mark = some 5) = true := by decide +kernel

/-- A twin card in a mode and pair state, PAIR 1 and IDENT current, with some more fields set. -/
def stTwn (mode pair : Nat) (l : List (Fld × Nat × Nat)) : State :=
  mk mode ([(R.TWN_STAT_PAIR_STATE, 0, pair), (R.TWN_CTL_PAIR, 0, 1), (R.TWN_STAT_IDENT, 0, 1)] ++ l)
/-- The state on a card of the variant with 32 lanes and a twin link. -/
def on41 (s : State) : State := { s with fuses := { s.fuses with variant := 0x41 } }
/-- A HELLO of a MIRROR peer on side B in IDLE with the same firmware. -/
def helloMsg (kind mode : Nat) (side : Bool) : Hello := ⟨kind, mode, side, List.replicate 8 0, []⟩

theorem witness_TwinPairing_1 : check ((mk mRUN []).accessChecks pPF 0x60000 true) = .ok ∧ after (.twnPairWrite pPF (3 * 2 ^ 30)) (mk mRUN []) (fun t => t.pair = prHELLO ∧ t.on R.TWN_CTL_KIND 0 ∧ t.on R.TWN_CTL_PAIR 0) = true := by decide +kernel

theorem witness_TwinPairing_2 : check ((stTwn mRUN prINSTEP []).accessChecks 5 0x60000 true) = .ok ∧ after (.twnPairWrite 5 0) (stTwn mRUN prINSTEP []) (fun t => t.pair = prSOLO ∧ t.rd R.TWN_CTL_PAIR 0 = 0) = true := by decide +kernel

theorem witness_TwinPairing_3 : check ((mk mRUN []).accessChecks 0x20 0x60000 true) = .ok ∧ after (.twnPairWrite 0x20 (3 * 2 ^ 30)) (mk mRUN []) (fun t => t.resp = ⟨8, 0⟩) = true := by decide +kernel

theorem witness_TwinPairing_4 : check ((stTwn mRUN prDIVERGED []).accessChecks 1 0x60000 true) = .ok ∧ after (.twnResync 1 (2 ^ 31)) (stTwn mRUN prDIVERGED []) (fun t => t.pair = prSYNC ∧ t.twnX.fresh) = true := by decide +kernel

def stUp : State := (mk mRUN []).wrk R.LNE_GL_STAT_LINK_STATE 96 0 glUP

theorem witness_TwinPairing_5 : stUp.bundleUp = true ∧ stUp.twin = true ∧ after (.identSend) stUp (fun t => t.outs = [.twin 1 [stUp.twnX.nonce, stUp.fuses.variant, stUp.fuses.stepping]]) = true := by decide +kernel

theorem witness_TwinPairing_6 : (mk mRUN []).bundleUp = false ∧ after (.identSend) (mk mRUN []) (fun t => t = mk mRUN []) = true := by decide +kernel

theorem witness_TwinPairing_7 : (stTwn mIDLE prHELLO []).twin = true ∧ after (.helloSend) (stTwn mIDLE prHELLO []) (fun t => t.outs = [.twin 10 [0, mIDLE, 0, 0, 0, 0, 0, 0, 0, 0, 0]]) = true := by decide +kernel

theorem witness_TwinPairing_8 : (stTwn mIDLE prSYNC []).pair ≠ prHELLO ∧ after (.helloSend) (stTwn mIDLE prSYNC []) (fun t => t = stTwn mIDLE prSYNC []) = true := by decide +kernel

theorem witness_TwinPairing_9 : (mk mRUN []).twin = true ∧ after (.identReceived (2 ^ 32 + 5) 0x11 1) (mk mRUN []) (fun t => t.rd R.TWN_PEER_NONCE_NONCE 0 = 5 ∧ t.on R.TWN_STAT_IDENT 0) = true := by decide +kernel

def stIdent : State := (stTwn mRUN prINSTEP [(R.TWN_PEER_NONCE_NONCE, 0, 4)]).setTwn fun x => { x with nonceSeen := true }

theorem witness_TwinPairing_10 : stIdent.paired = true ∧ stIdent.standby = false ∧ after (.identReceived 5 0x11 1) stIdent (fun t => t.pair = prLOST ∧ t.rd R.MBX_EPOCH_B_TWIN 0 = 1) = true := by decide +kernel

/-- A card of a variant without a twin link. -/
def stLone : State := { mk mRUN [] with fuses := { State.reset.fuses with variant := 0x43 } }

theorem witness_TwinPairing_11 : stLone.twin = false ∧ after (.identReceived 5 0x11 1) stLone (fun t => t = stLone) = true := by decide +kernel

theorem witness_TwinPairing_12 : (stTwn mRUN prHELLO [(R.TWN_PEER_VARIANT, 0, 0x11)]).helloCause (helloMsg 0 mIDLE false) = 3 ∧ after (.helloReceived (helloMsg 0 mIDLE false)) (stTwn mRUN prHELLO [(R.TWN_PEER_VARIANT, 0, 0x11)]) (fun t => t.rd R.TWN_STAT_LAST_CAUSE 0 = 3 ∧ t.pair = prSOLO ∧ bitAt (t.rd R.TWN_EVT_FLAGS 0) 1) = true := by decide +kernel

theorem witness_TwinPairing_13 : (stTwn mRUN prHELLO [(R.TWN_PEER_VARIANT, 0, 0x11)]).helloCause (helloMsg 0 mIDLE true) = 0 ∧ after (.helloReceived (helloMsg 0 mIDLE true)) (stTwn mRUN prHELLO [(R.TWN_PEER_VARIANT, 0, 0x11)]) (fun t => t.pair = prSYNC ∧ t.rd R.TWN_STAT_ROLE 0 = 0) = true := by decide +kernel

theorem witness_TwinPairing_14 : (stTwn mSERVICE prHELLO [(R.TWN_PEER_VARIANT, 0, 0x11)]).helloCause (helloMsg 0 mIDLE true) = 0 ∧ after (.helloReceived (helloMsg 0 mIDLE true)) (stTwn mSERVICE prHELLO [(R.TWN_PEER_VARIANT, 0, 0x11)]) (fun t => t = stTwn mSERVICE prHELLO [(R.TWN_PEER_VARIANT, 0, 0x11)]) = true := by decide +kernel

theorem witness_TwinPairing_15 : (stTwn mIDLE prHELLO [(R.TWN_PEER_VARIANT, 0, 0x11)]).helloCause (helloMsg 0 mIDLE true) = 0 ∧ (stTwn mIDLE prHELLO []).pins.side = false ∧ after (.helloReceived (helloMsg 0 mIDLE true)) (stTwn mIDLE prHELLO [(R.TWN_PEER_VARIANT, 0, 0x11)]) (fun t => t.pair = prSYNC ∧ t.rd R.TWN_STAT_ROLE 0 = 0 ∧ t.modeCode = mIDLE) = true := by decide +kernel

theorem witness_TwinPairing_16 : (stTwn mIDLE prHELLO [(R.MGT_MODE_PENDING, 0, 1)]).modePending = true ∧ after (.helloReceived (helloMsg 0 mIDLE true)) (stTwn mIDLE prHELLO [(R.MGT_MODE_PENDING, 0, 1)]) (fun t => t = stTwn mIDLE prHELLO [(R.MGT_MODE_PENDING, 0, 1)]) = true := by decide +kernel

theorem witness_TwinPairing_17 : (on41 (stTwn mIDLE prHELLO [(R.TWN_PEER_VARIANT, 0, 0x41)])).helloCause (helloMsg 0 mRUN true) = 0 ∧ after (.helloReceived (helloMsg 0 mRUN true)) (on41 (stTwn mIDLE prHELLO [(R.TWN_PEER_VARIANT, 0, 0x41)])) (fun _ => true) = true := by decide +kernel

theorem witness_TwinPairing_18 : ((on41 (stTwn mIDLE prHELLO [(R.TWN_PEER_VARIANT, 0, 0x41)])).wrk R.TWN_CTL_KIND 0 0 1).helloCause (helloMsg 1 mIDLE true) = 0 ∧ after (.helloReceived (helloMsg 1 mIDLE true)) ((on41 (stTwn mIDLE prHELLO [(R.TWN_PEER_VARIANT, 0, 0x41)])).wrk R.TWN_CTL_KIND 0 0 1) (fun t => t.pair = prJOINED) = true := by decide +kernel

theorem witness_TwinPairing_19 : (on41 (stTwn mIDLE prHELLO [(R.TWN_PEER_VARIANT, 0, 0x41)])).pair = prHELLO ∧ after (.helloTimeout) (on41 (stTwn mIDLE prHELLO [(R.TWN_PEER_VARIANT, 0, 0x41)])) (fun t => t.rd R.TWN_STAT_LAST_CAUSE 0 = 1 ∧ t.pair = prSOLO) = true := by decide +kernel

theorem witness_TwinPairing_20 : (mk mRUN []).pair ≠ prHELLO ∧ after (.helloTimeout) (mk mRUN []) (fun t => t = mk mRUN []) = true := by decide +kernel

theorem witness_TwinPairing_21 : (stTwn mRUN prSYNC []).active = true ∧ after (.stateCopyCut) (stTwn mRUN prSYNC []) (fun t => t = { stTwn mRUN prSYNC [] with outs := [.copy (stTwn mRUN prSYNC []).copyItems] }) = true := by decide +kernel

theorem witness_TwinPairing_22 : (stTwn mRUN prINSTEP []).active = true ∧ after (.stateCopyCut) (stTwn mRUN prINSTEP []) (fun t => t.pair = prSYNC ∧ t.outs.length = 1) = true := by decide +kernel

theorem witness_TwinPairing_23 : (mk mRUN []).paired = false ∧ after (.stateCopyCut) (mk mRUN []) (fun t => t = mk mRUN []) = true := by decide +kernel

theorem witness_TwinPairing_24 : (stTwn mRUN prSYNC []).comparing ∧ (stTwn mRUN prSYNC []).twnX.copyDone = false ∧ (stTwn mRUN prSYNC []).standby = false ∧ after (.stateCopyComplete false) (stTwn mRUN prSYNC []) (fun t => t.pair = prSOLO ∧ t.rd R.TWN_STAT_LAST_CAUSE 0 = 7) = true := by decide +kernel

theorem witness_TwinPairing_25 : (stTwn mRUN prSYNC []).cmpTlns = [] ∧ after (.stateCopyComplete true) (stTwn mRUN prSYNC []) (fun t => t.pair = prINSTEP ∧ bitAt (t.rd R.TWN_EVT_FLAGS 0) 0) = true := by decide +kernel

theorem witness_TwinPairing_26 : ((stTwn mRUN prSYNC [(R.OUT_STAT_LC_STATE, 95, lcRUNNING)]).wrk R.TWN_CMP_EN_PIPES 0 2 (2 ^ 31)).cmpTlns ≠ [] ∧ ((stTwn mRUN prSYNC [(R.OUT_STAT_LC_STATE, 95, lcRUNNING)]).wrk R.TWN_CMP_EN_PIPES 0 2 (2 ^ 31)).twnX.good = [] ∧ after (.stateCopyComplete true) ((stTwn mRUN prSYNC [(R.OUT_STAT_LC_STATE, 95, lcRUNNING)]).wrk R.TWN_CMP_EN_PIPES 0 2 (2 ^ 31)) (fun t => t.pair = prSYNC ∧ t.twnX.copyDone) = true := by decide +kernel

theorem witness_TwinPairing_27 : (mk mRUN []).pair ≠ prSYNC ∧ after (.stateCopyComplete true) (mk mRUN []) (fun t => t = mk mRUN []) = true := by decide +kernel

/-- A standby in a pair state with one allocation of surface 5 at 0x20000. -/
def stStandby (pair : Nat) : State :=
  { stTwn mMIRROR pair [(R.TWN_STAT_ROLE, 0, 1)] with allocs := [⟨0x20000, 0x10000, objKey kSurface 5, false, false⟩] }

theorem witness_TwinPairing_28 : (stStandby prINSTEP).standby = true ∧ (stStandby prINSTEP).paired = true ∧ (stStandby prINSTEP).twnX.fresh = false ∧ (stStandby prINSTEP).localBase (objKey kSurface 5) 0 = some 0x20000 ∧ after (.memoryStreamReceived [.mem (objKey kSurface 5) 0 0xFFFF [7]]) (stStandby prINSTEP) (fun t => t.hbm = memWriteBytes [] 0x2FFFF [7]) = true := by decide +kernel

theorem witness_TwinPairing_29 : (stTwn mRUN prSYNC []).standby = false ∧ after (.memoryStreamReceived [.mem 0 0 0 [7]]) (stTwn mRUN prSYNC []) (fun t => t = stTwn mRUN prSYNC []) = true := by decide +kernel

theorem witness_TwinPairing_30 : (stStandby prSYNC).twnX.copyDone = false ∧ after (.decisionRecordReceived ⟨0, 0, .param 159 31 7⟩) (stStandby prSYNC) (fun t => t.twnX.buffer = [⟨0, 0, .param 159 31 7⟩]) = true := by decide +kernel

theorem witness_TwinPairing_31 : (stStandby prINSTEP).pair = prINSTEP ∧ after (.decisionRecordReceived ⟨0, 0, .param 159 31 7⟩) (stStandby prINSTEP) (fun t => t.rdk R.CUE_PARAM_VALUE 159 31 = 7) = true := by decide +kernel

theorem witness_TwinPairing_32 : (stTwn mRUN prSYNC []).standby = false ∧ after (.decisionRecordReceived ⟨0, 0, .param 0 0 0⟩) (stTwn mRUN prSYNC []) (fun t => t = stTwn mRUN prSYNC []) = true := by decide +kernel

theorem witness_TwinPairing_33 : check ((stTwn mRUN prJOINED [(R.TWN_CTL_KIND, 0, 1), (R.LNE_GL_STAT_LINK_STATE, 96, 2), (R.LNE_GL_STAT_WIDTH, 96, 4), (R.LNE_GL_STAT_RATE, 96, 0xC)]).accessChecks pPF (0x60100 + 4 * 7) true) = .ok ∧ (stTwn mRUN prJOINED [(R.TWN_CTL_KIND, 0, 1), (R.LNE_GL_STAT_LINK_STATE, 96, 2), (R.LNE_GL_STAT_WIDTH, 96, 4), (R.LNE_GL_STAT_RATE, 96, 0xC)]).xfUsed + xfCost 0x12 0 ≤ (stTwn mRUN prJOINED [(R.TWN_CTL_KIND, 0, 1), (R.LNE_GL_STAT_LINK_STATE, 96, 2), (R.LNE_GL_STAT_WIDTH, 96, 4), (R.LNE_GL_STAT_RATE, 96, 0xC)]).xfBudget * 1000000 ∧ after (.xfCfgWrite pPF 7 (2 ^ 31 + 0xFF) 0x12 0 false) (stTwn mRUN prJOINED [(R.TWN_CTL_KIND, 0, 1), (R.LNE_GL_STAT_LINK_STATE, 96, 2), (R.LNE_GL_STAT_WIDTH, 96, 4), (R.LNE_GL_STAT_RATE, 96, 0xC)]) (fun t => t.rdk R.TWN_XF_CFG_STATE 0 7 = 1 ∧ t.rdk R.TWN_XF_CFG_PEER_PIPE 0 7 = 127) = true := by decide +kernel

theorem witness_TwinPairing_34 : check ((stTwn mRUN prJOINED [(R.TWN_CTL_KIND, 0, 1), (R.LNE_GL_STAT_LINK_STATE, 96, 2), (R.LNE_GL_STAT_WIDTH, 96, 4), (R.LNE_GL_STAT_RATE, 96, 0xC)]).accessChecks pPF (0x60100 + 4 * 7) true) = .ok ∧ after (.xfCfgWrite pPF 7 (2 ^ 31) 0x12 0 true) (stTwn mRUN prJOINED [(R.TWN_CTL_KIND, 0, 1), (R.LNE_GL_STAT_LINK_STATE, 96, 2), (R.LNE_GL_STAT_WIDTH, 96, 4), (R.LNE_GL_STAT_RATE, 96, 0xC)]) (fun t => t.resp = ⟨Status.lenExceeds.code, 0⟩) = true := by decide +kernel

theorem witness_TwinPairing_35 : ((stTwn mRUN prJOINED [(R.TWN_CTL_KIND, 0, 1), (R.LNE_GL_STAT_LINK_STATE, 96, 2), (R.LNE_GL_STAT_WIDTH, 96, 4), (R.LNE_GL_STAT_RATE, 96, 0xC)]).wrk R.LNE_GL_STAT_WIDTH 96 0 0).xfBudget = 0 ∧ after (.xfCfgWrite pPF 7 (2 ^ 31) 0x12 0 false) ((stTwn mRUN prJOINED [(R.TWN_CTL_KIND, 0, 1), (R.LNE_GL_STAT_LINK_STATE, 96, 2), (R.LNE_GL_STAT_WIDTH, 96, 4), (R.LNE_GL_STAT_RATE, 96, 0xC)]).wrk R.LNE_GL_STAT_WIDTH 96 0 0) (fun t => t.resp = ⟨Status.bandwidth.code, 0⟩) = true := by decide +kernel

theorem witness_TwinPairing_36 : check ((mk mRUN []).accessChecks pPF (0x60100 + 4 * 7) true) = .ok ∧ after (.xfCfgWrite pPF 7 (2 ^ 31) 0x12 0 false) (mk mRUN []) (fun t => t.rdk R.TWN_XF_CFG_STATE 0 7 = 0 ∧ t.rdk R.TWN_XF_CFG_EN 0 7 = 1) = true := by decide +kernel

/-- A card compares, with its own record of line 1125 of pipeline 95 waiting. -/
def stCmp (pair : Nat) : State := (stTwn mRUN pair []).setTwn fun x => { x with own := [⟨95, 1125, 4095, 3, 4⟩] }

theorem witness_TwinCompare_1 : (stCmp prINSTEP).comparing ∧ (stCmp prINSTEP).twnX.own.find? (LineCrc.same ⟨95, 1125, 0, 3, 4⟩) = none ∧ after (.lineRecordReceived 95 1125 4096 3 4) (stCmp prINSTEP) (fun t => t.twnX.peer = [⟨95, 1125, 0, 3, 4⟩] ∧ t.twnX.own.length = 1) = true := by decide +kernel

theorem witness_TwinCompare_2 : (stCmp prINSTEP).twnX.own.find? (LineCrc.same ⟨95, 1125, 4095, 3, 4⟩) = some ⟨95, 1125, 4095, 3, 4⟩ ∧ after (.lineRecordReceived 95 1125 4095 3 4) (stCmp prINSTEP) (fun t => t.twnX.own = [] ∧ t.regs = (stCmp prINSTEP).regs) = true := by decide +kernel

theorem witness_TwinCompare_3 : (stCmp prINSTEP).twnX.episode = none ∧ after (.lineRecordReceived 95 1125 4095 3 5) (stCmp prINSTEP) (fun t => t.rd R.TWN_VERDICT_PIPE 0 = 95 ∧ t.rd R.TWN_VERDICT_LINE 0 = 1125 ∧ bitAt (t.rd R.TWN_EVT_FLAGS 0) 2 ∧ t.rd R.TWN_CNT_MISMATCH_COUNT 0 = 1 ∧ t.twnX.episode.isSome) = true := by decide +kernel

theorem witness_TwinCompare_4 : (stCmp prSYNC).comparing ∧ after (.lineRecordReceived 95 1125 4095 9 4) (stCmp prSYNC) (fun t => 0 ∈ t.twnX.missed ∧ t.twnX.episode = none) = true := by decide +kernel

theorem witness_TwinCompare_5 : ¬(mk mRUN []).comparing ∧ after (.lineRecordReceived 95 1125 4095 3 5) (mk mRUN []) (fun t => t = mk mRUN []) = true := by decide +kernel

theorem witness_TwinCompare_6 : (mk mRUN []).twnX.own = [] ∧ after (.cmpGapTimeout) (mk mRUN []) (fun t => t = mk mRUN []) = true := by decide +kernel

theorem witness_TwinCompare_7 : (stCmp prINSTEP).twnX.own.length = 1 ∧ after (.cmpGapTimeout) (stCmp prINSTEP) (fun t => t.twnX.own = [] ∧ t.twnX.episode.isSome ∧ t.rd R.TWN_CNT_CMP_GAP_COUNT 0 = 1) = true := by decide +kernel

theorem witness_TwinCompare_8 : (stCmp prINSTEP).twin = true ∧ after (.evidenceReceived 8 5) (stCmp prINSTEP) (fun t => t.evid = [(0, 0, 5, true)]) = true := by decide +kernel

theorem witness_TwinCompare_9 : stLone.twin = false ∧ after (.evidenceReceived 1 5) stLone (fun t => t = stLone) = true := by decide +kernel

theorem witness_TwinCompare_10 : stLone.twin = false ∧ after (.evidenceSummarySend) stLone (fun t => t = stLone) = true := by decide +kernel

theorem witness_TwinCompare_11 : stLone.twin = false ∧ after (.timeRecord 0 0 0) stLone (fun t => t = stLone) = true := by decide +kernel

theorem witness_TwinCompare_12 : (stCmp prINSTEP).on R.TWN_STAT_IDENT 0 = true ∧ after (.evidenceSummarySend) (stCmp prINSTEP) (fun t => t.outs = [.twin 13 [0]]) = true := by decide +kernel

/-- An episode of pipeline 95 on a standby that could take, with evidence in bit `b` of the peer or the own card; CO_TLN runs. -/
def stEpi (b : Nat) (peer : Bool) : State :=
  let s := (stTwn mMIRROR prINSTEP [(R.TWN_STAT_ROLE, 0, 1), (R.REF_TLN_CFG_FMT, 0, 0x12), (R.REF_TLN_STAT_STATE, 0, 2)])
  { s with evid := [(5, b, 3, peer)], tln := [(0, ⟨0, 7, 1, 0, false, 0, none⟩)],
           twnX := { s.twnX with episode := some ⟨95, 1, 0, false, 0⟩ } }

theorem witness_TwinCompare_13 : (stEpi 0 true).verdictOf ⟨95, 1, 0, false, 0⟩ = 1 ∧ (stEpi 0 true).standby = true ∧ after (.verdictTimer) (stEpi 0 true) (fun t => t.rd R.TWN_VERDICT_VERDICT 0 = 1 ∧ t.twnX.takeAt.isSome ∧ bitAt (t.rd R.TWN_EVT_FLAGS 0) 3) = true := by decide +kernel

theorem witness_TwinCompare_14 : (stEpi 6 true).verdictOf ⟨95, 1, 0, false, 0⟩ = 4 ∧ after (.verdictTimer) (stEpi 6 true) (fun t => t.pair = prDIVERGED ∧ t.twnX.episode = none) = true := by decide +kernel

theorem witness_TwinCompare_15 : (stEpi 7 false).verdictOf ⟨95, 1, 0, false, 0⟩ = 2 ∧ after (.verdictTimer) (stEpi 7 false) (fun t => t.pair = prDIVERGED) = true := by decide +kernel

def stEpi5 : State := { stEpi 0 true with evid := [(5, 0, 0, true), (5, 1, 0, false)] }

theorem witness_TwinCompare_16 : stEpi5.verdictOf ⟨95, 1, 0, false, 0⟩ = 5 ∧ after (.verdictTimer) stEpi5 (fun t => t.pair = prINSTEP ∧ t.twnX.takeAt = none) = true := by decide +kernel

theorem witness_TwinCompare_17 : (stCmp prINSTEP).twnX.episode = none ∧ after (.verdictTimer) (stCmp prINSTEP) (fun t => t = (stCmp prINSTEP)) = true := by decide +kernel

theorem witness_TwinCompare_18 : (stCmp prINSTEP).twnX.skewHigh = false ∧ after (.timeRecord 1000 7 (-101)) (stCmp prINSTEP) (fun t => t.rd R.TWN_SKEW_NS 0 = 2 ^ 32 - 101 ∧ bitAt (t.rd R.TWN_EVT_FLAGS 0) 9 ∧ (t.cand 8).mark = some (1003, 0)) = true := by decide +kernel

theorem witness_TwinCompare_19 : after (.timeRecord 1000 7 100) (stCmp prINSTEP) (fun t => t.outs = [.twin 3 [0]] ∧ t.rd R.TWN_EVT_FLAGS 0 = 0) = true := by decide +kernel

theorem witness_TwinTakeover_1 : check ((stTwn mRUN prINSTEP []).accessChecks 1 0x60000 true) = .ok ∧ (stTwn mRUN prINSTEP []).active = true ∧ after (.twnYield 1 (2 ^ 31)) (stTwn mRUN prINSTEP []) (fun t => t.outs = [.twin 15 []] ∧ t.pair = prINSTEP) = true := by decide +kernel

theorem witness_TwinTakeover_2 : check ((mk mRUN []).accessChecks pPF 0x60000 true) = .ok ∧ (mk mRUN []).pair = prSOLO ∧ after (.twnYield pPF 0) (mk mRUN []) (fun t => t.on R.TWN_CTL_TAKE_INH 0 ∧ t.pins.netLow = false) = true := by decide +kernel

/-- A standby whose changeover timeline runs. -/
def stTake : State := (stEpi 0 true).setTwn fun x => { x with episode := none }

theorem witness_TwinTakeover_3 : stTake.standby = true ∧ (stTake.coNext 100000).isSome ∧ after (.yieldReceived) stTake (fun t => t.twnX.takeAt = some (7, true) ∧ t.outs = [.twin 14 [7, 1]]) = true := by decide +kernel

theorem witness_TwinTakeover_4 : (on41 (stStandby prINSTEP)).coNext 100000 = none ∧ after (.yieldReceived) (on41 (stStandby prINSTEP)) (fun _ => true) = true := by decide +kernel

theorem witness_TwinTakeover_5 : (mk mRUN []).standby = false ∧ after (.yieldReceived) (mk mRUN []) (fun t => t = mk mRUN []) = true := by decide +kernel

def stHand : State := stTwn mRUN prINSTEP [(R.REF_TLN_CFG_FMT, 0, 0x12), (R.REF_TLN_STAT_STATE, 0, 2)]

theorem witness_TwinTakeover_6 : stHand.active = true ∧ stHand.tlnRuns stHand.coTln = true ∧ after (.twinTakeReceived (2 ^ 32 + 7) true) stHand (fun t => t.twnX.handAt = some (7, true) ∧ t.modeCode = mRUN) = true := by decide +kernel

theorem witness_TwinTakeover_7 : (on41 (stTwn mRUN prINSTEP [])).tlnRuns (on41 (stTwn mRUN prINSTEP [])).coTln = false ∧ after (.twinTakeReceived 7 false) (on41 (stTwn mRUN prINSTEP [])) (fun _ => true) = true := by decide +kernel

theorem witness_TwinTakeover_8 : (mk mRUN []).active = false ∧ after (.twinTakeReceived 7 false) (mk mRUN []) (fun t => t = mk mRUN []) = true := by decide +kernel

theorem witness_TwinTakeover_9 : (mk mRUN []).pins.side = false ∧ after (.peerAliveChange true) (mk mRUN []) (fun t => t.pins.aliveHigh ∧ t.on R.TWN_STAT_PEER_ALIVE 0 ∧ t.pins.netLow = t.activeWanted) = true := by decide +kernel

theorem witness_TwinTakeover_10 : (mk mRUN []).standby = false ∧ after (.activeNetChange true) (mk mRUN []) (fun t => t.on R.TWN_STAT_NET_LOW 0 ∧ t.on R.TWN_STAT_ON_AIR 0) = true := by decide +kernel

theorem witness_TwinTakeover_11 : stTake.on R.TWN_STAT_ON_AIR 0 = false ∧ stTake.pins.side = false ∧ after (.activeNetChange true) stTake (fun t => t.twnX.takeAt = some (7, false)) = true := by decide +kernel

theorem witness_TwinTakeover_12 : stLone.twin = false ∧ after (.activeNetChange true) stLone (fun t => t = stLone) = true := by decide +kernel

theorem witness_TwinTakeover_13 : stLone.twin = false ∧ after (.peerLossTimeout) stLone (fun t => t = stLone) = true := by decide +kernel

/-- A paired card with a notice on MB15 and one in flight. -/
def stLoss : State := { stTwn mRUN prINSTEP [] with mbq := [(15, [⟨2, 0, 1, 7, 9⟩])], mbAir := [(3, ⟨2, 0, 0, 8, 0⟩)] }

theorem witness_TwinTakeover_14 : stLoss.paired = true ∧ after (.peerLossTimeout) stLoss (fun t => t.pair = prLOST ∧ t.mbAir = [] ∧ t.mb 15 = [] ∧ t.rd R.TWN_STAT_IDENT 0 = 0 ∧ t.rd R.MBX_TX_DROP_COUNT 1 = 2) = true := by decide +kernel

theorem witness_TwinTakeover_15 : (stLoss.mb (12 + 3)).length = 1 ∧ after (.twinMbForward 3 false) stLoss (fun t => t.mb 15 = [] ∧ t.mbAir.length = 2 ∧ t.outs = [.twin 11 [3, 1, 7, 9]]) = true := by decide +kernel

theorem witness_TwinTakeover_16 : (stLoss.mb (12 + 3)).length = 1 ∧ after (.twinMbForward 3 true) stLoss (fun t => t = stLoss) = true := by decide +kernel

theorem witness_TwinTakeover_17 : check (stLoss.mbPostChecks 4 (twinMb 3)) = .ok ∧ after (.twinNoticeReceived 3 (2 ^ 16) 7 9) stLoss (fun t => t.mb 11 = [⟨pTwin, 0, 0, 7, 9⟩] ∧ t.outs = [.twin 12 [3, 0]]) = true := by decide +kernel

theorem witness_TwinTakeover_18 : check ({ stLoss with mbq := [(11, List.replicate 32 ⟨2, 0, 1, 7, 9⟩)] }.mbPostChecks 4 (twinMb 3)) = .busy ∧ after (.twinNoticeReceived 3 0 7 9) { stLoss with mbq := [(11, List.replicate 32 ⟨2, 0, 1, 7, 9⟩)] } (fun t => t.outs = [.twin 12 [3, Status.busy.code]]) = true := by decide +kernel

theorem witness_TwinTakeover_19 : stLoss.mbAir = [(3, ⟨2, 0, 0, 8, 0⟩)] ∧ after (.twinCompletionReceived 3 true 8) stLoss (fun t => t.mbAir = [] ∧ t.rd R.MBX_TX_DELIV_COUNT 1 = 1) = true := by decide +kernel

theorem witness_TwinTakeover_20 : stLoss.mbAir = [(3, ⟨2, 0, 0, 8, 0⟩)] ∧ after (.twinCompletionReceived 3 false 8) stLoss (fun t => t.rd R.MBX_TX_DROP_COUNT 1 = 1 ∧ t.rd R.MBX_TX_DROP_TAG_TAG 1 = 8) = true := by decide +kernel

theorem witness_TwinTakeover_21 : (mk mRUN []).mbAir = [] ∧ after (.twinCompletionReceived 3 false 8) (mk mRUN []) (fun t => t = mk mRUN []) = true := by decide +kernel

theorem witness_TwinCompare_20 : ({ stTwn mMIRROR prINSTEP [] with swPend := [(0, 0)] } : State).swPend.find? (fun e => e.1 == 0) = some (0, 0) ∧ after (.decWaitExpiry 0) { stTwn mMIRROR prINSTEP [] with swPend := [(0, 0)] } (fun _ => true) = true := by decide +kernel

def stSec : State := mk mRUN [(R.SEC_FW_SVN_SVN, 0, 64), (R.SEC_ROLLBACK_COUNT, 0, 62)]

theorem witness_SecurityCommands_1 : check (stSec.accessChecks pPF 0x70010 true) = .ok ∧ after (.svnCommit pPF 64) stSec (fun t => t.on R.SEC_ROLLBACK_BURN 0 ∧ t.burnTo = 64 ∧ t.resp = ⟨0, 0⟩) = true := by decide +kernel

theorem witness_SecurityCommands_2 : check (stSec.accessChecks pPF 0x70010 true) = .ok ∧ after (.svnCommit pPF 62) stSec (fun t => t.on R.SEC_ROLLBACK_BURN 0 = false ∧ t.burnTo = 0 ∧ t.resp = ⟨0, 0⟩) = true := by decide +kernel

theorem witness_SecurityCommands_3 : check (stSec.accessChecks pPF 0x70010 true) = .ok ∧ after (.svnCommit pPF 65) stSec (fun t => t.resp = ⟨Status.decode.code, 0⟩) = true := by decide +kernel

theorem witness_SecurityCommands_4 : check ((stSec.wrk R.SEC_FW_SVN_SVN 0 0 63).accessChecks 5 0x70010 true) = .ok ∧ after (.svnCommit 5 64) (stSec.wrk R.SEC_FW_SVN_SVN 0 0 63) (fun t => t.resp = ⟨8, 0⟩) = true := by decide +kernel

/-- The fuse counter is at `n` and a burn to 64 runs. -/
def stBurn (n : Nat) : State := let s := stSec.wrk R.SEC_ROLLBACK_BURN 0 0 1; { s with burnTo := 64, fuses := { s.fuses with rollback := n } }

theorem witness_SecurityCommands_5 : check ((stBurn 63).accessChecks 5 0x70010 true) = .ok ∧ after (.svnCommit 5 64) (stBurn 63) (fun t => t.resp = ⟨Status.busy.code, 0⟩) = true := by decide +kernel

theorem witness_SecurityCommands_6 : (stBurn 63).fuses.lost = [] ∧ after (.rollbackBitBurn) (stBurn 63) (fun t => t.fuses.rollback = 64 ∧ t.on R.SEC_ROLLBACK_BURN 0 = false ∧ bitAt (t.rd R.SEC_EVT_FLAGS 0) 0 ∧ t.rd R.SEC_ROLLBACK_COUNT 0 = 64) = true := by decide +kernel

theorem witness_SecurityCommands_7 : (stBurn 62).fuses.lost = [] ∧ after (.rollbackBitBurn) (stBurn 62) (fun t => t.fuses.rollback = 63 ∧ t.on R.SEC_ROLLBACK_BURN 0) = true := by decide +kernel

theorem witness_SecurityCommands_8 : stSec.on R.SEC_ROLLBACK_BURN 0 = false ∧ after (.rollbackBitBurn) stSec (fun t => t = stSec) = true := by decide +kernel

/-- Session 1 has an ATTEST taken, with a payload of `n` bytes. -/
def stAtt (n : Nat) : State := took stSess 0x90 n 0 (List.replicate 32 0)

theorem witness_SecurityCommands_9 : (stAtt 384).taking 0 0x90 (cmdOf (stAtt 384)) ∧ check ((stAtt 384).admChecks 0 (cmdOf (stAtt 384)) 384 384 (List.replicate 384 7) true true) = .ok ∧ after (.attest 0 (List.replicate 384 7)) (stAtt 384) (fun t => t.attQ = [(0, List.replicate 32 7)]) = true := by decide +kernel

theorem witness_SecurityCommands_10 : check ((stAtt 385).admChecks 0 (cmdOf (stAtt 385)) 384 384 (List.replicate 385 7) true true) = .lenExceeds ∧ after (.attest 0 (List.replicate 385 7)) (stAtt 385) (fun t => Completed t 0 (cmdOf (stAtt 385)) .lenExceeds 0 0) = true := by decide +kernel

theorem witness_SecurityCommands_report : { stAtt 384 with attQ := [(0, [])] }.taking 0 0x90 (cmdOf (stAtt 384)) := by decide +kernel

/-- A domain is selected and in a state. -/
def stDom (d st : Nat) : State := (mk mRUN [(R.MGT_DOM_SEL_DOMAIN, 0, d)]).setDom d ⟨st, 255, false⟩

theorem witness_DomainsAndPort_1 : check ((stDom 0x1DF 0).accessChecks pPF 0x10014 true) = .ok ∧ check ((stDom 0x1DF 0).domChecks 0x1DF 0) = .ok ∧ after (.domainReset pPF) (stDom 0x1DF 0) (fun t => (t.domain 0x1DF).st = 3 ∧ (t.domain 0x1DF).resets = 255) = true := by decide +kernel

theorem witness_DomainsAndPort_2 : check ((stDom 0x1DF 2).accessChecks pPF 0x10014 true) = .ok ∧ check ((stDom 0x1DF 2).domChecks 0x1DF 0) = .ok ∧ after (.domainReset pPF) (stDom 0x1DF 2) (fun t => (t.domain 0x1DF).st = 2) = true := by decide +kernel

theorem witness_DomainsAndPort_3 : check ((stDom 0x1DF 1).accessChecks pPF 0x10014 true) = .ok ∧ check ((stDom 0x1DF 1).domChecks 0x1DF 1) = .ok ∧ after (.domainOn pPF) (stDom 0x1DF 1) (fun t => (t.domain 0x1DF).st = 0) = true := by decide +kernel

theorem witness_DomainsAndPort_4 : check ((stDom 0x1DF 2).accessChecks pPF 0x10014 true) = .ok ∧ check ((stDom 0x1DF 2).domChecks 0x1DF 1) = .ok ∧ after (.domainOn pPF) (stDom 0x1DF 2) (fun t => (t.domain 0x1DF).st = 0) = true := by decide +kernel

theorem witness_DomainsAndPort_5 : check ((stDom 0x1DF 0).accessChecks pPF 0x10014 true) = .ok ∧ check ((stDom 0x1DF 0).domChecks 0x1DF 2) = .ok ∧ after (.domainSleep pPF) (stDom 0x1DF 0) (fun t => (t.domain 0x1DF).st = 1) = true := by decide +kernel

theorem witness_DomainsAndPort_6 : check ((stDom 0x1DF 0).accessChecks pPF 0x10014 true) = .ok ∧ check ((stDom 0x1DF 0).domChecks 0x1DF 3) = .ok ∧ after (.domainOff pPF) (stDom 0x1DF 0) (fun t => (t.domain 0x1DF).st = 2) = true := by decide +kernel

theorem witness_DomainsAndPort_7 : check ((stDom 9 0).accessChecks pPF 0x10014 true) = .ok ∧ check ((stDom 9 0).domChecks 9 0) = .decode ∧ after (.domainReset pPF) (stDom 9 0) (fun t => t.resp = ⟨0xB, 0⟩) = true := by decide +kernel

theorem witness_DomainsAndPort_8 : check ((stDom 5 0).accessChecks pPF 0x10014 true) = .ok ∧ check ((stDom 5 0).domChecks 5 3) = .decode ∧ after (.domainOff pPF) (stDom 5 0) (fun t => t.resp = ⟨0xB, 0⟩) = true := by decide +kernel

/-- The same with the rails in range. -/
def stRails (d st : Nat) : State := { stDom d st with pins := { State.reset.pins with railsOk := true } }

theorem witness_DomainsAndPort_9 : ((stRails 0x21 3).domain 0x21).st = 3 ∧ after (.domainResetEnd 0x21) (stRails 0x21 3) (fun t => (t.domain 0x21).st = 0 ∧ (t.domain 0x21).resets = 255) = true := by decide +kernel

theorem witness_DomainsAndPort_10 : ((stDom 0x21 3)).pins.railsOk = false ∨ true ∧ after (.domainResetEnd 0x22) (stRails 0x21 3) (fun t => t = stRails 0x21 3) = true := by decide +kernel

theorem witness_DomainsAndPort_11 : check ((stDom 0x29 0).domChecks 0x29 0) = .ok ∧ after (.mgmtDomainReset .smbus 0x29) (stDom 0x29 0) (fun t => (t.domain 0x29).st = 3 ∧ t.portStat .smbus = ⟨0, 0x12, false, false, 0⟩) = true := by decide +kernel

theorem witness_DomainsAndPort_12 : check ((stDom 9 0).domChecks 9 0) = .decode ∧ after (.mgmtDomainReset .smbus 9) (stDom 9 0) (fun t => (t.portStat .smbus).status = 0xB) = true := by decide +kernel

theorem witness_DomainsAndPort_13 : (mk mRUN []).isHot = false ∧ after (.mgmtDomainReset .smbus 0x1FF) (mk mRUN []) (fun _ => true) = true := by decide +kernel

theorem witness_DomainsAndPort_14 : after (.mgmtIdRead .mspi) (mk mRUN []) (fun t => t.outs = [.port .mspi (mk mRUN []).idBlock]) = true := by decide +kernel

def stFlog : State := ((mk mRUN []).flog 0 0x0012 .ok true [1])

theorem witness_DomainsAndPort_15 : stFlog.rd R.MGT_FLOG_WR_INDEX 0 = 1 ∧ after (.flogRead .mspi 0) stFlog (fun t => t.outs.head? = some (.port .mspi (stFlog.flogBytes 0)) ∧ (stFlog.flogBytes 0).take 4 = [0, 0, 0, 0]) = true := by decide +kernel

theorem witness_DomainsAndPort_16 : stFlog.rd R.MGT_FLOG_WR_INDEX 0 ≤ 1 ∧ after (.flogRead .mspi 1) stFlog (fun t => t.outs.head? = some (.port .mspi ([255, 255, 255, 255] ++ List.replicate 28 0))) = true := by decide +kernel

theorem witness_DomainsAndPort_17 : after (.mgmtStatus .mspi) (stBusyPort) (fun t => t.outs = [.port .mspi [0, 0, 0x14, 0x21, 0, 0, 0, 0]]) = true := by decide +kernel

theorem witness_DomainsAndPort_18 : after (.mgmtTemp .mspi) (mk mRUN [(R.MGT_TEMP_TJ, 0, 0x190)]) (fun t => t.outs = [.port .mspi [0x90, 1]]) = true := by decide +kernel

theorem witness_DomainsAndPort_19 : ((stDom 0x29 0).portStat .mspi).busy = false ∧ after (.mgmtRegRead .mspi 0x10010) (stDom 0x29 0) (fun t => t.portStat .mspi = ⟨0, 0x30, false, false, 0x29⟩) = true := by decide +kernel

theorem witness_DomainsAndPort_20 : ((stDom 0x29 0).portStat .mspi).busy = false ∧ after (.mgmtRegWrite .mspi 0x50000 (3 * 2 ^ 12)) (stDom 0x29 0) (fun t => t.rd R.REF_CFG_ACQ_BW 0 = 3 ∧ t.portStat .mspi = ⟨0, 0x31, false, false, 0⟩) = true := by decide +kernel

theorem witness_DomainsAndPort_21 : (mk mRUN []).limpLatch = false ∧ (mk mRUN []).bypassChecks 95 94 true = .ok ∧ after (.mgmtBypass .mspi 95 (94 + 128)) (mk mRUN []) (fun t => t.on R.LNE_BYPASS_STAT_ACTIVE 95 ∧ t.rd R.LNE_BYPASS_STAT_SRC 95 = 94) = true := by decide +kernel

theorem witness_DomainsAndPort_22 : (mk mRUN []).bypassChecks 96 94 true = .decode ∧ after (.mgmtBypass .mspi 96 (94 + 128)) (mk mRUN []) (fun t => (t.portStat .mspi).status = 0xB) = true := by decide +kernel

theorem witness_DomainsAndPort_23 : { mk mRUN [] with limpLatch := true }.limpLatch = true ∧ after (.mgmtBypass .mspi 95 94) { mk mRUN [] with limpLatch := true } (fun t => (t.portStat .mspi).status = Status.domainOff.code) = true := by decide +kernel

theorem witness_DomainsAndPort_24 : (mk mRUN []).pair = prSOLO ∧ after (.twinYield .mspi) (mk mRUN []) (fun t => t.on R.TWN_CTL_TAKE_INH 0 ∧ t.pins.netLow = false ∧ (t.portStat .mspi).opcode = 0x13) = true := by decide +kernel

theorem witness_DomainsAndPort_25 : stLone.twin = false ∧ after (.twinYield .mspi) stLone (fun t => (t.portStat .mspi).status = Status.unitAbsent.code) = true := by decide +kernel

theorem witness_DomainsAndPort_26 : (stBusyPort.portStat .mspi).busy = true ∧ after (.twinYield .mspi) stBusyPort (fun t => (t.portStat .mspi).refused) = true := by decide +kernel

theorem witness_DomainsAndPort_27 : after (.voidTransaction .mspi 0x1FF) stBusyPort (fun t => t.portStat .mspi = ⟨0xB, 0xFF, true, false, 0⟩) = true := by decide +kernel

theorem witness_PowerUpSequence_1 : stSec.on R.SEC_ROLLBACK_BURN 0 = false ∧ after (.powerUp 31 true) stSec (fun t => t.modeCode = mBOOT ∧ t.pins.boardId = 15 ∧ t.pins.side ∧ t.regs = State.reset.regs) = true := by decide +kernel

/-- In BOOT with the rails in range, some steps done. -/
def stBoot (steps : Nat) : State := { mk mBOOT [] with bootStep := steps, pins := { State.reset.pins with railsOk := true, perstHigh := true } }

theorem witness_PowerUpSequence_2 : (stBoot 0).bootStep = 0 ∧ after (.railsInRange false true) (stBoot 0) (fun t => t.rd R.NVS_STAT_VCAP_OK 0 = 1 ∧ (t.domain 0x1DF).st = 3 ∧ t.pins.railsOk = false) = true := by decide +kernel

theorem witness_PowerUpSequence_3 : (stBoot 1).bootStep ≠ 0 ∧ after (.railsInRange false true) (stBoot 1) (fun t => t.pins.railsOk) = true := by decide +kernel

theorem witness_PowerUpSequence_4 : bitAt (stBoot 0).bootStep 0 = false ∧ (stBoot 0).pins.railsOk ∧ after (.fuseLoadDone true 0 []) (stBoot 0) (fun t => t.bootStep = 1) = true := by decide +kernel

theorem witness_PowerUpSequence_5 : (mk mRUN []).modeCode ≠ mBOOT ∧ after (.fuseLoadDone false 0 []) (mk mRUN []) (fun t => t = mk mRUN []) = true := by decide +kernel

theorem witness_PowerUpSequence_6 : (stBoot 5).slotNext none none = 0 ∧ (stBoot 5).slotCode none true true true = 7 ∧ (stBoot 5).slotTried 1 = false ∧ after (.imageCheckDone none none true true true 5) (stBoot 5) (fun t => t.modeCode = mBOOT ∧ t.slotTried 0 ∧ t.slotNext none none = 1) = true := by decide +kernel

theorem witness_PowerUpSequence_7 : ((stBoot 5).wrk R.SEC_BOOT_STAT_STAT_B 0 0 7).slotTried 1 = true ∧ ((stBoot 5).wrk R.SEC_BOOT_STAT_STAT_B 0 0 7).slotNext none none = 0 ∧ after (.imageCheckDone none none true true true 5) ((stBoot 5).wrk R.SEC_BOOT_STAT_STAT_B 0 0 7) (fun _ => true) = true := by decide +kernel

/-- The header of an image of SVN 64 with key 0, whose public key is 32 bytes of 0. -/
def header : List Nat :=
  leBytes 4 0xE7A00096 ++ [1, 0, 0, 0] ++ leBytes 4 4096 ++ leBytes 4 64 ++ leBytes 4 9 ++ List.replicate 44 0 ++ List.replicate 32 0
    ++ List.replicate 64 5 ++ List.replicate 64 0 ++ List.replicate 32 0
theorem test_header_form : header.length = 256 ∧ hdrOk header = true := by decide +kernel

theorem witness_PowerUpSequence_8 : bitAt (stBoot 1).bootStep 2 = false ∧ after (.hbmTrainDone [] 64) (stBoot 1) (fun t => t.bootStep = 5 ∧ t.rd R.MGT_BOOT_TIME_TRAIN_MS 0 = 63) = true := by decide +kernel

theorem witness_PowerUpSequence_9 : (stBoot 1).pins.railsOk ∧ after (.hbmTrainDone [(1, 15)] 64) (stBoot 1) (fun _ => true) = true := by decide +kernel

theorem witness_PowerUpSequence_10 : bitsOf (stBoot 7).bootStep 0 4 = 7 ∧ (stBoot 7).pairStop = 0 ∧ after (.lockstepCheckDone true false) (stBoot 7) (fun t => t.bootStep = 15 ∧ t.pairStop = 2 ∧ t.modeCode = mBOOT) = true := by decide +kernel

theorem witness_PowerUpSequence_11 : bitsOf (stBoot 7).bootStep 0 4 = 7 ∧ after (.lockstepCheckDone false false) (stBoot 7) (fun _ => true) = true := by decide +kernel

theorem witness_PowerUpSequence_12 : ((stBoot 15).wrk R.NVS_STAT_STATE 0 0 nsREADY).nvsState ≠ nsRECALL ∧ bitsOf (stBoot 15).bootStep 0 4 = 15 ∧ after (.firmwareReady 5) ((stBoot 15).wrk R.NVS_STAT_STATE 0 0 nsREADY) (fun _ => true) = true := by decide +kernel

theorem witness_PowerUpSequence_13 : (mk mRUN []).modeCode ≠ mBOOT ∧ after (.firmwareReady 5) (mk mRUN []) (fun t => t = mk mRUN []) = true := by decide +kernel

/-- The fuses are loaded; the host interface is in a state. -/
def stPerst (st : Nat) : State := ((stBoot 1).wrk R.SEC_BOOT_STAT_FUSE_OK 0 0 1).setDom 5 ⟨st, 255, false⟩

theorem witness_PowerUpSequence_14 : ((stPerst 3).domain 5).st = 3 ∧ (stPerst 3).on R.SEC_BOOT_STAT_FUSE_OK 0 = true ∧ after (.perstRise) (stPerst 3) (fun t => (t.domain 5).st = 0) = true := by decide +kernel

theorem witness_PowerUpSequence_15 : (stBoot 1).on R.SEC_BOOT_STAT_FUSE_OK 0 = false ∧ after (.perstRise) (stBoot 1) (fun t => t.pins.perstHigh) = true := by decide +kernel

theorem witness_PowerUpSequence_16 : ((stPerst 0).domain 5).st = 0 ∧ after (.perstFall) (stPerst 0) (fun t => (t.domain 5).st = 3 ∧ (t.domain 5).resets = 255) = true := by decide +kernel

/-- A MODE_SET of session 1 to a mode is taken in a mode. -/
def stModeSet (m tgt : Nat) : State := took (stSess.wrk R.MGT_MODE_MODE 0 0 m) 0x80 0 0 (tgt :: List.replicate 31 0)

theorem witness_ModeChanges_1 : (stModeSet mIDLE mRUN).taking 0 0x80 (cmdOf (stModeSet mIDLE mRUN)) ∧ (stModeSet mIDLE mRUN).modePending = false ∧ check ((stModeSet mIDLE mRUN).admChecks 0 (cmdOf (stModeSet mIDLE mRUN)) 0 0 [] true true) = .ok ∧ (stModeSet mIDLE mRUN).modeCode = mIDLE ∧ after (.modeSet 0 []) (stModeSet mIDLE mRUN) (fun t => t.modePending ∧ t.modeCode = mIDLE ∧ t.modeFrom = 1) = true := by decide +kernel

theorem witness_ModeChanges_2 : (stModeSet mSERVICE mIDLE).taking 0 0x80 (cmdOf (stModeSet mSERVICE mIDLE)) ∧ (stModeSet mSERVICE mIDLE).modePending = false ∧ check ((stModeSet mSERVICE mIDLE).admChecks 0 (cmdOf (stModeSet mSERVICE mIDLE)) 0 0 [] true true) = .ok ∧ (stModeSet mSERVICE mIDLE).modeCode = mSERVICE ∧ after (.modeSet 0 []) (stModeSet mSERVICE mIDLE) (fun t => t.modePending ∧ t.modeCode = mSERVICE) = true := by decide +kernel

theorem witness_ModeChanges_3 : (stModeSet mRUN mSERVICE).taking 0 0x80 (cmdOf (stModeSet mRUN mSERVICE)) ∧ (stModeSet mRUN mSERVICE).modePending = false ∧ check ((stModeSet mRUN mSERVICE).admChecks 0 (cmdOf (stModeSet mRUN mSERVICE)) 0 0 [] true true) = .ok ∧ (stModeSet mRUN mSERVICE).modeCode = mRUN ∧ after (.modeSet 0 []) (stModeSet mRUN mSERVICE) (fun t => t.cpl.status = Status.mode.code ∧ t.taken = []) = true := by decide +kernel

theorem witness_ModeChanges_4 : (stModeSet mRUN mLIMP).taking 0 0x80 (cmdOf (stModeSet mRUN mLIMP)) ∧ (stModeSet mRUN mLIMP).modePending = false ∧ check ((stModeSet mRUN mLIMP).admChecks 0 (cmdOf (stModeSet mRUN mLIMP)) 0 0 [] true true) = .ok ∧ (stModeSet mRUN mLIMP).modeCode = mRUN ∧ after (.modeSet 0 []) (stModeSet mRUN mLIMP) (fun _ => true) = true := by decide +kernel

def stTrans : State := { ((stModeSet mIDLE mRUN).wrk R.MGT_MODE_PENDING 0 0 1).wrk R.MGT_MODE_TARGET 0 0 mRUN with modeFrom := 1 }

theorem witness_ModeChanges_5 : stTrans.modePending = true ∧ stTrans.taking 0 0x80 (cmdOf stTrans) ∧ after (.modeTransitionDone) stTrans (fun _ => true) = true := by decide +kernel

def stTransI : State := (stTln 0 lcRUNNING).wrk R.MGT_MODE_PENDING 0 0 1 |>.wrk R.MGT_MODE_TARGET 0 0 mIDLE

theorem witness_ModeChanges_6 : stTransI.outputsRun = true ∧ stTransI.modePending = true ∧ after (.modeTransitionDone) stTransI (fun t => t = stTransI) = true := by decide +kernel

theorem witness_ModeChanges_7 : check ((mk mRUN []).accessChecks pPF 0x10014 true) = .ok ∧ (mk mRUN []).isHot = false ∧ after (.deviceReset pPF 0x5A0000) (mk mRUN []) (fun _ => true) = true := by decide +kernel

def stHot : State := { mk mRUN [] with temps := [(15, 2000)] }

theorem witness_ModeChanges_8 : check (stHot.accessChecks pPF 0x10014 true) = .ok ∧ stHot.isHot = true ∧ after (.deviceReset pPF 0x5A0000) stHot (fun t => t.pins.coolWait = 3 ∧ t.modeCode = mRUN) = true := by decide +kernel

theorem witness_ModeChanges_9 : check ((mk mRUN []).accessChecks pPF 0x10014 true) = .ok ∧ after (.deviceReset pPF 0x5B0000) (mk mRUN []) (fun t => t.resp = ⟨0xB, 0⟩ ∧ t.modeCode = mRUN) = true := by decide +kernel

theorem witness_ModeChanges_10 : (mk mRUN []).pairStop = 0 ∧ after (.lockstepSplit 1 none) (mk mRUN []) (fun t => t.pairStop = 2 ∧ t.modeCode = mRUN) = true := by decide +kernel

theorem witness_ModeChanges_11 : { mk mRUN [] with pairStop := 1 }.modeCode ≠ mLIMP ∧ after (.lockstepSplit 1 (some 4)) { mk mRUN [] with pairStop := 1 } (fun _ => true) = true := by decide +kernel

theorem witness_ModeChanges_12 : { mk mRUN [] with pairStop := 1 }.pairStop = 1 ∧ after (.lockstepSplit 0 none) { mk mRUN [] with pairStop := 1 } (fun t => t = { mk mRUN [] with pairStop := 1 }) = true := by decide +kernel

def stRejoin : State := { mk mRUN [] with pairStop := 1, dom := [(0x10, ⟨0, 1, false⟩)] }

theorem witness_ModeChanges_13 : (stRejoin.domain 0x10).resets ≠ 0 ∧ after (.pairRejoin) stRejoin (fun t => t.pairStop = 0) = true := by decide +kernel

theorem witness_ModeChanges_14 : (mk mRUN []).pairStop = 0 ∧ after (.pairRejoin) (mk mRUN []) (fun t => t = mk mRUN []) = true := by decide +kernel

/-- Domain 1DF, pipeline 95, is selected in a mode. -/
def stSvc (m : Nat) : State := mk m [(R.MGT_DOM_SEL_DOMAIN, 0, 0x1DF)]

theorem witness_ModeChanges_15 : check ((stSvc mSERVICE).accessChecks pPF 0x10030 true) = .ok ∧ svcFits (bitsOf (2 ^ 24) 24 4) 0x1DF = true ∧ (stSvc mSERVICE).domIdle 0x1DF = true ∧ isDomain 0x1DF = true ∧ (stSvc mSERVICE).domPresent 0x1DF = true ∧ after (.svcTestStart pPF (2 ^ 24)) (stSvc mSERVICE) (fun _ => true) = true := by decide +kernel

theorem witness_ModeChanges_16 : check ((stSvc mRUN).accessChecks pPF 0x10030 true) = .ok ∧ svcFits (bitsOf (2 ^ 24) 24 4) 0x1DF = true ∧ (stSvc mRUN).domIdle 0x1DF = true ∧ isDomain 0x1DF = true ∧ (stSvc mRUN).domPresent 0x1DF = true ∧ after (.svcTestStart pPF (2 ^ 24)) (stSvc mRUN) (fun t => t.resp = ⟨Status.mode.code, 0⟩) = true := by decide +kernel

def stSvcRun : State := { mk mSERVICE [(R.MGT_DOM_SEL_DOMAIN, 0, 1)] with svcRun := some (2, 1) }

theorem witness_ModeChanges_17 : stSvcRun.rd R.MGT_DOM_SEL_DOMAIN 0 = 1 ∧ stSvcRun.domPresent 1 = true ∧ after (.svcTestDone false [(0, 1)]) stSvcRun (fun t => t.rd R.MGT_SVC_STATE 0 = 3 ∧ t.svcRun = none) = true := by decide +kernel

theorem witness_ModeChanges_18 : (mk mRUN []).svcRun = none ∧ after (.svcTestDone true []) (mk mRUN []) (fun t => t = mk mRUN []) = true := by decide +kernel

theorem witness_ModeChanges_19 : (mk mRUN []).warned = false ∧ after (.tempSample 15 1600) (mk mRUN []) (fun t => t.rd R.MGT_TEMP_SENSOR 0 = 15 ∧ t.rd R.MGT_TEMP_TJ 0 = 1600 ∧ t.isHot ∧ t.warned ∧ bitAt (t.rd R.MGT_EVT_FLAGS 0) 3) = true := by decide +kernel

theorem witness_ModeChanges_20 : after (.tempSample 16 1600) (mk mRUN []) (fun t => t = mk mRUN []) = true := by decide +kernel

theorem witness_ModeChanges_21 : (mk mRUN []).modeCode ≠ mLIMP ∧ after (.thermalTrip 3 2000) (mk mRUN []) (fun _ => true) = true := by decide +kernel

theorem witness_ModeChanges_22 : ((mk mRUN []).portStat .mspi).busy = false ∧ after (.forceLimp .mspi 0x4C494D50) (mk mRUN []) (fun _ => true) = true := by decide +kernel

theorem witness_ModeChanges_23 : ((mk mRUN []).portStat .mspi).busy = false ∧ after (.forceLimp .mspi 0) (mk mRUN []) (fun t => (t.portStat .mspi).status = 0xB ∧ t.modeCode = mRUN) = true := by decide +kernel

theorem witness_ModeChanges_24 : (mk mLIMP []).modeCode = mLIMP ∧ after (.forceLimp .smbus 0x4C494D50) (mk mLIMP []) (fun t => (t.portStat .smbus).status = Status.mode.code) = true := by decide +kernel

def stJtag : State := mk mRUN [(R.MBX_LK_OWNER, 15, 0x30), (R.MBX_LK_OWNER, 14, 2), (R.MBX_EPOCH_B_DEBUG, 0, 255), (R.MBX_TX_TAG_TAG, 5, 9)]

theorem witness_ModeChanges_25 : after (.jtagTestLogicReset) stJtag (fun t => t.rd R.MBX_LK_OWNER 15 = 0 ∧ t.rd R.MBX_LK_OWNER 14 = 2 ∧ t.rd R.MBX_EPOCH_B_DEBUG 0 = 0 ∧ t.rd R.MBX_TX_TAG_TAG 5 = 0) = true := by decide +kernel

/-- What a control core may do in IDLE. -/
def stIdle : State := mk mIDLE []

theorem witness_ChecksInOrder_1 : (∀ e ∈ [(true, Status.busy), (false, Status.decode), (true, Status.mode)], e.2 ≠ .ok)
    ∧ check [(true, .busy), (false, .decode), (true, .mode)] = .mode := by decide +kernel

theorem witness_RefusedAccess_1 : isPrincipal 2 = true ∧ check (State.reset.accessChecks 2 0x100000 true ++ []) = .notReady
    ∧ (State.reset.gate 2 0x100000 true [] id).resp = ⟨9, 0⟩ := by decide +kernel

theorem witness_PlainRegisterWrite_1 : (regAt 2 0x60004).any (fun (r, u, k) => decide (stIdle.plainWrite 2 0x60004 1 r u k
    ∧ stIdle.reached 2 0x60004 true ∧ check (stIdle.writeChecks 2 0x60004 1 r u k) = .ok)) = true := by decide +kernel

def stFlag : State := mk mIDLE [(R.LNE_EVT_FLAGS, 95, 7)]

theorem witness_FlagClears_1 :
    (regAt 2 0x15F020).any (fun (r, u, k) => decide (u = 95 ∧ k = 0 ∧ (r.flds.find? (fun f => f.acc == .w1c)) = some R.LNE_EVT_FLAGS)) = true
    ∧ writeS0 2 0x15F020 3 stFlag = none ∧ writeUnit 2 0x15F020 3 stFlag = none ∧ check (stFlag.fabricChecks 2 0x15F020 true) = .ok
    ∧ stFlag.mayWrite 2 0x15F020 = true ∧ stFlag.emptyAt 0x15F020 = false
    ∧ after (.w1cFlagClear 2 0x15F020 4 3 1) stFlag (fun t => t.rd R.LNE_EVT_FLAGS 95 = 5) = true := by decide +kernel

def stEpoch : State := { stIdle with epoch := 5000000007 }

theorem witness_HoldingReads_1 : stEpoch.reached pPF 0x50034 false ∧ after (.epochNsRead pPF) stEpoch (fun t => t.resp = ⟨0, 7⟩ ∧ tget 0 t.hold (holdKey pPF 0x50034) = 5) = true := by decide +kernel

theorem witness_HoldingReads_2 : stEpoch.reached pPF 0x50038 false ∧ stEpoch.reached pPF 0x5003C false ∧ after (.counterLowRead pPF 0x50038 4 0) { stEpoch with hold := [(holdKey pPF 0x50034, 2 ^ 32 + 5)] } (fun t => t.resp = ⟨0, 5⟩) = true := by decide +kernel

theorem witness_HoldingReads_counter : inCounters 0x50014 ∧ inCounters 0x50018
    ∧ (regAt 2 0x50014).any (fun (r, _, _) => counterLows.contains r.base) = true
    ∧ (regAt 2 0x50018).any (fun (r, _, _) => !counterLows.contains r.base && counterLows.contains (r.base - 4)) = true
    ∧ stIdle.reached 2 0x50014 false ∧ stIdle.reached 2 0x50018 false := by decide +kernel

def stLine : State := (mk mRUN [(R.REF_TLN_CFG_FMT, 15, 0x12), (R.REF_TLN_STAT_STATE, 15, 2)]).setTln 15 fun x => { x with starting := false, line := 8, n := 3 }

theorem witness_TimelineLines_1 : stLine.tlnRuns 15 = true ∧ (stLine.tlnX 15).starting = false ∧ (stLine.tlnX 15).line < (stLine.tlnFmt 15).lines ∧ (stLine.tlnX 15).line + 1 ≠ (stLine.tlnFmt 15).sw ∧ after (.timelineLineEvent 15) stLine (fun t => (t.tlnX 15).line = 9) = true := by decide +kernel

def stLastLine : State := stLine.setTln 15 fun x => { x with line := 750 }

theorem witness_TimelineLines_2 : stLastLine.tlnRuns 15 = true ∧ (stLastLine.tlnX 15).starting = false ∧ (stLastLine.tlnFmt 15).lines ≤ (stLastLine.tlnX 15).line ∧ (stLastLine.tlnFmt 15).sw ≠ 1 ∧ stLastLine.on R.REF_TLN_STAT_CUT_PEND 15 = false ∧ stLastLine.tlnErr 15 = 0 ∧ stLastLine.swPend = [] ∧ stLastLine.pair ≠ prSYNC ∧ after (.timelineLineEvent 15) stLastLine (fun t => (t.tlnX 15).line = 1 ∧ (t.tlnX 15).n = 4) = true := by decide +kernel

def stHbm : State := (withSession (mk mIDLE [])).issue kRing 40 1

/-- An allocation of session 1: the storage of ring 40. -/
def stAlloc : State := { stHbm with allocs := [⟨0x10000, 0x10000, objKey kRing 40, false, false⟩] }

theorem witness_HostMemoryAccess_1 : stAlloc.pins.perstHigh = true ∧ check (stAlloc.bar2Checks 0x10 0x1FFFE 2 true) = .ok ∧ after (.hostBar2Access 0 0x1FFFE true [1, 2] 0 0) stAlloc (fun t => t.resp = ⟨0, 0⟩ ∧ memReadBytes t.hbm 0x1FFFE 2 = [1, 2]) = true := by decide +kernel

theorem witness_HostMemoryAccess_2 : check (stAlloc.bar2Checks 0x10 0x10000 4 false) = .ok ∧ (stAlloc.allocAt 0x10000).any (fun x => x.key / 2 ^ 20 ≠ kSurface) ∧ after (.hostBar2Access 0 0x10000 false [] 4 0) { stAlloc with hbm := [(0x10001, 3)] } (fun t => t.resp = ⟨0, 0x300⟩) = true := by decide +kernel

theorem witness_HostMemoryAccess_3 : stAlloc.modeOk ∧ (∀ x ∈ stAlloc.allocs, ¬(x.base ≤ 0x1FFFF ∧ 0x1FFFF + 2 ≤ x.base + x.len ∧ stAlloc.bar2May 0x10 x false = true)) ∧ after (.hostBar2Access 0 0x1FFFF false [] 2 0) stAlloc (fun t => t.resp = ⟨8, 0xFFFF⟩) = true := by decide +kernel

theorem witness_MemoryErrors_1 : stAlloc.pins.perstHigh = true ∧ check (stAlloc.bar2Checks 0x10 0x10027 1 false) = .ok ∧ after (.hbmEccUncorr (.bar2 0) (2 ^ 30 + 0x10027) []) stAlloc (fun t => t.resp.status = Status.eccUncorr.code ∧ t.rd R.MGT_FLOG_WR_INDEX 0 = 1) = true := by decide +kernel

theorem witness_MemoryErrors_2 : check (stAlloc.bar2Checks 0x1F 0x10027 1 false) = .protected' ∧ after (.hbmEccUncorr (.bar2 15) (2 ^ 30 + 0x10027) []) stAlloc (fun t => t.resp.status = 8 ∧ t.evts = []) = true := by decide +kernel

theorem witness_MemoryErrors_3 : stIdle.fwRefuses 2 1 (2 ^ 30) 1 false = none ∧ after (.hbmEccUncorr (.core 0) 0x27 []) stIdle (fun t => t.resp.status = Status.eccUncorr.code) = true := by decide +kernel

theorem witness_MemoryErrors_4 : after (.hbmEccUncorr (.layer 95 7) 0x27 [(3, 4)]) stIdle (fun t => tget [] t.eccPix 767 = [(3, 4)]) = true := by decide +kernel

theorem witness_MemoryErrors_5 : after (.hbmEccUncorr .audio 0x27 [(0, 5)]) { stIdle with aHist := [(0, [(5, 9), (6, 1)])] } (fun t => tget [] t.aHist 0 = [(6, 1)]) = true := by decide +kernel

def stSeq : State := { stIdle with locks := [(64 * 2 + 0x10, false)] }

theorem witness_FabricTimeouts_1 : isCore 2 = true ∧ tfind stSeq.locks (64 * 2 + masterOf 2) = some false ∧ after (.lockTimeout 2 2 0x400000 true) stSeq (fun t => bitAt (t.rd R.FAB_EVT_FLAGS 0) 1 ∧ t.rd R.FAB_ERR_WR_INDEX 0 = 1 ∧ t.lockBroken 2 0x500000) = true := by decide +kernel

theorem witness_FabricTimeouts_2 : (regAt 2 0x60004).any (fun (r, u, k) => decide (stIdle.plainWrite 2 0x60004 1 r u k)) = true ∧ stIdle.reached 2 0x60004 true ∧ after (.registerWrite 2 0x60004 4 1 1) stIdle (fun t => tfind t.locks 16 = some false ∧ t.lockedOut pPF 0x50000) = true := by decide +kernel

theorem witness_FabricTimeouts_3 : check (stSeq.fabricChecks pPF 0x400000 true) = .busy ∧ after (.registerWrite pPF 0x400000 4 1 0) stSeq (fun t => t.resp = Resp.waiting ∧ t.rd R.FAB_ERR_WR_INDEX 0 = 0) = true := by decide +kernel

theorem witness_FabricTimeouts_4 : after (.registerWrite 2 0x400000 4 1 0) { stIdle with locks := [(64 * 2 + 0x10, true)] } (fun t => t.resp = ⟨Status.busy.code, 0⟩ ∧ t.rd R.FAB_ERR_WR_INDEX 0 = 1) = true := by decide +kernel

theorem witness_FabricTimeouts_5 : stIdle.modeCode ≠ mLIMP ∧ after (.fabricTimeout 3 2 0 0x400000 false) { stIdle with segRun := [(3, 14)] } (fun t => tget 0 t.segRun 3 = 15 ∧ t.resp = ⟨Status.notReady.code, 0xFFFF0000 + Status.notReady.code⟩ ∧ t.rd R.FAB_STAT_SEG_FAIL 0 = 0) = true := by decide +kernel

theorem witness_FabricTimeouts_6 : State.reset.modeCode = mBOOT ∧ after (.fabricTimeout 3 2 0 0x400000 true) { State.reset with segRun := [(3, 15)] } (fun _ => true) = true := by decide +kernel

theorem witness_FirewallRegions_1 : stIdle.reached 2 (0x24000 + 16 * 511) true ∧ after (.fwRegionWrite 2 511 0 0x300000) stIdle (fun t => t.rd R.FAB_FW_BASE_LO_BASE 511 = 0x300000 ∧ t.fwX = []) = true := by decide +kernel

def stFw : State := mk mIDLE [(R.FAB_FW_BASE_LO_BASE, 511, 0x300000), (R.FAB_FW_LIM_LO_LIMIT, 511, 0x300FFF)]

theorem witness_FirewallRegions_2 : stFw.reached 2 (0x24004 + 16 * 511) true ∧ after (.fwRegionWrite 2 511 1 0xA0001000) stFw (fun t => t.on R.FAB_FW_BASE_HI_ENABLE 511 ∧ t.rd R.FAB_FW_BASE_HI_OWNER 511 = 0x10 ∧ tget (0, 0) t.fwX 511 = (0x300000, 0x300FFF)) = true := by decide +kernel

theorem witness_FirewallRegions_3 : stIdle.reached 2 0x24030 true ∧ after (.fwRegionWrite 2 3 0 5) stIdle (fun t => t.fwX = [] ∧ t.rd R.FAB_FW_BASE_LO_BASE 3 = stIdle.rd R.FAB_FW_BASE_LO_BASE 3) = true := by decide +kernel

def stFwOn : State := { stFw.wrk R.FAB_FW_BASE_HI_ENABLE 511 0 1 with fwX := [(511, (0x300000, 0x300FFF))] }

theorem witness_FirewallRegions_4 : stFwOn.replay = false ∧ stFwOn.fwHit 511 pPF 0 0x300000 4 true = true
    ∧ check ((stFwOn.fabricChecks pPF 0x300000 true).take 4) = .ok ∧ isPrincipal pPF = true ∧ stFwOn.modeCode = mIDLE
    ∧ (stFwOn.gate pPF 0x300000 true [] id).resp = ⟨Status.protected'.code, 0⟩ := by decide +kernel

def stOpen : State := { mk mIDLE [] with taken := [(0, ⟨1, false, 7, 0, 0, 0, 0, 0, [], false⟩)] }

theorem witness_SessionCommands_1 : stOpen.taking 0 1 (cmdOf stOpen) ∧ (cmdOf stOpen).plain ∧ stOpen.modeOk ∧ stOpen.freeIndex kSession 1 = some 1 ∧ after (.sessionOpen 0 []) stOpen (fun t => t.cpl.status = 0 ∧ tfind t.sessPrin 1 = some 0x10) = true := by decide +kernel

def stOpenFull : State := { stOpen with objs := (upFrom 1 1023).map fun i => (objKey kSession i, { State.obj stOpen kSession 1 with live := true }) }

theorem tfind_listed {α : Type} (o : α) (j : Nat) : ∀ n lo, lo ≤ j → j < lo + n →
    tfind ((upFrom lo n).map fun i => (objKey kSession i, o)) (objKey kSession j) = some o := by
  intro n
  induction n with
  | zero => intros; omega
  | succ n ih =>
    intro lo h1 h2
    simp only [upFrom, List.map_cons, tfind]
    by_cases h : lo = j
    · subst h; simp
    · rw [if_neg (by unfold objKey; omega)]; exact ih _ (by omega) (by omega)

theorem firstFree_none (p : Nat → Bool) : ∀ n lo, (∀ i, lo ≤ i → i < lo + n → p i = false) → firstFree p lo n = none := by
  intro n
  induction n with
  | zero => intros; rfl
  | succ n ih =>
    intro lo h
    simp only [firstFree, h lo (Nat.le_refl _) (by omega), Bool.false_eq_true, if_false]
    exact ih _ (fun i h1 h2 => h i (by omega) (by omega))

theorem witness_SessionCommands_full : stOpenFull.taking 0 1 (cmdOf stOpenFull) ∧ stOpenFull.freeIndex kSession 1 = none := by
  refine ⟨by decide +kernel, firstFree_none _ _ _ fun i h1 h2 => ?_⟩
  have hc : stOpenFull.capacity kSession = 1024 := by decide +kernel
  rw [hc] at h2
  unfold State.obj tget stOpenFull
  rw [tfind_listed _ i 1023 1 h1 h2]; rfl

def stClose : State := took stSess 2 0 (stSess.handleOf kSession 1) []

theorem witness_SessionCommands_2 : stClose.taking 0 2 (cmdOf stClose) ∧ stClose.modeOk ∧ stClose.sessOk 0 (cmdOf stClose) ∧ hKind (cmdOf stClose).object = kSession ∧ stClose.badHandle (cmdOf stClose).object = false ∧ stClose.isDraining (cmdOf stClose).object = false ∧ stClose.prinOf 1 = 0x10 ∧ after (.sessionClose 0 []) stClose (fun t => t.cpl.status = 0) = true := by decide +kernel

/-- Sessions 1 and 2 of the physical function; ring 40 is session 1's. -/
def stTwo : State := let s := ((withSession (mk mIDLE [])).issue kSession 2 0).issue kRing 40 1
  { s with sessPrin := [(1, 0x10), (2, 0x10)] }

def stGrant : State := took stTwo 3 0 (stTwo.handleOf kRing 40) (leBytes 4 (stTwo.handleOf kSession 2))

theorem witness_GrantCommands_1 : stGrant.taking 0 3 (cmdOf stGrant) ∧ stGrant.modeOk ∧ stGrant.sessOk 0 (cmdOf stGrant) ∧ stGrant.ownsObj (cmdOf stGrant) kRing ∧ stGrant.badHandle (leField (cmdOf stGrant).inl 0 4) = false ∧ hKind (leField (cmdOf stGrant).inl 0 4) = kSession ∧ after (.grant 0 []) stGrant (fun t => t.cpl.status = 0 ∧ t.mayRead 2 (stTwo.handleOf kRing 40)) = true := by decide +kernel

def stRevoke : State := (let s := stTwo.setObj kRing 40 { stTwo.obj kRing 40 with grants := [2] }; took s 4 0 (stTwo.handleOf kRing 40) (leBytes 4 (stTwo.handleOf kSession 2)))

theorem witness_GrantCommands_2 : stRevoke.taking 0 4 (cmdOf stRevoke) ∧ stRevoke.modeOk ∧ stRevoke.sessOk 0 (cmdOf stRevoke) ∧ stRevoke.ownsObj (cmdOf stRevoke) kRing ∧ stRevoke.mayRead 2 (stTwo.handleOf kRing 40) ∧ after (.revoke 0 []) stRevoke (fun t => t.cpl.status = 0 ∧ t.mayRead 2 (stTwo.handleOf kRing 40) = false) = true := by decide +kernel

def stDestroy : State := took stTwo 5 0 (stTwo.handleOf kRing 40) []

theorem witness_DestroyAndFree_1 : stDestroy.taking 0 5 (cmdOf stDestroy) ∧ stDestroy.modeOk ∧ stDestroy.sessOk 0 (cmdOf stDestroy) ∧ stDestroy.ownsObj (cmdOf stDestroy) kRing ∧ stDestroy.absentHandle (cmdOf stDestroy).object = false ∧ stDestroy.destroyable (cmdOf stDestroy).object = true ∧ stDestroy.useCount kRing 40 = 0 ∧ after (.destroy 0 []) stDestroy (fun t => t.cpl.result = 0 ∧ t.badHandle (stTwo.handleOf kRing 40)) = true := by decide +kernel

def stDrain : State := (let s := stTwo.setObj kRing 40 { stTwo.obj kRing 40 with draining := true }; s.setObj kSession 2 { s.obj kSession 2 with draining := true })

theorem witness_DestroyAndFree_2 : stDrain.badHandle (stTwo.handleOf kRing 40) = false ∧ stDrain.isDraining (stTwo.handleOf kRing 40) = true ∧ stDrain.useCount kRing 40 = 0 ∧ after (.objectFreed (stTwo.handleOf kRing 40)) stDrain (fun t => t.badHandle (stTwo.handleOf kRing 40)) = true := by decide +kernel

theorem witness_DestroyAndFree_3 : stDrain.isDraining (stTwo.handleOf kSession 2) = true ∧ stDrain.sessObjs 2 = [] ∧ after (.objectFreed (stTwo.handleOf kSession 2)) stDrain (fun t => t.badHandle (stTwo.handleOf kSession 2)) = true := by decide +kernel

def stAcq : State := took (withSession (mk mIDLE [])) 6 0 0 (leBytes 1 kPipe ++ [0] ++ leBytes 2 94)

theorem witness_FixedUnits_1 : stAcq.taking 0 6 (cmdOf stAcq) ∧ stAcq.modeOk ∧ stAcq.sessOk 0 (cmdOf stAcq) ∧ 94 < unitLimit kPipe ∧ stAcq.fixedAbsent kPipe 94 = false ∧ (stAcq.obj kPipe 94).owner = 0 ∧ after (.unitAcquire 0 []) stAcq (fun t => (t.obj kPipe 94).owner = 1 ∧ t.cpl.status = 0) = true := by decide +kernel

def stRel : State := took stSess 7 0 (stSess.handleOf kPipe 95) []

theorem witness_FixedUnits_2 : stRel.taking 0 7 (cmdOf stRel) ∧ stRel.modeOk ∧ stRel.sessOk 0 (cmdOf stRel) ∧ stRel.badHandle (cmdOf stRel).object = false ∧ isFixed (hKind (cmdOf stRel).object) = true ∧ stRel.absentHandle (cmdOf stRel).object = false ∧ stRel.isDraining (cmdOf stRel).object = false ∧ stRel.unitRests kPipe 95 = true ∧ stRel.owns 1 (cmdOf stRel).object = true ∧ after (.unitRelease 0 []) stRel (fun t => (t.obj kPipe 95).owner = 0) = true := by decide +kernel

def stRingNew : State := took (withSession (mk mIDLE [])) 0x10 0 0 (leBytes 8 0x100000 ++ leBytes 4 (2 ^ 22) ++ [16, 1, 3, 0] ++ List.replicate 12 0 ++ [5, 0, 0, 0])

theorem witness_RingCommands_1 : stRingNew.taking 0 0x10 (cmdOf stRingNew) ∧ stRingNew.modeOk ∧ stRingNew.sessOk 0 (cmdOf stRingNew) ∧ (cmdOf stRingNew).plain ∧ check (ringCreateChecks (cmdOf stRingNew).inl) = .ok ∧ stRingNew.freeIndex kRing 32 = some 32 ∧ (ringArgs (cmdOf stRingNew).inl 0).host = true ∧ after (.ringCreate 0 []) stRingNew (fun t => t.cpl.status = 0 ∧ (tfind t.rings 32).any (fun r => r.size = 16 ∧ r.vector = 5 ∧ r.base = 0x100000)) = true := by decide +kernel

def stRingDev : State := took (withSession (mk mIDLE [])) 0x10 0 0 (leBytes 8 0 ++ leBytes 4 0 ++ [4, 0, 0, 0] ++ List.replicate 16 0)

theorem witness_RingCommands_device : stRingDev.taking 0 0x10 (cmdOf stRingDev) ∧ check (ringCreateChecks (cmdOf stRingDev).inl) = .ok
    ∧ (ringArgs (cmdOf stRingDev).inl 0).host = false
    ∧ ∃ x, stRingDev.allocate (ringBytes (ringArgs (cmdOf stRingDev).inl (cmdOf stRingDev).session)) 65536 (objKey kRing 32) false false = some x := by
  refine ⟨by decide +kernel, by decide +kernel, by decide +kernel, ?_⟩
  obtain ⟨b, hb⟩ := findPlace_some stRingDev (ringBytes (ringArgs (cmdOf stRingDev).inl (cmdOf stRingDev).session)) 65536 (by decide +kernel)
  unfold State.allocate
  rw [hb]; exact ⟨_, rfl⟩

def stQuery : State := took (stRing true) 0x11 64 ((stRing true).handleOf kRing 40) []

theorem witness_RingCommands_2 : stQuery.taking 0 0x11 (cmdOf stQuery) ∧ stQuery.modeOk ∧ stQuery.sessOk 0 (cmdOf stQuery) ∧ (cmdOf stQuery).payLen = 64 ∧ stQuery.ownsObj (cmdOf stQuery) kRing ∧ (tfind stQuery.rings 40).isSome ∧ after (.ringQuery 0 []) stQuery (fun t => t.cpl.status = 0 ∧ t.outs.any (fun o => match o with | .hostWrite _ _ l => l.length == 64 | _ => false)) = true := by decide +kernel

def stClear : State := (let s := (stRing false).setRing 40 { tget ⟨0, 0, 0, 0, false, false, false, false, 0, 0, 0, 0, 0, 0, 0⟩ (stRing false).rings 40 with overflow := true, drops := 9 }; took s 0x12 0 (s.handleOf kRing 40) [])

theorem witness_RingCommands_3 : stClear.taking 0 0x12 (cmdOf stClear) ∧ stClear.modeOk ∧ stClear.sessOk 0 (cmdOf stClear) ∧ (cmdOf stClear).plain ∧ stClear.ownsObj (cmdOf stClear) kRing ∧ after (.ringClear 0 []) stClear (fun t => t.cpl.result = 9 ∧ (tfind t.rings 40).any (fun r => r.drops = 0 ∧ r.overflow = false)) = true := by decide +kernel

def stEvBind : State := took { stSess with binds := [(bindKey kPipe 95 0x604, 3)] } 0x13 0 (stSess.handleOf kPipe 95) (leBytes 4 0 ++ leBytes 8 8 ++ [6])

theorem witness_EventBindings_1 : stEvBind.taking 0 0x13 (cmdOf stEvBind) ∧ stEvBind.modeOk ∧ stEvBind.sessOk 0 (cmdOf stEvBind) ∧ (cmdOf stEvBind).plain ∧ check (stEvBind.bindEvChecks (cmdOf stEvBind)) = .ok ∧ after (.eventBind 0 []) stEvBind (fun t => t.cpl.status = 0 ∧ t.binds = []) = true := by decide +kernel

def stEvBindR : State := (let s := stRing false; let s := s.setRing 40 { tget ⟨0, 0, 0, 0, false, false, false, false, 0, 0, 0, 0, 0, 0, 0⟩ s.rings 40 with esize := 1 }; let s := s.setObj kPipe 95 { s.obj kPipe 95 with owner := 1 }; took s 0x13 0 (s.handleOf kPipe 95) (leBytes 4 (s.handleOf kRing 40) ++ leBytes 8 8 ++ [6]))

theorem witness_EventBindings_2 : stEvBindR.taking 0 0x13 (cmdOf stEvBindR) ∧ stEvBindR.modeOk ∧ stEvBindR.sessOk 0 (cmdOf stEvBindR) ∧ check (stEvBindR.bindEvChecks (cmdOf stEvBindR)) = .ok ∧ after (.eventBind 0 []) stEvBindR (fun t => t.cpl.status = 0 ∧ tfind t.binds (bindKey kPipe 95 0x604) = some (stEvBindR.handleOf kRing 40)) = true := by decide +kernel

/-- Ring 40 with the doorbell pair of the physical function naming it, and ARM. -/
def stDb (host : Bool) (pi arm : Nat) : State :=
  let s := stRing host
  let s := s.setRing 40 { tget ⟨0, 0, 0, 0, false, false, false, false, 0, 0, 0, 0, 0, 0, 0⟩ s.rings 40 with pi := pi, ci := 0, armed := false }
  (s.wrk R.MBX_RING_DB_LO_RING 0 0 40).wrk R.MBX_RING_DB_LO_ARM 0 0 arm

theorem witness_RingDoorbells_1 : (stDb true 0 1).reached pPF 0x34004 true ∧ isPrincipal pPF = true ∧ (stDb true 0 1).rd R.MBX_RING_DB_LO_RING 0 = 40 ∧ (stDb true 0 1).fnOwnsRing 0 40 = true ∧ (tfind (stDb true 0 1).rings 40).isSome ∧ after (.ringDoorbell pPF 0 16) (stDb true 0 1) (fun t => (tfind t.rings 40).any (fun r => r.pi = 16 ∧ r.armed)) = true := by decide +kernel

theorem witness_RingDoorbells_2 : (stDb false 4 1).reached pPF 0x34004 true ∧ isPrincipal pPF = true ∧ (stDb false 4 1).rd R.MBX_RING_DB_LO_RING 0 = 40 ∧ (stDb false 4 1).fnOwnsRing 0 40 = true ∧ (tfind (stDb false 4 1).rings 40).isSome ∧ after (.ringDoorbell pPF 0 3) (stDb false 4 1) (fun t => (tfind t.rings 40).any (fun r => r.ci = 3 ∧ !r.armed) ∧ t.outs.length = 1) = true := by decide +kernel

theorem witness_RingDoorbells_3 : (stDb false 4 1).reached pPF 0x34004 true ∧ isPrincipal pPF = true ∧ (stDb false 4 1).rd R.MBX_RING_DB_LO_RING 0 = 40 ∧ (stDb false 4 1).fnOwnsRing 0 40 = true ∧ (tfind (stDb false 4 1).rings 40).isSome ∧ after (.ringDoorbell pPF 0 4) (stDb false 4 1) (fun t => (tfind t.rings 40).any (fun r => r.ci = 4 ∧ r.armed) ∧ t.outs = []) = true := by decide +kernel

theorem witness_RingDoorbells_4 : (stDb true 0 0).reached pPF 0x34004 true ∧ isPrincipal pPF = true ∧ (stDb true 0 0).rd R.MBX_RING_DB_LO_RING 0 = 40 ∧ (stDb true 0 0).fnOwnsRing 0 40 = true ∧ (tfind (stDb true 0 0).rings 40).isSome ∧ after (.ringDoorbell pPF 0 17) (stDb true 0 0) (fun t => t.resp = ⟨Status.lenExceeds.code, 0⟩) = true := by decide +kernel

theorem witness_RingDoorbells_5 : (stDb true 0 0).reached 0x11 0x3400C true ∧ (stDb true 0 0).fnOwnsRing 1 0 = false ∧ after (.ringDoorbell 0x11 1 1) (stDb true 0 0) (fun t => t.resp = ⟨8, 0⟩) = true := by decide +kernel

theorem witness_AdminQueuesAndReset_1 : stIdle.reached pPF 0x38010 true ∧ stIdle.on R.MBX_ADMQ_CFG_ACTIVE 0 = false ∧ bitAt (2 ^ 31 + 2 ^ 16 * 9 + 2 ^ 8 * 16 + 4) 31 = true ∧ bitsOf (2 ^ 31 + 2 ^ 16 * 9 + 2 ^ 8 * 16 + 4) 8 5 = 16 ∧ bitsOf (2 ^ 31 + 2 ^ 16 * 9 + 2 ^ 8 * 16 + 4) 0 5 = 4 ∧ after (.admqEnable pPF 0 (2 ^ 31 + 2 ^ 16 * 9 + 2 ^ 8 * 16 + 4)) stIdle (fun t => t.on R.MBX_ADMQ_CFG_ACTIVE 0 ∧ t.rd R.MBX_ADMQ_CFG_VECTOR 0 = 9) = true := by decide +kernel

/-- The queue pair of the physical function, active, with one command waiting. -/
def stAdm (en : Nat) : State :=
  let s := mk mIDLE [(R.MBX_ADMQ_CFG_ENABLE, 0, en), (R.MBX_ADMQ_CFG_ACTIVE, 0, 1), (R.MBX_ADMQ_CFG_CMD_SIZE, 0, 4), (R.MBX_ADMQ_CFG_CPL_SIZE, 0, 4)]
  { s with rings := [(0, ⟨0, 1024, 4, 1, true, true, false, false, 1, 0, 0, 0, 0, 0, 0⟩), (1, ⟨0, 1024, 4, 0, true, false, false, false, 0, 0, 0, 0, 0, 0, 0⟩)] }

theorem witness_AdminQueuesAndReset_2 : (stAdm 1).reached pPF 0x38010 true ∧ (stAdm 1).rd R.MBX_ADMQ_CFG_CMD_SIZE 0 = 4 ∧ (stAdm 1).rd R.MBX_ADMQ_CFG_VECTOR 0 = 0 ∧ after (.admqEnable pPF 0 0x404) (stAdm 1) (fun t => t.on R.MBX_ADMQ_CFG_ACTIVE 0 = false) = true := by decide +kernel

theorem witness_AdminQueuesAndReset_3 : (stAdm 1).on R.MBX_ADMQ_CFG_ENABLE 0 = true ∧ tfind (stAdm 1).taken 0 = none ∧ after (.adminCommandTake 0 (List.replicate 64 0xFF)) (stAdm 1) (fun t => t.cpl.status = Status.decode.code ∧ (tfind t.rings 0).any (fun r => r.ci = 1)) = true := by decide +kernel

theorem witness_AdminQueuesAndReset_4 : opKnown 0x13 = true ∧ after (.adminCommandTake 0 (0x13 :: List.replicate 63 0)) (stAdm 1) (fun t => (tfind t.taken 0).isSome) = true := by decide +kernel

theorem witness_AdminQueuesAndReset_5 : (stAdm 0).on R.MBX_ADMQ_CFG_ENABLE 0 = false ∧ tfind (stAdm 0).taken 0 = none ∧ after (.admqDrained 0) (stAdm 0) (fun t => t.on R.MBX_ADMQ_CFG_ACTIVE 0 = false) = true := by decide +kernel

def stFlr : State := (let s := (mk mIDLE []).issue kSession 9 0; { s with sessPrin := [(9, 0x1F)] })

theorem witness_AdminQueuesAndReset_6 : stFlr.fnSessions 15 = [9] ∧ stFlr.fnSessions 14 = [] ∧ after (.functionLevelReset 15) stFlr (fun t => (t.obj kSession 9).live = false) = true := by decide +kernel

/-- Ring 40, device-produced and full. -/
def stRFull : State := (stRing false).setRing 40 { tget ⟨0, 0, 0, 0, false, false, false, false, 0, 0, 0, 0, 0, 0, 0⟩ (stRing false).rings 40 with pi := 16 }

theorem witness_FullRingDrops_1 : (tfind stRFull.rings 40).any (fun r => ringFull r) = true ∧ (tfind (stRFull.ringPush 40 [1] false).rings 40).any (fun r => r.drops = 1 ∧ r.overflow) = true := by
  decide +kernel

theorem witness_LaneCommands_1 : stIdle.reached 2 (laneAddr 95 0) true ∧ stIdle.laneRuns 95 = false ∧ rateOk mdSDI 15 = true ∧ stIdle.quadOn 95 = false ∧ after (.laneEnable 2 95 (2 ^ 31 + 2 ^ 24 * 15)) stIdle (fun t => t.rd R.LNE_STATUS_RX_STATE 95 = rxHUNT ∧ t.on R.LNE_CTL_ENABLE 95) = true := by decide +kernel

/-- Lane 95 is enabled at the rate of code `r`, its receiver in state `x`. -/
def stLane (r x : Nat) (l : List (Fld × Nat × Nat)) : State :=
  mk mIDLE ([(R.LNE_CTL_ENABLE, 95, 1), (R.LNE_CTL_RX_RATE, 95, r), (R.LNE_STATUS_RX_STATE, 95, x)] ++ l)

theorem witness_LaneCommands_2 : (stLane 9 2 []).reached 2 (laneAddr 95 0) true ∧ (stLane 9 2 []).laneRuns 95 = true ∧ (stLane 9 2 []).ctlRws 95 (2 ^ 31 + 2 ^ 24 * 8) = true ∧ modeOk 95 0 = true ∧ rateOk 0 8 = true ∧ (stLane 9 2 []).quadOn 95 = false ∧ after (.laneEnable 2 95 (2 ^ 24 * 8)) (stLane 9 2 []) (fun t => t.resp = ⟨Status.unitRunning.code, 0⟩) = true := by decide +kernel

theorem witness_LaneCommands_3 : (stLane 9 2 []).ctlRws 95 (2 ^ 24 * 9) = false ∧ (stLane 9 2 []).on R.LNE_CTL_ENABLE 95 = true ∧ after (.laneDisable 2 95 (2 ^ 31 + 2 ^ 24 * 9)) (stLane 9 2 []) (fun t => t.rd R.LNE_STATUS_RX_STATE 95 = rxDISABLED) = true := by decide +kernel

theorem witness_LaneCommands_4 : (stLane 9 1 [(R.LNE_STATUS_RX_RATE_DET, 95, 8)]).mayLock 95 9 = true ∧ (stLane 9 1 []).lanePresent 95 = true ∧ after (.laneLock 95 9 131) (stLane 9 1 [(R.LNE_STATUS_RX_RATE_DET, 95, 8)]) (fun t => t.rd R.LNE_EVT_FLAGS 95 = 5 ∧ t.rd R.LNE_STATUS_FREQ_OFS 95 = 131 ∧ t.rd R.LNE_STATUS_RX_RATE_DET 95 = 9) = true := by decide +kernel

theorem witness_LaneCommands_5 : (stLane 9 2 []).rd R.LNE_STATUS_RX_STATE 95 = rxLOCKED ∧ after (.laneLoss 95 false) (stLane 9 2 []) (fun t => t.rd R.LNE_STATUS_RX_STATE 95 = rxHUNT ∧ bitAt (t.rd R.LNE_EVT_FLAGS 95) 1) = true := by decide +kernel

theorem witness_LaneCommands_6 : (stLane 15 1 []).rd R.LNE_CTL_RX_RATE 95 = 0xF ∧ after (.autoHuntTimeout 95) (stLane 15 1 []) (fun t => t.rd R.LNE_STATUS_RX_STATE 95 = rxHUNT) = true := by decide +kernel

theorem witness_EyeScans_1 : (stLane 9 2 []).reached 2 (laneAddr 95 0x40) true ∧ (stLane 9 2 []).escanChecks 95 (setBit (2 ^ 24 * 40 + 2 ^ 16 * 23) 31) = .ok ∧ after (.escanStart 2 95 (2 ^ 24 * 40 + 2 ^ 16 * 23)) (stLane 9 2 []) (fun t => t.rd R.LNE_ESCAN_STAT_STATE 95 = 1 ∧ t.rd R.LNE_ESCAN_CTL_TIME 95 = 23) = true := by decide +kernel

theorem witness_EyeScans_2 : (stLane 9 2 []).escanChecks 95 (setBit (2 ^ 24 * 41) 31) = .lenExceeds ∧ after (.escanStart 2 95 (2 ^ 24 * 41)) (stLane 9 2 []) (fun t => t.rd R.LNE_ESCAN_STAT_STATE 95 = 0 ∧ t.rd R.LNE_ESCAN_STAT_STATUS 95 = Status.lenExceeds.code) = true := by decide +kernel

theorem witness_EyeScans_abort : (stLane 9 2 [(R.LNE_ESCAN_STAT_STATE, 95, 1)]).reached 2 (laneAddr 95 0x40) true ∧ (stLane 9 2 [(R.LNE_ESCAN_STAT_STATE, 95, 1)]).rd R.LNE_ESCAN_STAT_STATE 95 = 1 := by decide +kernel

theorem witness_EyeScans_3 : (stLane 9 2 []).rd R.LNE_ESCAN_STAT_STATE 95 ≠ 1 ∧ after (.escanAbort 2 95 0) (stLane 9 2 []) (fun t => t.rd R.LNE_ESCAN_STAT_STATE 95 = 0) = true := by decide +kernel

theorem witness_EyeScans_4 : after (.escanDwellDone 95 (2 ^ 32)) (stLane 9 2 [(R.LNE_ESCAN_STAT_STATE, 95, 1)]) (fun t => t.rd R.LNE_ESCAN_ERRS_ERRS 95 = 2 ^ 32 - 1 ∧ t.rd R.LNE_ESCAN_STAT_STATE 95 = 2) = true := by decide +kernel

theorem witness_SdiFraming_1 : (stLane 6 2 [(R.LNE_SDI_STAT_FR_STATE, 95, frSEARCH), (R.LNE_STATUS_RX_RATE_DET, 95, 6)]).quadOn 95 = false ∧ after (.sdiTrsAlign 95 1125 2200 8 1 false) (stLane 6 2 [(R.LNE_SDI_STAT_FR_STATE, 95, frSEARCH), (R.LNE_STATUS_RX_RATE_DET, 95, 6)]) (fun t => t.rd R.LNE_SDI_STAT_FR_STATE 95 = frALIGNED ∧ t.rd R.LNE_SDI_MEAS_LINES 95 = 1125 ∧ t.rd R.INP_STAT_IN_STATE 95 = inACQUIRING) = true := by decide +kernel

/-- The words of a short line on two data streams, its CRC taken from `crc` on. -/
def rxLine (line crc : Nat) : List Nat :=
  let head := trsWords 0 0 1 ++ lnWords line
  let st := head ++ crcWords (crc18 crc head) ++ trsWords 0 0 0 ++ [64, 940]
  muxWords [st, st]
/-- A framer aligned to such lines, six a frame, with the CRC of the line before. -/
def stRx (level : Nat) (crc : Option (List Nat)) : State :=
  (stLane 6 2 [(R.LNE_SDI_STAT_FR_STATE, 95, frALIGNED), (R.LNE_STATUS_RX_RATE_DET, 95, 6), (R.LNE_SDI_MEAS_WORDS, 95, 14),
    (R.LNE_SDI_MEAS_LINES, 95, 6), (R.LNE_SDI_STAT_LEVEL, 95, level)]).setLane 95 fun x => { x with rxCrc := crc }
/-- The CRC of what follows SAV in such a line. -/
def rxBody : Nat := crc18 0 [64, 940]
/-- A framer aligned at 270 Mbit/s, with the CRCs of a field. -/
def stRxSd (edh : Option (Nat × Nat)) : State :=
  (stLane 1 2 [(R.LNE_SDI_STAT_FR_STATE, 95, frALIGNED), (R.LNE_STATUS_RX_RATE_DET, 95, 1), (R.LNE_SDI_MEAS_LINES, 95, 525),
    (R.LNE_SDI_MEAS_WORDS, 95, 14)]).setLane 95 fun x => { x with rxEdh := edh }
/-- A framer that has missed three EAVs in a row. -/
def stMiss : State := (stLane 6 2 [(R.LNE_SDI_STAT_FR_STATE, 95, frALIGNED), (R.LNE_STATUS_RX_RATE_DET, 95, 6)]).setLane 95 fun x => { x with misses := 3 }

theorem witness_SdiFraming_2 : (stRx 0 (some [rxBody, rxBody])).lineEavOk 95 (rxLine 6 rxBody) = true ∧ 1 < (stRx 0 (some [rxBody, rxBody])).sdiRate 95 ∧ after (.sdiLineReceived 95 6 0 0 (rxLine 6 rxBody)) (stRx 0 (some [rxBody, rxBody])) (fun t => t.rd R.LNE_SDI_CRC_LINES_COUNT 95 = 0 ∧ t.rd R.LNE_SDI_LN_ERR_COUNT 95 = 0 ∧ (t.lane 95).lastGood = 6 ∧ (t.lane 95).rxCrc = some [rxBody, rxBody]) = true := by decide +kernel

theorem witness_SdiFraming_3 : (stRx 0 (some [rxBody, rxBody])).lineCrcOk 95 (rxLine 5 7) = false ∧ after (.sdiLineReceived 95 6 0 0 (rxLine 5 7)) (stRx 0 (some [rxBody, rxBody])) (fun t => t.rd R.LNE_SDI_CRC_LINES_COUNT 95 = 1 ∧ t.rd R.LNE_SDI_LN_ERR_COUNT 95 = 1 ∧ bitAt (t.rd R.LNE_FR_EVT_FLAGS 95) 2) = true := by decide +kernel

theorem witness_SdiFraming_4 : (stRxSd (some (0, 0))).lineEavOk 95 (trsWords 0 0 1 ++ trsWords 0 0 0 ++ [64, 512, 64, 512, 64, 940]) = true ∧ (stRxSd (some (0, 0))).sdiRate 95 = 1 ∧ after (.sdiLineReceived 95 30 0 0 (trsWords 0 0 1 ++ trsWords 0 0 0 ++ [64, 512, 64, 512, 64, 940])) (stRxSd (some (0, 0))) (fun t => (t.lane 95).rxEdh = some (crc16 0 [64, 512, 64, 512, 64, 940], crc16 0 (trsWords 0 0 1 ++ trsWords 0 0 0 ++ [64, 512, 64, 512, 64, 940]))) = true := by decide +kernel

theorem witness_SdiFraming_5 : (stRx 0 none).lineEavOk 95 [] = false ∧ after (.sdiLineReceived 95 1125 0 0 []) (stRx 0 none) (fun t => t.rd R.LNE_SDI_TRS_ERR_COUNT 95 = 1 ∧ t.rd R.LNE_SDI_STAT_FR_STATE 95 = frALIGNED) = true := by decide +kernel

theorem witness_SdiFraming_6 : 3 ≤ (stMiss.lane 95).misses ∧ after (.sdiLineReceived 95 1125 0 0 []) stMiss (fun t => t.rd R.LNE_SDI_STAT_FR_STATE 95 = frSEARCH ∧ bitAt (t.rd R.LNE_FR_EVT_FLAGS 95) 1) = true := by decide +kernel

theorem witness_SdiFraming_7 : (stRx 3 none).rd R.LNE_SDI_CFG_DS_LINK 95 ≠ 1 ∧ after (.sdiLineReceived 95 7 1 0 (rxLine 7 0)) (stRx 3 none) (fun t => t.rd R.LNE_SDI_DS_DROP_COUNT 95 = 1) = true := by decide +kernel

theorem witness_SdiFraming_8 : (stRxSd (some (0x1234, 0x8765))).sdiRate 95 = 1 ∧ (stRxSd (some (0x1234, 0x8765))).edhBad 95 (some ((edhPacket 0x1234 0x8764).drop 3)) = (false, true) ∧ after (.edhPacketReceived 95 9 (some ((edhPacket 0x1234 0x8764).drop 3))) (stRxSd (some (0x1234, 0x8765))) (fun t => t.rd R.LNE_SDI_EDH_FF_COUNT 95 = 1 ∧ t.rd R.LNE_SDI_EDH_AP_COUNT 95 = 0 ∧ t.on R.LNE_SDI_STAT_EDH_SEEN 95) = true := by decide +kernel

theorem witness_SdiFraming_9 : after (.edhPacketReceived 95 9 none) (stRxSd (some (1, 2))) (fun t => t.on R.LNE_SDI_STAT_EDH_SEEN 95 = false ∧ (t.lane 95).rxEdh = some (0, 0)) = true := by decide +kernel

theorem witness_SdiFraming_10 : (stLane 6 2 [(R.LNE_SDI_STAT_FR_STATE, 95, frALIGNED), (R.LNE_STATUS_RX_RATE_DET, 95, 6)]).quadOn 95 = false ∧ vpidOfWords ((vpidPacket 0x01CA8589).drop 3) = some 0x01CA8589 ∧ after (.vpidPacketReceived 95 10 ((vpidPacket 0x01CA8589).drop 3)) (stLane 6 2 [(R.LNE_SDI_STAT_FR_STATE, 95, frALIGNED), (R.LNE_STATUS_RX_RATE_DET, 95, 6)]) (fun t => t.rd R.LNE_SDI_VPID_BYTE1 95 = 0x89 ∧ t.rd R.LNE_SDI_VPID_BYTE4 95 = 1) = true := by decide +kernel

theorem witness_SdiFraming_11 : vpidOfWords [5] = none ∧ after (.vpidPacketReceived 95 10 [5]) (stLane 6 2 [(R.LNE_SDI_STAT_FR_STATE, 95, frALIGNED), (R.LNE_STATUS_RX_RATE_DET, 95, 6)]) (fun t => t.on R.LNE_SDI_STAT_VPID_VALID 95 = false) = true := by decide +kernel

theorem witness_SdiFraming_12 : after (.vpidTimeout 95) (stLane 6 2 [(R.LNE_SDI_STAT_FR_STATE, 95, frALIGNED), (R.LNE_STATUS_RX_RATE_DET, 95, 6), (R.LNE_SDI_STAT_VPID_VALID, 95, 1)]) (fun t => t.on R.LNE_SDI_STAT_VPID_VALID 95 = false) = true := by decide +kernel

theorem witness_SdiFraming_13 : stIdle.reached 2 (laneAddr 95 0x1FC) true ∧ after (.cntClr 2 95 1) (mk mIDLE [(R.LNE_SDI_CRC_LINES_COUNT, 95, 9), (R.LNE_GL_CRC_ERR_COUNT, 95, 4)]) (fun t => t.rd R.LNE_SDI_CRC_LINES_COUNT 95 = 0 ∧ t.rd R.LNE_GL_CRC_ERR_COUNT 95 = 4) = true := by decide +kernel

theorem witness_GistraTraining_1 : ((stLane 0xC 2 [(R.LNE_CTL_MODE, 95, mdGL), (R.LNE_GL_STAT_RATE, 95, 12), (R.LNE_GL_STAT_LINK_STATE, 95, glTRAIN)]).setLane 95 fun x => { x with tsGood := 7 }).on R.LNE_CTL_ENABLE 95 = true ∧ 7 ≤ (((stLane 0xC 2 [(R.LNE_CTL_MODE, 95, mdGL), (R.LNE_GL_STAT_RATE, 95, 12), (R.LNE_GL_STAT_LINK_STATE, 95, glTRAIN)]).setLane 95 fun x => { x with tsGood := 7 }).lane 95).tsGood ∧ after (.tsReceived 95 0xC 1 7 true true true) ((stLane 0xC 2 [(R.LNE_CTL_MODE, 95, mdGL), (R.LNE_GL_STAT_RATE, 95, 12), (R.LNE_GL_STAT_LINK_STATE, 95, glTRAIN)]).setLane 95 fun x => { x with tsGood := 7 }) (fun t => t.rd R.LNE_GL_STAT_LINK_STATE 95 = glUP ∧ bitAt (t.rd R.LNE_FR_EVT_FLAGS 95) 6) = true := by decide +kernel

theorem witness_GistraTraining_2 : after (.tsReceived 95 0xC 8 7 true true false) (stLane 0xC 2 [(R.LNE_CTL_MODE, 95, mdGL), (R.LNE_GL_STAT_RATE, 95, 12), (R.LNE_GL_STAT_LINK_STATE, 95, glTRAIN)]) (fun t => t.rd R.LNE_GL_STAT_LINK_STATE 95 = glTRAIN ∧ (t.lane 95).tsGood = 1 ∧ t.rd R.LNE_GL_STAT_FAR_LID 95 = 7 ∧ t.outs.length = 1) = true := by decide +kernel

theorem witness_GistraTraining_3 : (stLane 0xC 2 [(R.LNE_CTL_MODE, 95, mdGL), (R.LNE_GL_STAT_RATE, 95, 11), (R.LNE_GL_STAT_LINK_STATE, 95, glTRAIN)]).laneReady 95 = false ∧ (stLane 0xC 2 [(R.LNE_CTL_MODE, 95, mdGL), (R.LNE_GL_STAT_RATE, 95, 11), (R.LNE_GL_STAT_LINK_STATE, 95, glTRAIN)]).mayTrain 95 = true ∧ after (.trainRateTimeout 95) (stLane 0xC 2 [(R.LNE_CTL_MODE, 95, mdGL), (R.LNE_GL_STAT_RATE, 95, 11), (R.LNE_GL_STAT_LINK_STATE, 95, glTRAIN)]) (fun t => t.rd R.LNE_GL_STAT_RATE 95 = 0xA) = true := by decide +kernel

theorem witness_GistraTraining_4 : (stLane 0xC 2 [(R.LNE_CTL_MODE, 95, mdGL), (R.LNE_GL_STAT_RATE, 95, 10), (R.LNE_GL_STAT_LINK_STATE, 95, glTRAIN)]).laneReady 95 = false ∧ after (.trainRateTimeout 95) (stLane 0xC 2 [(R.LNE_CTL_MODE, 95, mdGL), (R.LNE_GL_STAT_RATE, 95, 10), (R.LNE_GL_STAT_LINK_STATE, 95, glTRAIN)]) (fun t => t.rd R.LNE_GL_STAT_LINK_STATE 95 = glDOWN ∧ (t.lane 95).retry) = true := by decide +kernel

theorem witness_GistraTraining_5 : after (.trainRetryTimeout 95) ((stLane 0xC 2 [(R.LNE_CTL_MODE, 95, mdGL), (R.LNE_GL_STAT_RATE, 95, 12), (R.LNE_GL_STAT_LINK_STATE, 95, glDOWN)]).setLane 95 fun x => { x with retry := true }) (fun t => t.rd R.LNE_GL_STAT_LINK_STATE 95 = glTRAIN ∧ t.rd R.LNE_GL_STAT_RATE 95 = 0xC) = true := by decide +kernel

theorem witness_GistraTraining_6 : after (.retrainCondition 95 1) (stLane 0xC 2 [(R.LNE_CTL_MODE, 95, mdGL), (R.LNE_GL_STAT_RATE, 95, 12), (R.LNE_GL_STAT_LINK_STATE, 95, glUP)]) (fun t => t.rd R.LNE_GL_STAT_LINK_STATE 95 = glTRAIN ∧ bitAt (t.rd R.LNE_FR_EVT_FLAGS 95) 7) = true := by decide +kernel

theorem witness_GistraTraining_7 : 0 = 0 ∨ 3 < 0 ∧ after (.retrainCondition 95 0) (stLane 0xC 2 [(R.LNE_CTL_MODE, 95, mdGL), (R.LNE_GL_STAT_RATE, 95, 12), (R.LNE_GL_STAT_LINK_STATE, 95, glUP)]) (fun t => t.rd R.LNE_GL_STAT_LINK_STATE 95 = glUP) = true := by decide +kernel

theorem witness_GistraBlocks_1 : (stLane 0xC 2 [(R.LNE_CTL_MODE, 95, mdGL), (R.LNE_GL_STAT_RATE, 95, 12), (R.LNE_GL_STAT_LINK_STATE, 95, glUP)]).rxIdle 95 11 ∧ bitsOf (2 ^ 13 * 9 + 1) 0 9 = 1 ∧ bitsOf (2 ^ 13 * 9 + 1) 25 7 = 0 ∧ tget 9 ((stLane 0xC 2 [(R.LNE_CTL_MODE, 95, mdGL), (R.LNE_GL_STAT_RATE, 95, 12), (R.LNE_GL_STAT_LINK_STATE, 95, glUP)]).lane 95).rxSeq 0 = 9 ∧ after (.gistraBlockReceived 95 (wholeBlock false (2 ^ 13 * 9 + 1) [5] (blockCrc (2 ^ 13 * 9 + 1) [5])) 2 3 none) (stLane 0xC 2 [(R.LNE_CTL_MODE, 95, mdGL), (R.LNE_GL_STAT_RATE, 95, 12), (R.LNE_GL_STAT_LINK_STATE, 95, glUP)]) (fun t => tfind (t.lane 95).rxSeq 0 = some 10 ∧ (t.lane 95).rxBits.length = 8 ∧ t.rd R.LNE_GL_CRC_ERR_COUNT 95 = 0 ∧ t.rd R.LNE_GL_SKIP_INS_COUNT 95 = 3) = true := by decide +kernel

theorem witness_GistraBlocks_2 : bitsOf (2 ^ 25) 25 7 = 1 ∧ after (.gistraBlockReceived 95 (wholeBlock false (2 ^ 25) [] (blockCrc (2 ^ 25) [])) 0 0 none) (stLane 0xC 2 [(R.LNE_CTL_MODE, 95, mdGL), (R.LNE_GL_STAT_RATE, 95, 12), (R.LNE_GL_STAT_LINK_STATE, 95, glUP)]) (fun t => t.rd R.LNE_GL_STREAM_DROP_COUNT 95 = 1) = true := by decide +kernel

theorem witness_GistraBlocks_3 : [0, 0, 0, 0] ≠ blockCrc 1 [5] ∧ after (.gistraBlockReceived 95 (wholeBlock false 1 [5] [0, 0, 0, 0]) 0 0 none) (stLane 0xC 2 [(R.LNE_CTL_MODE, 95, mdGL), (R.LNE_GL_STAT_RATE, 95, 12), (R.LNE_GL_STAT_LINK_STATE, 95, glUP)]) (fun t => t.rd R.LNE_GL_CRC_ERR_COUNT 95 = 1) = true := by decide +kernel

theorem witness_GistraBlocks_4 : after (.gistraBlockReceived 95 [codeGroup false kABORT] 0 0 none) ((stLane 0xC 2 [(R.LNE_CTL_MODE, 95, mdGL), (R.LNE_GL_STAT_RATE, 95, 12), (R.LNE_GL_STAT_LINK_STATE, 95, glUP)]).setLane 95 fun x => { x with rxBlk := some [1, 2] }) (fun t => t.rd R.LNE_GL_ABORT_COUNT 95 = 1) = true := by decide +kernel

theorem witness_GistraBlocks_5 : readGroup false 0 = .code ∧ after (.gistraBlockReceived 95 [0] 0 0 none) (stLane 0xC 2 [(R.LNE_CTL_MODE, 95, mdGL), (R.LNE_GL_STAT_RATE, 95, 12), (R.LNE_GL_STAT_LINK_STATE, 95, glUP)]) (fun t => t.rd R.LNE_GL_CODE_ERR_COUNT 95 = 1) = true := by decide +kernel

theorem witness_GistraBlocks_6 : readGroup false (codeGroup true kCOMMA) = .disp kCOMMA ∧ after (.gistraBlockReceived 95 [codeGroup true kCOMMA] 0 0 none) (stLane 0xC 2 [(R.LNE_CTL_MODE, 95, mdGL), (R.LNE_GL_STAT_RATE, 95, 12), (R.LNE_GL_STAT_LINK_STATE, 95, glUP)]) (fun t => t.rd R.LNE_GL_DISP_ERR_COUNT 95 = 1) = true := by decide +kernel

theorem witness_GistraBlocks_7 : (stLane 0xC 2 [(R.LNE_CTL_MODE, 95, mdGL), (R.LNE_GL_STAT_RATE, 95, 12), (R.LNE_GL_STAT_LINK_STATE, 95, glUP)]).on R.LNE_GL_STAT_SPARE 95 = false ∧ (stLane 0xC 2 [(R.LNE_CTL_MODE, 95, mdGL), (R.LNE_GL_STAT_RATE, 95, 12), (R.LNE_GL_STAT_LINK_STATE, 95, glUP)]).videoReady 95 = [] ∧ after (.gistraBlockSend 95 [] [] true) (stLane 0xC 2 [(R.LNE_CTL_MODE, 95, mdGL), (R.LNE_GL_STAT_RATE, 95, 12), (R.LNE_GL_STAT_LINK_STATE, 95, glUP)]) (fun t => t.outs.length = 1) = true := by decide +kernel

theorem witness_GistraBlocks_8 : 2048 ≤ (((stLane 0xC 2 [(R.LNE_CTL_MODE, 95, mdGL), (R.LNE_GL_STAT_RATE, 95, 12), (R.LNE_GL_STAT_LINK_STATE, 95, glUP)]).setLane 95 fun x => { x with txBits := List.replicate 2048 true }).lane 95).txBits.length ∧ (((stLane 0xC 2 [(R.LNE_CTL_MODE, 95, mdGL), (R.LNE_GL_STAT_RATE, 95, 12), (R.LNE_GL_STAT_LINK_STATE, 95, glUP)]).setLane 95 fun x => { x with txBits := List.replicate 2048 true }).lane 95).txHeld = false ∧ after (.gistraBlockSend 95 [] [] true) ((stLane 0xC 2 [(R.LNE_CTL_MODE, 95, mdGL), (R.LNE_GL_STAT_RATE, 95, 12), (R.LNE_GL_STAT_LINK_STATE, 95, glUP)]).setLane 95 fun x => { x with txBits := List.replicate 2048 true }) (fun t => t.outs.length = 1 ∧ tfind (t.lane 95).txSeq 0 = some 1 ∧ (t.lane 95).txBits = []) = true := by decide +kernel

theorem witness_GistraBlocks_9 : after (.seqGapTimeout 95) ((stLane 0xC 2 [(R.LNE_CTL_MODE, 95, mdGL), (R.LNE_GL_STAT_RATE, 95, 12), (R.LNE_GL_STAT_LINK_STATE, 95, glUP)]).setLane 95 fun x => { x with early := [⟨0, 5, 6, [], none⟩], rxSeq := [(0, 250)] }) (fun t => t.rd R.LNE_GL_SEQ_GAP_COUNT 95 = 11 ∧ tfind (t.lane 95).rxSeq 0 = some 6) = true := by decide +kernel

theorem witness_GistraBlocks_10 : after (.qwSend 95) ((stLane 0xC 2 [(R.LNE_CTL_MODE, 95, mdGL), (R.LNE_GL_STAT_RATE, 95, 12), (R.LNE_GL_STAT_LINK_STATE, 95, glUP)]).setLane 95 fun x => { x with vidSeen := true }) (fun t => t.outs.length = 2) = true := by decide +kernel

theorem witness_GistraBlocks_11 : after (.qwSend 95) ((stLane 0xC 2 [(R.LNE_CTL_MODE, 95, mdGL), (R.LNE_GL_STAT_RATE, 95, 12), (R.LNE_GL_STAT_LINK_STATE, 95, glUP)]).wrk R.LNE_GL_STAT_SPARE 95 0 1) (fun t => t.outs.length = 1) = true := by decide +kernel

theorem witness_GistraBlocks_12 : bitsOf (qwCheck 5 * 2 ^ 24 + 5) 24 8 = qwCheck (qwCheck 5 * 2 ^ 24 + 5) ∧ after (.qwReceived 95 (qwCheck 5 * 2 ^ 24 + 5)) (stLane 0xC 2 [(R.LNE_CTL_MODE, 95, mdGL), (R.LNE_GL_STAT_RATE, 95, 12), (R.LNE_GL_STAT_LINK_STATE, 95, glUP)]) (fun t => t.rd R.LNE_GL_QW_QW 95 = qwCheck 5 * 2 ^ 24 + 5) = true := by decide +kernel

theorem witness_GistraBlocks_13 : bitsOf ((255 - qwCheck 5) * 2 ^ 24 + 5) 24 8 ≠ qwCheck ((255 - qwCheck 5) * 2 ^ 24 + 5) ∧ after (.qwReceived 95 ((255 - qwCheck 5) * 2 ^ 24 + 5)) (stLane 0xC 2 [(R.LNE_CTL_MODE, 95, mdGL), (R.LNE_GL_STAT_RATE, 95, 12), (R.LNE_GL_STAT_LINK_STATE, 95, glUP)]) (fun t => t.rd R.LNE_GL_QW_QW 95 = 0) = true := by decide +kernel

theorem witness_GistraBlocks_14 : after (.qwLoss 95) (stLane 0xC 2 [(R.LNE_CTL_MODE, 95, mdGL), (R.LNE_GL_STAT_RATE, 95, 12), (R.LNE_GL_STAT_LINK_STATE, 95, glUP)]) (fun t => (t.lane 95).qwLost ∧ bitAt (t.rd R.LNE_FR_EVT_FLAGS 95) 9) = true := by decide +kernel

theorem witness_FabricTimeouts_7 : stIdle.modeCode ≠ mBOOT ∧ stIdle.modeCode ≠ mLIMP ∧ bitAt (stIdle.rdk R.FAB_STAT_SEG_FAIL 0 0) 3 = false ∧ after (.fabricTimeout 3 2 0 0x400000 true) { stIdle with segRun := [(3, 15)] } (fun _ => true) = true := by decide +kernel

theorem witness_FabricTimeouts_8 : (mk mLIMP []).modeCode = mLIMP ∧ after (.fabricTimeout 3 2 0 0x400000 true) (mk mLIMP []) (fun t => t = mk mLIMP []) = true := by decide +kernel

theorem test_ill_formed_1 : ([
    .registerWrite 0 0 0 0 0, .registerWrite 2 (2 ^ 32) 0 0 0, .registerWrite 2 0 0 (2 ^ 32) 0,
    .registerWrite 2 0 0 0 3, .w1cFlagClear 0 0 0 0 0, .w1cFlagClear 2 (2 ^ 32) 0 0 0,
    .w1cFlagClear 2 0 0 (2 ^ 32) 0, .w1cFlagClear 2 0 0 0 (2 ^ 32), .counterLowRead 0 0 0 0,
    .counterLowRead 2 (2 ^ 32) 0 0, .counterLowRead 2 0 0 3, .epochNsRead 0,
    .timelineLineEvent 16, .hbmEccUncorr .audio (2 ^ 40) [], .adminCommandTake 16 (List.replicate 64 0),
    .adminCommandTake 0 (256 :: List.replicate 63 0), .adminCommandTake 0 [], .sessionOpen 16 [],
    .sessionOpen 0 (256 :: List.replicate 63 0), .sessionClose 16 [], .sessionClose 0 (256 :: List.replicate 63 0),
    .grant 16 [], .grant 0 (256 :: List.replicate 63 0), .revoke 16 [],
    .revoke 0 (256 :: List.replicate 63 0), .destroy 16 [], .destroy 0 (256 :: List.replicate 63 0)] : List Instr).any wellFormed = false := by decide +kernel

theorem test_ill_formed_2 : ([
    .destroy 16 [], .destroy 0 (256 :: List.replicate 63 0), .objectFreed (2 ^ 32),
    .unitAcquire 16 [], .unitAcquire 0 (256 :: List.replicate 63 0), .unitRelease 16 [],
    .unitRelease 0 (256 :: List.replicate 63 0), .ringCreate 16 [], .ringCreate 0 (256 :: List.replicate 63 0),
    .ringQuery 16 [], .ringQuery 0 (256 :: List.replicate 63 0), .ringClear 16 [],
    .ringClear 0 (256 :: List.replicate 63 0), .eventBind 16 [], .eventBind 0 (256 :: List.replicate 63 0),
    .ringDoorbell 0 0 0, .ringDoorbell 2 16 0, .ringDoorbell 2 0 (2 ^ 32),
    .admqEnable 0 0 0, .admqEnable 2 16 0, .admqEnable 2 0 (2 ^ 32),
    .admqDrained 16, .functionLevelReset 16, .laneEnable 0 0 0,
    .laneEnable 2 105 0, .laneEnable 2 0 (2 ^ 32), .laneDisable 0 0 0] : List Instr).any wellFormed = false := by decide +kernel

theorem test_ill_formed_3 : ([
    .laneEnable 2 0 (2 ^ 32), .laneDisable 0 0 0, .laneDisable 2 105 0,
    .laneDisable 2 0 (2 ^ 32), .laneLock 105 0 0, .laneLock 0 16 0,
    .laneLock 0 0 256, .laneLoss 105 false, .autoHuntTimeout 105,
    .escanStart 0 0 0, .escanStart 2 105 0, .escanStart 2 0 (2 ^ 32),
    .escanAbort 0 0 0, .escanAbort 2 105 0, .escanAbort 2 0 (2 ^ 32),
    .escanDwellDone 105 0, .mgmtBypass .mspi 256 0, .mgmtBypass .mspi 0 256,
    .sdiTrsAlign 105 0 0 0 0 false, .sdiLineReceived 105 0 0 0 [], .edhPacketReceived 105 0 none,
    .vpidPacketReceived 105 0 [], .vpidTimeout 105, .gistraBlockReceived 105 [] 0 0 none,
    .gistraBlockSend 105 [] [] false, .seqGapTimeout 105, .qwSend 105] : List Instr).any wellFormed = false := by decide +kernel

theorem test_ill_formed_4 : ([
    .seqGapTimeout 105, .qwSend 105, .qwReceived 105 0,
    .qwReceived 0 (2 ^ 32), .qwLoss 105, .tsReceived 105 0 0 0 false false false,
    .trainRateTimeout 105, .trainRetryTimeout 105, .retrainCondition 105 0,
    .retrainCondition 0 256, .cntClr 0 0 0, .cntClr 2 105 0,
    .cntClr 2 0 (2 ^ 32), .inpStart 0 0, .inpStart 2 96,
    .inpStop 0 0, .inpStop 2 96, .inputFrameStart 96,
    .inputFrameComplete 96, .freezeMsExpiry 96, .inputFifoEccFault 96 0,
    .inputFifoEccFault 0 (2 ^ 40), .ancPacketReceived 96 pkt, .ancfRingWrite 0 0 0 0,
    .ancfRingWrite 2 96 0 0, .ancfRingWrite 2 0 16 0, .ancfRingWrite 2 0 0 (2 ^ 32)] : List Instr).any wellFormed = false := by decide +kernel

theorem test_ill_formed_5 : ([
    .ancfRingWrite 2 0 16 0, .ancfRingWrite 2 0 0 (2 ^ 32), .streetLineMiss 96 0 0,
    .gangCfgWrite 0 0, .gangCfgWrite 2 (2 ^ 32), .cloneCreate 16 [],
    .cloneCreate 0 (256 :: List.replicate 63 0), .jobCreate 16 [] [], .jobCreate 0 (256 :: List.replicate 63 0) [],
    .jobStart 0 0 0, .jobStart 2 32 0, .jobStart 2 0 8,
    .jobStop 0 0 0, .jobStop 2 32 0, .jobStop 2 0 8,
    .engineLocalStoreFault 32 0, .engineLocalStoreFault 0 (2 ^ 40), .surfaceCreate 16 [],
    .surfaceCreate 0 (256 :: List.replicate 63 0), .outStart 0 0, .outStart 2 96,
    .outStop 0 0, .outStop 2 96, .pipelineLineStart 96 0 0 [],
    .pipelineLineStart 0 (2 ^ 32) 0 [], .lineUnderrun 96 0 false, .lineUnderrun 0 256 false] : List Instr).any wellFormed = false := by decide +kernel

theorem test_ill_formed_6 : ([
    .lineUnderrun 96 0 false, .lineUnderrun 0 256 false, .lineStoreEccFault 96 0,
    .lineStoreEccFault 0 (2 ^ 40), .ancRingWrite 0 0 0, .ancRingWrite 2 96 0,
    .ancRingWrite 2 0 (2 ^ 32), .skimCreate 16 [], .skimCreate 0 (256 :: List.replicate 63 0),
    .routeCreate 16 [], .routeCreate 0 (256 :: List.replicate 63 0), .audioPacketReceived 96 0 0 [] false false,
    .audioPacketReceived 0 8 0 [] false false, .groupRateWindow 96 0 0, .groupRateWindow 0 8 0,
    .groupPacketTimeout 96 0, .groupPacketTimeout 0 8, .asrcBlock 96,
    .npcmChange 96 0 0 false, .npcmChange 0 8 0 false, .npcmChange 0 0 2 false,
    .insRingWrite 0 0 0, .insRingWrite 2 64 0, .insRingWrite 2 0 (2 ^ 32),
    .tapRingWrite 0 0 0, .tapRingWrite 2 64 0, .tapRingWrite 2 0 (2 ^ 32)] : List Instr).any wellFormed = false := by decide +kernel

theorem test_ill_formed_7 : ([
    .tapRingWrite 2 64 0, .tapRingWrite 2 0 (2 ^ 32), .shuffleBufferEcc (2 ^ 40) [],
    .programLoad 16 [], .programLoad 0 (256 :: List.replicate 63 0), .threadBind 16 [],
    .threadBind 0 (256 :: List.replicate 63 0), .threadStart 16 [], .threadStart 0 (256 :: List.replicate 63 0),
    .threadStop 16 [], .threadStop 0 (256 :: List.replicate 63 0), .paramWrite 0 0 0 0,
    .paramWrite 2 160 0 0, .paramWrite 2 0 32 0, .paramWrite 2 0 0 (2 ^ 32),
    .nop 160, .br 160, .brz 160,
    .brnz 160, .call 160, .ret 160,
    .loopOp 160, .halt 160, .ldi 160,
    .add 160, .sub 160, .andOp 160] : List Instr).any wellFormed = false := by decide +kernel

theorem test_ill_formed_8 : ([
    .sub 160, .andOp 160, .orOp 160,
    .xorOp 160, .shl 160, .shr 160,
    .cmp 160, .ldp 160, .stp 160,
    .waitf 160, .waitl 160, .waite 160,
    .waitt 160, .waitComplete 160, .take 160,
    .layer 160, .laypos 160, .matrix 160,
    .skimx 160, .clone 160, .commit 160,
    .commitTargetReached 160, .amap 160, .again 160,
    .adelay 160, .amute 160, .uhalt 160] : List Instr).any wellFormed = false := by decide +kernel

theorem test_ill_formed_9 : ([
    .amute 160, .uhalt 160, .uset 160,
    .urun 160, .emit 160, .post 160,
    .fence 160, .candConfig 16 [], .candConfig 0 (256 :: List.replicate 63 0),
    .candSignalChange 12 false 0, .candSignalChange 0 false 3, .wtrExpiry 12,
    .refCfgWrite 0 0, .refCfgWrite 2 (2 ^ 32), .manHiWrite 0 0,
    .manHiWrite 2 (2 ^ 32), .tlnCfgWrite 0 0 0, .tlnCfgWrite 2 16 0,
    .tlnCfgWrite 2 0 (2 ^ 32), .timelineAlignStart 16, .tlnPhaseWrite 0 0 0,
    .tlnPhaseWrite 2 16 0, .tlnPhaseWrite 2 0 (2 ^ 32), .slewStep 16,
    .tlnCut 0 0 0, .tlnCut 2 16 0, .tlnCut 2 0 (2 ^ 32)] : List Instr).any wellFormed = false := by decide +kernel

theorem test_ill_formed_10 : ([
    .tlnCut 2 16 0, .tlnCut 2 0 (2 ^ 32), .lockTimeout 3 2 0 false,
    .lockTimeout 0 0 0 false, .lockTimeout 0 2 (2 ^ 32) false, .fabricTimeout 4 2 0 0 false,
    .fabricTimeout 0 0 0 0 false, .fabricTimeout 0 2 0 (2 ^ 32) false, .fwRegionWrite 0 0 0 0,
    .fwRegionWrite 2 512 0 0, .fwRegionWrite 2 0 4 0, .fwRegionWrite 2 0 0 (2 ^ 32),
    .txPost 0 0, .txPost 2 (2 ^ 32), .mbPop 0 0 0,
    .mbPop 2 16 0, .mbPop 2 0 (2 ^ 32), .mbCfgArm 0 0 0,
    .mbCfgArm 2 16 0, .mbCfgArm 2 0 (2 ^ 32), .lockAcquireRead 0 0,
    .lockAcquireRead 2 16, .lockRelease 0 0 0, .lockRelease 2 16 0,
    .lockRelease 2 0 (2 ^ 32), .lockForce 0 0 0, .lockForce 2 16 0] : List Instr).any wellFormed = false := by decide +kernel

theorem test_ill_formed_11 : ([
    .lockForce 0 0 0, .lockForce 2 16 0, .lockForce 2 0 (2 ^ 32),
    .nvsDataWrite 0 0 0, .nvsDataWrite 2 0x80000 0, .nvsDataWrite 2 0 (2 ^ 32),
    .nvsPortDataAccess 0 false 0, .nvsPortDataAccess 2 false (2 ^ 32), .nvsCfgWrite 0 0,
    .nvsCfgWrite 2 (2 ^ 32), .nvsStore 0 0, .nvsStore 2 (2 ^ 32),
    .nvsRecall 0 0, .nvsRecall 2 (2 ^ 32), .twnPairWrite 0 0,
    .twnPairWrite 2 (2 ^ 32), .twnYield 0 0, .twnYield 2 (2 ^ 32),
    .twnResync 0 0, .twnResync 2 (2 ^ 32), .identReceived (2 ^ 32) 0 0,
    .identReceived 0 256 0, .identReceived 0 0 256, .decisionRecordReceived ⟨16, 0, .endMark 0⟩,
    .decisionRecordReceived ⟨0, 2 ^ 32, .endMark 0⟩, .decWaitExpiry 16, .lineRecordReceived 96 0 0 0 0] : List Instr).any wellFormed = false := by decide +kernel

theorem test_ill_formed_12 : ([
    .decWaitExpiry 16, .lineRecordReceived 96 0 0 0 0, .lineRecordReceived 0 4096 0 0 0,
    .lineRecordReceived 0 0 4096 0 0, .lineRecordReceived 0 0 0 (2 ^ 24) 0, .lineRecordReceived 0 0 0 0 (2 ^ 24),
    .evidenceReceived 8 0, .evidenceReceived 0 (2 ^ 32), .twinTakeReceived (2 ^ 32) false,
    .xfCfgWrite 0 0 0 0 0 false, .xfCfgWrite 2 8 0 0 0 false, .xfCfgWrite 2 0 (2 ^ 32) 0 0 false,
    .xfCfgWrite 2 0 0 256 0 false, .xfCfgWrite 2 0 0 0 8 false, .twinMbForward 4 false,
    .attest 16 [], .attest 0 (256 :: List.replicate 63 0), .svnCommit 0 0,
    .svnCommit 2 (2 ^ 32), .powerUp 16 false, .imageCheckDone (some [256]) none false false false 0,
    .imageCheckDone none (some [256]) false false false 0, .modeSet 16 [], .modeSet 0 (256 :: List.replicate 63 0),
    .deviceReset 0 0, .deviceReset 2 (2 ^ 32), .domainReset 0] : List Instr).any wellFormed = false := by decide +kernel

theorem test_ill_formed_13 : ([
    .deviceReset 2 (2 ^ 32), .domainReset 0, .domainResetEnd 512,
    .domainOn 0, .domainSleep 0, .domainOff 0,
    .lockstepSplit 2 none, .svcTestStart 0 0, .svcTestStart 2 (2 ^ 32),
    .tempSample 16 0, .tempSample 0 65536, .thermalTrip 16 0,
    .thermalTrip 0 65536, .flogRead .mspi (2 ^ 32), .forceLimp .mspi (2 ^ 32),
    .mgmtDomainReset .mspi 512, .mgmtNvsCfg .mspi (2 ^ 32), .nvsRead .mspi (2 ^ 24) 0,
    .nvsWrite .mspi (2 ^ 24) [], .nvsWrite .mspi 0 (256 :: List.replicate 63 0), .mgmtRegRead .mspi (2 ^ 32),
    .mgmtRegWrite .mspi (2 ^ 32) 0, .mgmtRegWrite .mspi 0 (2 ^ 32), .hostBar2Access 16 0 false [] 0 0,
    .hostBar2Access 0 (2 ^ 40) false [] 0 0, .hostBar2Access 0 0 false (256 :: List.replicate 63 0) 0 0, .twinNoticeReceived 4 0 0 0] : List Instr).any wellFormed = false := by decide +kernel

theorem test_ill_formed_14 : ([
    .hostBar2Access 0 0 false (256 :: List.replicate 63 0) 0 0, .twinNoticeReceived 4 0 0 0, .twinNoticeReceived 0 65536 0 0,
    .twinNoticeReceived 0 0 (2 ^ 32) 0, .twinNoticeReceived 0 0 0 (2 ^ 64), .twinCompletionReceived 4 false 0,
    .twinCompletionReceived 0 false (2 ^ 32), .arpOrIgmpReceived 0 (2 ^ 32) none, .voidTransaction .mspi 256,
    .firmwareNoticeTake 16 none] : List Instr).any wellFormed = false := by decide +kernel

theorem test_well_formed : ([.registerWrite 2 4 4 5 2, .laneEnable 0x1F 104 0, .nop 159, .fabricTimeout 3 2 0 0 false, .powerUp 15 true] : List Instr).all wellFormed = true := by decide +kernel

end Sys2Proof.Tests
end

section
/-! PROOFS of the scope chapter, the order of the checks (R20): what the status of a list of checks says of the list. -/

namespace Sys2Proof.Machine

/-- Where OK stands beside no check, the checks pass exactly when none fails. -/
theorem check_ok_iff_none_fails {l : List (Bool × Status)} (hl : ∀ e ∈ l, e.2 ≠ .ok) : check l = .ok ↔ ∀ e ∈ l, e.1 = false := by
  rw [check_ok_iff]
  refine forall₂_congr fun e he => ?_
  simp [hl e he]

/-- A status other than OK is that of a check that fails. -/
theorem check_failing_mem {l : List (Bool × Status)} (h : check l ≠ .ok) : (true, check l) ∈ l := by
  obtain hok | ⟨e, he, hf, hs⟩ := check_mem l
  · exact absurd hok h
  · rw [← hs, ← hf]; exact he

/-- Settles O6: the fold of `check` answers a failing check, and none of lower rank fails. -/
theorem checksInOrder : Obligations.ChecksInOrder := by
  unfold Obligations.ChecksInOrder
  refine ⟨fun l hl => ⟨check_ok_iff_none_fails hl, check_failing_mem, check_le l⟩, ?_⟩
  decide

end Sys2Proof.Machine
end

section
/-! PROOFS of the scope chapter, refused accesses (R16, R501, R502, R507): what an error response leaves in the error log, and what the
fabric answers where a locked sequence meets the access. -/

namespace Sys2Proof.Machine

open Sys2Proof

/-! ### The entry of the error log -/

/-- One more entry stands in the error log (R507). -/
theorem State.logErr_wrIndex (s : State) (st : Status) (p m : Nat) (w h : Bool) (a x : Nat) :
    (s.logErr st p m w h a x).rdk R.FAB_ERR_WR_INDEX 0 0 = (s.rdk R.FAB_ERR_WR_INDEX 0 0 + 1) % 2 ^ 32 := by
  unfold State.logErr
  simp only [State.wr_eq, State.inc_eq, State.rd_eq]
  rw [State.rdk_wrk_ne _ _ _ _ _ _ _ _ (.inl (by decide)), State.rdk_wrk_same]
  rfl

/-- The INFO word of the entry written: status, principal, master, direction and space (R508). -/
theorem State.logErr_info (s : State) (st : Status) (p m : Nat) (w h : Bool) (a x : Nat) :
    (s.logErr st p m w h a x).rdk R.FAB_ERR_INFO_INFO (s.rdk R.FAB_ERR_WR_INDEX 0 0 % 64) 0
      = (st.code * 2 ^ 16 + p * 2 ^ 8 + m * 4 + b2n w * 2 + b2n h) % 2 ^ 32 := by
  unfold State.logErr
  simp only [State.wr_eq, State.inc_eq, State.rd_eq]
  iterate 5 rw [State.rdk_wrk_ne _ _ _ _ _ _ _ _ (.inl (by decide))]
  exact State.rdk_wrk_same _ _ _ _ _

/-- A refusal by a region leaves what its log entry has written, besides its own counter and flag (R509, R513). -/
theorem State.fwLog_rdk_eq_logErr (s : State) (r p m : Nat) (w h : Bool) (a : Nat) (f : Fld) (i j : Nat)
    (hd : Fld.key f ≠ Fld.key R.FAB_FW_DENY_COUNT) (he : Fld.key f ≠ Fld.key R.FAB_EVT_FLAGS)
    (ho : Fld.key f ≠ Fld.key (occFld 0x00020034 2)) :
    (s.fwLog r p m w h a).rdk f i j = (s.logErr .protected' p m w h a (2 ^ 29 + r * 2 ^ 20)).rdk f i j := by
  unfold State.fwLog
  rw [State.flag_rdk_ne _ _ _ _ _ _ _ _ _ (.inl ⟨he, ho⟩), State.inc_eq, State.rdk_wrk_ne _ _ _ _ _ _ _ _ (.inl hd)]

/-- The log entry of an error response, whichever way it is refused: a field of the log reads as an entry with the status has left it. -/
theorem State.deny_rdk_eq_logErr (s : State) (st : Status) (p a : Nat) (w : Bool) :
    ∃ x, ∀ (f : Fld) (i j : Nat), Fld.key f ≠ Fld.key R.FAB_FW_DENY_COUNT → Fld.key f ≠ Fld.key R.FAB_EVT_FLAGS →
      Fld.key f ≠ Fld.key (occFld 0x00020034 2) → (s.deny st p a w).rdk f i j = (s.logErr st p (masterOf p) w false a x).rdk f i j := by
  have drop_resp : ∀ (s' : State) (y : Resp) (f : Fld) (i j : Nat), ({ s' with resp := y } : State).rdk f i j = s'.rdk f i j :=
    fun _ _ _ _ _ => rfl
  unfold State.deny
  dsimp only
  split
  next r hr =>
    obtain rfl : st = .protected' := Decidable.byContradiction fun hst => by
      rw [if_neg hst] at hr; cases hr
    refine ⟨2 ^ 29 + r * 2 ^ 20, fun f i j hd he ho => ?_⟩
    rw [drop_resp, State.fwLog_rdk_eq_logErr s r p (masterOf p) w false a f i j hd he ho]
  next => exact ⟨0, fun f i j _ _ _ => drop_resp _ _ f i j⟩

/-- The numbers of a principal and its master have room in the INFO word (R23, R492). -/
theorem isPrincipal_bounds {p : Nat} (h : isPrincipal p = true) : p < 2 ^ 8 ∧ masterOf p < 2 ^ 5 := by
  simp only [isPrincipal, isCore, isFn, Bool.or_eq_true, Bool.and_eq_true, beq_iff_eq, decide_eq_true_eq] at h
  refine ⟨by omega, ?_⟩
  simp only [masterOf, isFn, Bool.or_eq_true, Bool.and_eq_true, beq_iff_eq, decide_eq_true_eq]
  (repeat' split) <;> omega

theorem Status.code_lt (st : Status) : st.code < 2 ^ 5 := by cases st <;> decide

/-- A status code shares no bit with the upper half word, so adding it there is the OR of R16. -/
theorem Status.readData_eq_or (st : Status) : 0xFFFF0000 + st.code = 0xFFFF0000 ||| st.code := by cases st <;> rfl

theorem b2n_le_one (b : Bool) : b2n b ≤ 1 := by cases b <;> decide

/-! ### The error response -/

theorem State.deny_dom (s : State) (st : Status) (p a : Nat) (w : Bool) : (s.deny st p a w).dom = s.dom := by
  rw [State.deny_frame]

/-- The error response is the refusal of R16, also on a state that differs from `s` only in what a target that wakes changes. -/
theorem State.deny_refusedWith {s s' : State} (hs : s' = { s with segRun := s'.segRun, dom := s'.dom }) (st : Status) {p : Nat} (a : Nat)
    (w : Bool) (hp : isPrincipal p = true) : RefusedWith s (s'.deny st p a w) st w := by
  have hr : ∀ f i j, s'.rdk f i j = s.rdk f i j := by rw [hs]; exact fun _ _ _ => rfl
  obtain ⟨x, hx⟩ := s'.deny_rdk_eq_logErr st p a w
  obtain ⟨hp8, hm5⟩ := isPrincipal_bounds hp
  refine ⟨by rw [State.deny_frame], ?_, ?_, fun f u k hf => ?_, ?_⟩
  · rw [hx _ _ _ (by decide) (by decide) (by decide), State.logErr_wrIndex, hr]
  · rw [hx _ _ _ (by decide) (by decide) (by decide), ← hr, State.logErr_info]
    have hc := st.code_lt
    have hw := b2n_le_one w
    have hf : b2n false = 0 := rfl
    omega
  · rw [State.deny_rdk _ _ _ _ _ _ _ _ hf.1 hf.2, hr]
  · rw [State.deny_frame, hs]

/-- An access that waits for another master's locked sequence has no effect (R501). -/
theorem State.gate_waits (s : State) (p a : Nat) (w : Bool) (own : List (Bool × Status)) (act : State → State)
    (hb : check (s.fabricChecks p a w) = .busy) (hl : s.lockedOut p a = true) :
    s.gate p a w own act = { s with resp := Resp.waiting } := by
  simp [State.gate, State.answer, hb, hl]

/-- An access of a sequence whose lock has broken answers SC_BUSY (R502). -/
theorem State.gate_lockBroken (s : State) (p a : Nat) (w : Bool) (own : List (Bool × Status)) (act : State → State)
    (hb : check (s.fabricChecks p a w) = .busy) (hl : s.lockedOut p a = false) : s.gate p a w own act = s.deny .busy p a w := by
  simp [State.gate, State.answer, hb, hl]

/-- The fabric answers SC_BUSY for locked sequences alone. -/
theorem State.locked_of_fabric_busy {s : State} {p a : Nat} {w : Bool} (hb : check (s.fabricChecks p a w) = .busy) :
    s.lockedOut p a = true ∨ s.lockBroken p a = true := by
  have hm : (true, Status.busy) ∈ s.fabricChecks p a w := hb ▸ check_failing_mem (by rw [hb]; decide)
  unfold State.fabricChecks at hm
  split at hm
  · split at hm <;> simp at hm
  · simpa using hm

/-- Settles O7: `gate` answers a refused access by `deny`, whose log entry carries the status. -/
theorem refusedAccess : Obligations.RefusedAccess := by
  unfold Obligations.RefusedAccess
  intro s p a write own act hp
  refine ⟨fun hb hc => ?_, s.gate_waits p a write own act, fun hb hl => ?_⟩
  · rw [s.gate_deny p a write own act hb hc]
    refine ⟨State.deny_refusedWith ?_ _ a write hp, State.deny_dom _ _ _ _ _, Status.readData_eq_or _⟩
    split
    · exact s.wakeAt_frame a
    · rfl
  · rw [s.gate_lockBroken p a write own act hb hl]
    have hbr := (State.locked_of_fabric_busy hb).resolve_left (by rw [hl]; decide)
    exact ⟨State.deny_refusedWith rfl _ a write hp, hbr, State.deny_dom _ _ _ _ _⟩

end Sys2Proof.Machine
end

section
/-! PROOFS of the scope chapter, clears of event flags (R31, R32): the bits and counters that a clear leaves, and the path of the write to it. -/

namespace Sys2Proof.Machine

open Sys2Proof Sys2Proof.Laws

/-! ### Registers of the map -/

/-- Every field of the register map lies in its 32-bit word. -/
theorem regMap_flds_fit : ∀ r ∈ R.regMap, ∀ f ∈ r.flds, f.lo + f.width ≤ 32 := by decide +kernel

theorem regAt_mem {p a : Nat} {r : RegSpec} {u k : Nat} (h : regAt p a = some (r, u, k)) : r ∈ R.regMap := by
  obtain ⟨x, hx, hr⟩ := List.exists_of_findSome?_eq_some h
  split at hr
  · obtain ⟨l, -, he⟩ := Option.map_eq_some_iff.mp hr
    obtain rfl : x = r := congrArg Prod.fst he
    exact hx
  · cases hr

/-- The W1C field of a register at an offset lies in its 32-bit word. -/
theorem w1c_fld_fits {p a : Nat} {r : RegSpec} {u k : Nat} {f : Fld} (h : regAt p a = some (r, u, k))
    (hf : r.flds.find? (fun f => f.acc == .w1c) = some f) : f.lo + f.width ≤ 32 :=
  regMap_flds_fit r (regAt_mem h) f (List.mem_of_find?_eq_some hf)

/-! ### Bits -/

/-- A clear leaves the bits that its mask does not name. -/
theorem bitAt_clearBits (v m b : Nat) : bitAt (clearBits v m) b = (bitAt v b && !bitAt m b) := by
  have hsplit : v = (v &&& m) + (v ^^^ (v &&& m)) := by
    rw [add_or]
    · apply Nat.eq_of_testBit_eq; intro i
      simp only [Nat.testBit_or, Nat.testBit_and, Nat.testBit_xor]
      cases v.testBit i <;> cases m.testBit i <;> rfl
    · apply Nat.eq_of_testBit_eq; intro i
      simp only [Nat.testBit_and, Nat.testBit_xor, Nat.zero_testBit]
      cases v.testBit i <;> cases m.testBit i <;> rfl
  have hclear : clearBits v m = v ^^^ (v &&& m) := by unfold clearBits; omega
  rw [hclear, bitAt_eq, bitAt_eq, bitAt_eq, Nat.testBit_xor, Nat.testBit_and]
  cases v.testBit b <;> cases m.testBit b <;> rfl

theorem upFrom_eq_range' (lo n : Nat) : upFrom lo n = List.range' lo n := by
  induction n generalizing lo with
  | zero => rfl
  | succ n ih => rw [upFrom, ih, List.range'_succ]

/-! ### Flags and their occurrence counters -/

/-- The occurrence counters of a register lie behind its flags. -/
theorem occFld_key_ne {f : Fld} (hf : f.lo < 32) (b : Nat) : Fld.key (occFld (f.base + 4) b) ≠ Fld.key f := by
  simp only [Fld.key, occFld]; omega

/-- Each event has an occurrence counter of its own (R32). -/
theorem occFld_key_inj {o b c : Nat} (h : Fld.key (occFld o b) = Fld.key (occFld o c)) : b = c := by
  simp only [Fld.key, occFld] at h; omega

/-- The flags among `l` that the hardware sets again as it sees `again`: what a clear does after it has cleared. -/
def State.flagAgain (s : State) (f : Fld) (u k again : Nat) (l : List Nat) : State :=
  l.foldl (fun (s : State) b => if bitAt again b then s.flag f (f.base + 4) u k b else s) s

theorem State.w1cClear_eq (s : State) (f : Fld) (u k data again : Nat) :
    s.w1cClear f u k data again = (s.wrk f u k (clearBits (s.rdk f u k) data)).flagAgain f u k again (upFrom 0 f.width) := rfl

theorem State.flagAgain_cons (s : State) (f : Fld) (u k again c : Nat) (l : List Nat) :
    s.flagAgain f u k again (c :: l) = (if bitAt again c then s.flag f (f.base + 4) u k c else s).flagAgain f u k again l := rfl

theorem State.flagAgain_frame (s : State) (f : Fld) (u k again : Nat) (l : List Nat) : RegsOnly s (s.flagAgain f u k again l) := by
  induction l generalizing s with
  | nil => exact RegsOnly.refl s
  | cons c l ih =>
    rw [State.flagAgain_cons]
    split
    · exact ((RegsOnly.refl s).flag f _ u k c).trans (ih _)
    · exact ih s

/-- A flag reads 1 after the hardware has set some again when it did before, or it is one of them. -/
theorem State.flagAgain_bit {f : Fld} (hf : f.lo < 32) (s : State) (u k again : Nat) (l : List Nat) {b : Nat} (hb : b < f.width) :
    bitAt ((s.flagAgain f u k again l).rdk f u k) b = (bitAt (s.rdk f u k) b || (decide (b ∈ l) && bitAt again b)) := by
  induction l generalizing s with
  | nil => simp [State.flagAgain]
  | cons c l ih =>
    rw [State.flagAgain_cons, ih]
    by_cases hc : bitAt again c = true
    · rw [if_pos hc, State.flag_rdk _ _ _ _ _ _ (occFld_key_ne hf c), bitAt_mod _ _ _ hb, bitAt_setBit]
      by_cases hbc : c = b
      · subst hbc; simp [hc]
      · simp [hbc, Ne.symm hbc]
    · by_cases hbc : b = c
      · subst hbc; simp [hc]
      · simp [hc, hbc]

/-- An event that the hardware does not set again keeps its occurrence counter. -/
theorem State.flagAgain_occ_kept {f : Fld} (hf : f.lo < 32) (s : State) (u k again : Nat) (l : List Nat) {b : Nat}
    (hb : b ∉ l ∨ bitAt again b = false) :
    (s.flagAgain f u k again l).rdk (occFld (f.base + 4) b) u k = s.rdk (occFld (f.base + 4) b) u k := by
  induction l generalizing s with
  | nil => rfl
  | cons c l ih =>
    rw [State.flagAgain_cons, ih _ (hb.imp_left (mt (List.mem_cons_of_mem c)))]
    split
    next hc =>
      have hbc : b ≠ c := by
        rintro rfl
        rcases hb with hb | hb
        · exact hb List.mem_cons_self
        · rw [hb] at hc; cases hc
      exact State.flag_rdk_ne _ _ _ _ _ _ _ _ _ (.inl ⟨occFld_key_ne hf b, mt occFld_key_inj hbc⟩)
    next => rfl

/-- An event that the hardware sets again is counted once. -/
theorem State.flagAgain_occ_counted {f : Fld} (hf : f.lo < 32) (s : State) (u k again : Nat) {l : List Nat} (hl : l.Nodup) {b : Nat}
    (hb : b ∈ l) (ha : bitAt again b = true) :
    (s.flagAgain f u k again l).rdk (occFld (f.base + 4) b) u k = min (s.rdk (occFld (f.base + 4) b) u k + 1) 0xFFFF := by
  induction l generalizing s with
  | nil => cases hb
  | cons c l ih =>
    obtain ⟨hcl, hl⟩ := List.nodup_cons.mp hl
    rw [State.flagAgain_cons]
    rcases List.mem_cons.mp hb with rfl | hbl
    · rw [State.flagAgain_occ_kept hf _ _ _ _ _ (.inl hcl), if_pos ha, State.flag_occ _ _ _ _ _ _ (occFld_key_ne hf b)]
    · have hbc : b ≠ c := by rintro rfl; exact hcl hbl
      rw [ih _ hl hbl]
      split
      · rw [State.flag_rdk_ne _ _ _ _ _ _ _ _ _ (.inl ⟨occFld_key_ne hf b, mt occFld_key_inj hbc⟩)]
      · rfl

/-! ### The clear of a W1C register -/

section
variable {f : Fld} (hf : f.lo + f.width ≤ 32) (s : State) (u k data again : Nat) {b : Nat} (hb : b < f.width)
include hf hb

/-- After a clear a flag reads 1 where the hardware sets it again, or where it did before and its bit was written 0 (R31). -/
theorem State.w1cClear_bit :
    bitAt ((s.w1cClear f u k data again).rdk f u k) b = (bitAt again b || (bitAt (s.rdk f u k) b && !bitAt data b)) := by
  have hmem : b ∈ upFrom 0 f.width := by simp [upFrom_eq_range', hb]
  rw [State.w1cClear_eq, State.flagAgain_bit (by omega) _ _ _ _ _ hb, State.rdk_wrk_same, bitAt_mod _ _ _ hb, bitAt_clearBits,
    decide_eq_true hmem, Bool.true_and, Bool.or_comm]

theorem State.w1cClear_occ_kept (ha : bitAt again b = false) :
    (s.w1cClear f u k data again).rdk (occFld (f.base + 4) b) u k = s.rdk (occFld (f.base + 4) b) u k := by
  have hlo : f.lo < 32 := by omega
  rw [State.w1cClear_eq, State.flagAgain_occ_kept hlo _ _ _ _ _ (.inr ha), State.rdk_wrk_ne _ _ _ _ _ _ _ _ (.inl (occFld_key_ne hlo b))]

theorem State.w1cClear_occ_counted (ha : bitAt again b = true) :
    (s.w1cClear f u k data again).rdk (occFld (f.base + 4) b) u k = min (s.rdk (occFld (f.base + 4) b) u k + 1) 0xFFFF := by
  have hlo : f.lo < 32 := by omega
  have hmem : b ∈ upFrom 0 f.width := by simp [upFrom_eq_range', hb]
  have hnodup : (upFrom 0 f.width).Nodup := by rw [upFrom_eq_range']; exact List.nodup_range'
  rw [State.w1cClear_eq, State.flagAgain_occ_counted hlo _ _ _ _ hnodup hmem ha,
    State.rdk_wrk_ne _ _ _ _ _ _ _ _ (.inl (occFld_key_ne hlo b))]

end

theorem State.w1cClear_resp (s : State) (f : Fld) (u k data again : Nat) : (s.w1cClear f u k data again).resp = s.resp := by
  rw [State.w1cClear_eq, State.flagAgain_frame]; rfl

/-! ### The way of the write -/

/-- What an access that succeeds changes tells nothing of what stands at an offset. -/
theorem State.accessed_emptyAt (s : State) (a : Nat) : (s.accessed a).emptyAt a = s.emptyAt a := by
  unfold State.accessed; rw [State.wakeAt_frame]; rfl

theorem State.accessed_rdk (s : State) (a : Nat) (f : Fld) (u k : Nat) : (s.accessed a).rdk f u k = s.rdk f u k := by
  simp [State.accessed]

/-- A write of flags that the fabric and the block's writers let through is the clear (R574). -/
theorem State.writeFlags_eq (s : State) (p a data again : Nat) (f : Fld) (u k : Nat) (hf : check (s.fabricChecks p a true) = .ok)
    (hm : s.mayWrite p a = true) (he : s.emptyAt a = false) :
    s.writeFlags p a data again f u k = (s.accessed a).w1cClear f u k (data % 2 ^ 32) again := by
  have hc : check (s.fabricChecks p a true ++ [(!s.mayWrite p a, .protected')]) = .ok := by
    rw [check_ok_iff]
    intro e he hfail
    rcases List.mem_append.mp he with he | he
    · exact (check_ok_iff _).mp hf e he hfail
    · simp_all
  unfold State.writeFlags
  rw [State.answer_ok _ _ _ _ _ _ hc, ← State.accessed, State.accessed_emptyAt, he]
  rfl

/-- The record to the twin tells of a write and changes neither a register nor the response. -/
theorem regWrite_reads (p a data again : Nat) (s : State) :
    (∀ f u k, (regWrite p a data again s).rdk f u k = (writeAny p a data again s).rdk f u k)
      ∧ (regWrite p a data again s).resp = (writeAny p a data again s).resp := by
  unfold regWrite
  split
  · exact ⟨fun _ _ _ => rfl, rfl⟩
  · refine ⟨fun f u k => by simp only [State.rdk, regs_regRec], ?_⟩
    unfold State.regRec
    split
    · rw [State.sendDet_frame]
    · rfl

/-- Settles O9: the write comes to `w1cClear`, whose fold raises each flag of `again` once. -/
theorem flagClears : Obligations.FlagClears := by
  unfold Obligations.FlagClears
  intro s p a data again r u k f hr hfind hS0 hUnit hfab hmay hempty
  have hfit := w1c_fld_fits hr hfind
  have hw : writeAny p a data again s = (s.accessed a).w1cClear f u k (data % 2 ^ 32) again := by
    simp only [writeAny, hS0, hUnit, State.writeWord, hr, hfind]
    exact s.writeFlags_eq p a data again f u k hfab hmay hempty
  obtain ⟨hrdk, hresp⟩ := regWrite_reads p a data again s
  simp only [hw] at hrdk hresp
  refine ⟨regWrite p a data again s, rfl, ?_, fun b hb => ?_, fun b hb ha => ?_, fun b hb ha => ?_⟩
  · rw [hresp, State.w1cClear_resp]; rfl
  · rw [hrdk, State.w1cClear_bit hfit _ _ _ _ _ hb, State.accessed_rdk, bitAt_mod _ _ _ (by omega)]
  · rw [hrdk, State.w1cClear_occ_kept hfit _ _ _ _ _ hb ha, State.accessed_rdk]
  · rw [hrdk, State.w1cClear_occ_counted hfit _ _ _ _ _ hb ha, State.accessed_rdk]

end Sys2Proof.Machine
end

section
/-! PROOFS of the scope chapter, uncorrectable HBM errors (R55, R364, R679): the clauses for the units' readers name no mode, and in BOOT and in
LIMP no unit reads HBM. -/

namespace Sys2Proof.Machine

open Sys2Proof

/-- Where nothing happens no fault record is written: its index moves on (R639). -/
theorem not_faultLogged_self (s : State) (dom code : Nat) (st : Status) (fatal : Bool) (arg : List Nat) :
    ¬ FaultLogged s s dom code st fatal arg := by
  rintro ⟨hindex, -⟩
  omega

/-- A pipeline reads no HBM in BOOT and in LIMP, and so meets no error there (R364, R632). -/
theorem hbmEccUncorr_pipe_unitsOff {s : State} (h : s.unitsOff = true) (n addr : Nat) (hit : List (Nat × Nat)) :
    exec (.hbmEccUncorr (.pipe n) addr hit) s = .next s := by
  have hsame : hbmEccUncorr (.pipe n) addr hit s = s := by simp [hbmEccUncorr, h]
  exact congrArg Host.Outcome.next hsame

/-- Refutes O14: after reset the device is in BOOT, so an error of a pipeline's word is no read of it, and the fault record that the clause of
the pipelines promises in every state is not written. -/
theorem not_memoryErrors : ¬ Obligations.MemoryErrors := by
  unfold Obligations.MemoryErrors
  intro h
  obtain ⟨-, -, -, -, hpipe, -⟩ := h State.reset 0 []
  obtain ⟨t, ht, hlog, -⟩ := hpipe 0
  rw [hbmEccUncorr_pipe_unitsOff (by decide +kernel)] at ht
  obtain rfl := Host.Outcome.next.inj ht
  exact not_faultLogged_self _ _ _ _ _ _ hlog

end Sys2Proof.Machine
end

section
/-! PROOFS of the scope chapter, plain register writes (R30, R178): the clause of a write that sets QUAD reads the field through `State.on`, which
a stored value other than 0 and 1 makes false, while the write compares bit 31 of the word read before. -/

namespace Sys2Proof.Machine

open Sys2Proof

/-- An unmarked write of 32 bits is the write of the register (R34, R501). -/
theorem exec_registerWrite (p a data : Nat) (s : State) : exec (.registerWrite p a 4 data 0) s = .next (regWrite p a data 0 s) := rfl

/-- A card in IDLE, as after reset, whose register file lists 3 for QUAD of the first group, a field of one bit. -/
def quadOverfull : State :=
  let s := State.reset.wrk R.MGT_MODE_MODE 0 0 mIDLE
  { s with regs := tput s.regs (Fld.key R.LNE_SDI_CFG_QUAD) [(0, [(0, 3)])] }

/-- It meets what the clause asks of the group: SDI lanes, the first of them stopped, and a QUAD that is not 1. -/
theorem quadOverfull_group : quadOverfull.laneRuns 0 = false ∧ (∀ i < 4, quadOverfull.rd R.LNE_CTL_MODE i = mdSDI)
    ∧ quadOverfull.on R.LNE_SDI_CFG_QUAD 0 = false := by decide +kernel

theorem quadOverfull_reached : quadOverfull.reached 2 (laneAddr 0 0x100) true := by decide +kernel

/-- The word of 3 in QUAD shows bit 31 already, so the write finds no change, and the members of the group go on showing 0. -/
theorem quadOverfull_write_member : (regWrite 2 (laneAddr 0 0x100) (2 ^ 31) 0 quadOverfull).rd R.LNE_SDI_STAT_QUAD_STATE 1 = 0 := by
  decide +kernel

/-- Refutes O8: a 1 written to QUAD of a stopped group of SDI lanes forms no group where the register file holds 3 for that one-bit field. No write
of the model stores such a value, but the clause is about every state. -/
theorem not_plainRegisterWrite : ¬ Obligations.PlainRegisterWrite := by
  unfold Obligations.PlainRegisterWrite
  rintro ⟨-, hquad, -⟩
  obtain ⟨hstopped, hmodes, hoff⟩ := quadOverfull_group
  obtain ⟨t, ht, -, -, hmembers⟩ := hquad quadOverfull 2 0 (2 ^ 31) (by decide) (by decide) quadOverfull_reached hstopped
    (fun i _ hi => hmodes i (by omega)) hoff (by decide)
  rw [exec_registerWrite] at ht
  obtain ⟨hshows, -⟩ := hmembers 1 (by decide) (by decide)
  rw [← Host.Outcome.next.inj ht, quadOverfull_write_member] at hshows
  exact absurd hshows (by decide)

end Sys2Proof.Machine
end
